-- ==== Sys2Proof/Word.lean ====
section
/-! DEFINITION. The words of the Presfold 420's links and counters, and the two-valued levels that a
command can name. Multi-byte fields are low byte first (R192); the byte order itself is decided in
Machine/Operands.lean. -/

namespace Sys2Proof

/-- One byte of the Host Link or of the Dock Link (R178, R79). -/
abbrev Byte := BitVec 8

/-- A 16-bit field: part time, a stamp, a sequence, a parameter value (R185, R192). -/
abbrev Half := BitVec 16

/-- The bits that a transaction, or a part of one, clocks in on MOSI, the first first, and whether CS_N rises behind
them or the transaction stays in progress (R178). -/
structure Clocked where
  bits : List Bool
  ends : Bool
deriving DecidableEq, Repr

/-- The two hall inputs (R6). -/
inductive HallInput where
  | lid    -- H_LID_N
  | fold   -- H_FOLD_N
deriving DecidableEq, Repr

/-- The level of a hall input: a low pin is a present magnet, SET; a high pin is CLEAR (R6). -/
inductive HallLevel where
  | set
  | clear
deriving DecidableEq, Repr

end Sys2Proof
end

