-- ==== Sys2Proof/Syntax.lean ====
section
/-! DEFINITION. The commands of the P420: one constructor per row of spec/opcode_table.json, with the
operands that the row's rule names. A request carries its tag and the fields of its payload as R193 and
R195 lay them out, at their widths on the Host Link, so that a value outside a field's range, which the
request's own rule refuses, is an operand like any other. Events carry what arrives with them. -/

namespace Sys2Proof

/-- One command: a Host Link transaction, a request, a reset, an arrival, an expiry or a completion. -/
inductive Instr where
  -- Host Link (R178) -------------------------------------------------------------------------------
  /-- A transaction, or a part of one: `waitedUs` µs after the command before it CS_N falls, unless it is
  low already; `mosi` are the bits then clocked in, most significant bit of each byte first, and whether CS_N then
  rises (R178, R181; log entry 24). -/
  | hostTransaction (waitedUs : Nat) (mosi : Clocked)
  -- Requests, as the HLC passes them to their blocks (R182) ------------------------------------------
  | identify (tag : Byte)
  | status (tag : Byte)
  | configSet (tag number : Byte) (value : Half)
  | configGet (tag number : Byte)
  | freeze (tag : Byte)
  | reset (tag : Byte)
  | faultClear (tag mask : Byte)
  | routeLoad (tag index source cls : Byte) (actions : Half) (flags wakeMask errorLimit length : Byte)
  | routeClear (tag index : Byte)
  | routeRead (tag index : Byte)
  | postureLoad (tag row valid posture angle : Byte) (low high : Half)
      (face lidHall foldHall : Byte) (settle : Half)
  | postureRead (tag row : Byte)
  | orientLock (tag arg : Byte)
  | dockSend (tag node cls len : Byte) (payload : List Byte)
  | detachAnswer (tag arg : Byte)
  | dockRetry (tag : Byte)
  | penConfig (tag enable : Byte) (period burst : Half)
      (taper resume keep absent progress session postures wake : Byte)
  | supply (tag arg : Byte)
  | hostState (tag arg : Byte)
  | holdClaim (tag slot cls owner : Byte) (lifetime : Half)
  | holdRelease (tag slot owner : Byte)
  | drain (tag count lane : Byte)
  -- Resets ------------------------------------------------------------------------------------------
  | coldReset
  | warmResetPin
  -- Posture Engine ------------------------------------------------------------------------------------
  | lidReadTimerExpiry
  /-- The six bytes of a read that completes: x, y and z in that order, of each the low byte first (R1). -/
  | lidSampleArrival (x y z : Byte × Byte)
  | lidReadFailure
  | rotSettleExpiry
  | pairingTimerExpiry
  | staleTimerExpiry
  /-- An accepted change of one hall input to the level named (R7). -/
  | hallChange (input : HallInput) (level : HallLevel)
  | settleTimerExpiry
  -- Traffic Classifier --------------------------------------------------------------------------------
  | dockFrameTaken
  | stallTimerExpiry
  -- Dock Link ------------------------------------------------------------------------------------------
  /-- One complete character as its eleven bits stand on DRX, a 1 for a high line: `data` the first nine, the
  start bit and the eight data bits in the order of the line from bit 0 on, then mark and stop (R79). -/
  | dockCharacter (data : BitVec 9) (mark stop : Bool)
  /-- A frame whose check character was good (R81, R83). -/
  | dockFrameArrival (node : BitVec 3) (cls : BitVec 4) (restart : Bool) (payload : List Byte)
  | errorWindowExpiry
  | transmissionStart
  | transmissionComplete
  -- Dock state machine ---------------------------------------------------------------------------------
  /-- One millisecond's three samples of DOCK_SENSE_N, true for a high pin (R99). -/
  | dockSenseLevel (s1 s2 s3 : Bool)
  | senseDebounceComplete
  | senseLoss
  | latchRequest
  | helloTimerExpiry
  | grantTimerExpiry
  | quiesceTimerExpiry
  | releaseWindowExpiry
  | latchDelayExpiry
  | latchPeriodExpiry
  | latchOnExpiry
  -- Pen Charge Controller ------------------------------------------------------------------------------
  | penCycleEnd
  | burstTimerExpiry
  | probeStart
  | probeEnd
  /-- A change of PEN_RX, `atUs` µs into the listen interval (R127). -/
  | penRxEdge (rising : Bool) (atUs : Nat)
  | captureOverflow
  | progressWindowExpiry
  | sessionLimit
  -- Sleep Decision Unit --------------------------------------------------------------------------------
  | dimTimerExpiry
  | sleepTimerExpiry
  | gatherTimerExpiry
  | holdExpiry (slot : Fin 8)
  -- Report Queue ---------------------------------------------------------------------------------------
  | flushTimerExpiry
  -- Millisecond levels ---------------------------------------------------------------------------------
  /-- One millisecond's three samples of H_LID_N and of H_FOLD_N, true for a high pin (R6). -/
  | hallMillisecondLevel (l1 l2 l3 f1 f2 f3 : Bool)
  /-- One millisecond's three samples of LATCH_REQ_N, true for a high pin (R100). -/
  | latchButtonMillisecondLevel (s1 s2 s3 : Bool)
deriving DecidableEq, Repr

end Sys2Proof
end

