-- ==== Sys2Proof/Decode.lean ====
section
/-! DEFINITION. What command a word spells by the bits of spec/opcode_table.json. The table gives none of
its 66 rows any bits (every row's "fields" is empty and no row has a "fixed" pattern), so no word spells a
command. The bytes of the Host Link and of the Dock Link are no words of the table: they are read by
HOST_TRANSACTION (R179) and DOCK_CHARACTER (R81). -/

namespace Sys2Proof

/-- The command a word spells by the table's bits: none, since the table gives no row any bits. -/
def decodeTableWord (_nbits _w : Nat) : Option Instr := none

end Sys2Proof
end

