-- ==== Sys2Proof/Config.lean ====
section
/-! DEFINITION. What the part's implementation fixes: the capacities that IDENTIFY reports (R183) and the
fixed durations that have no parameter. No rule of the spec leaves the value of a result open, so there is
no free value here; the orders that the spec leaves open stand in the state (`Choices`, log entry 3). -/

namespace Sys2Proof.Config

/-- Route Table entries (R43). -/
abbrev routeEntries : Nat := 64
/-- Posture Table rows (R23). -/
abbrev postureRows : Nat := 12
/-- Held Pool slots (R65). -/
abbrev poolSlots : Nat := 32
/-- URGENT lane records (R166). -/
abbrev urgentRecords : Nat := 32
/-- URGENT records that may carry the forwarded mark (R166). -/
abbrev forwardedRecords : Nat := 24
/-- BULK lane records (R170). -/
abbrev bulkRecords : Nat := 96
/-- Coalescing Stage records (R168). -/
abbrev stageRecords : Nat := 8
/-- The stage's high-water mark (R168). -/
abbrev stageHighWater : Nat := 6
/-- Hold Slots (R158). -/
abbrev holdSlots : Nat := 8
/-- Dock Receive Buffer frames (R85). -/
abbrev bufferFrames : Nat := 4
/-- Buffer count at which DHOLD is asserted (R86). -/
abbrev holdThreshold : Nat := 3
/-- Dock Transmit Queue frame slots (R87). -/
abbrev transmitSlots : Nat := 4
/-- Largest request payload in bytes (R179, R183). -/
abbrev requestPayload : Nat := 64
/-- Largest DRAIN response payload in bytes (R173, R183). -/
abbrev drainPayload : Nat := 512
/-- Largest payload of a Dock Link frame (R79). -/
abbrev framePayload : Nat := 32
/-- The interval between two transactions, in µs (R181). -/
abbrev hostIntervalUs : Nat := 20
/-- Bound on one I2C read, in ms (R2). -/
abbrev lidReadBound : Nat := 2
/-- Consecutive lid read failures that raise LID_SENSOR (R2). -/
abbrev lidFailureLimit : Nat := 10
/-- Length of the link error window, in ms (R84). -/
abbrev errorWindow : Nat := 1000
/-- Debounce of LATCH_REQ_N, in ms (R100). -/
abbrev buttonDebounce : Nat := 30
/-- IDENT_QUERY frames sent before FAULTED (R104). -/
abbrev identQueries : Nat := 3
/-- Length of the listen interval, in µs (R127). -/
abbrev listenUs : Nat := 5000
/-- The silent count at which a cycle in FULL is probed (R127). -/
abbrev fullProbeCycle : Nat := 8

end Sys2Proof.Config
end

