-- ==== Sys2Proof/Machine/State.lean ====
section
/-! DEFINITION. The state of the P420 as plain data, block by block, and its value after cold reset.
Each field cites the rule that names it. A timer is `none` while stopped and `some n` while running with
n ms left. A block's state is one structure, so that a frame statement can name a whole block. -/

namespace Sys2Proof.Machine

/-! ## Stops -/

/-- Reasons for which the machine could stop with a fault. The spec gives the part none: every command,
refused or not, leaves a next state (R182). The type has therefore no constructor. -/
inductive Fault
deriving DecidableEq, Repr

/-- Reasons for which a command could be left without a meaning. -/
inductive Refusal where
  /-- Raised by an arm of `exec` for a command that has no meaning yet; safe, since the model stops where
  the part goes on. No arm raises it: every command has its meaning. -/
  | notModelled (mnemonic : String)
deriving DecidableEq, Repr

/-! ## Shared kinds of value -/

/-- A timer: stopped, or running with the milliseconds left (00_scope.md "Part time, timers and expiry"). -/
abbrev Timer := Option Nat

/-- The eight postures (00_scope.md "Postures"). -/
inductive Posture where
  | unknown | closed | laptop | flat | tent | stand | tablet | slate
deriving DecidableEq, Repr

/-- The six postures that a row of the Posture Table may name (R23). -/
inductive TablePosture where
  | closed | laptop | flat | tent | stand | tablet
deriving DecidableEq, Repr

/-- The four orientations (00_scope.md "Orientations"). -/
inductive Orientation where
  | landscape | portrait | landscapeFlipped | portraitFlipped
deriving DecidableEq, Repr

/-- Hinge status (1.5). -/
inductive HingeStatus where
  | valid | held | unknown
deriving DecidableEq, Repr

/-- Base face (R14). -/
inductive Face where
  | up | down | edge | none
deriving DecidableEq, Repr

/-- Dock state (chapter Attach and Detach). -/
inductive DockState where
  | absent | sensed | identifying | attached | detachRequested | quiescing | releasing | faulted
deriving DecidableEq, Repr

/-- Sleep state (chapter Sleep Decisions). -/
inductive SleepState where
  | active | drowsy | sleepAdvised | standby | waking
deriving DecidableEq, Repr

/-- Pen state (chapter Pen Charging). -/
inductive PenState where
  | off | searching | detected | charging | paused | full | fault
deriving DecidableEq, Repr

/-- Supply class (R123). -/
inductive Supply where
  | external | battery | batteryLow
deriving DecidableEq, Repr

/-- Route action (R43). -/
inductive RouteAction where
  | drop | forward | wakeOnly
deriving DecidableEq, Repr

/-- Lane of the report queue (R164). -/
inductive Lane where
  | urgent | bulk
deriving DecidableEq, Repr

/-- The fault kinds of R189, in the order of their codes. -/
inductive FaultKind where
  | dockLink | dockOverrun | dockStall | routeDisabled | penFault | lidSensor | hostFrame | urgentLoss
deriving DecidableEq, Repr

/-- Severity of a fault kind (R185, FAULT_SEVERITY). -/
inductive Severity where
  | log | notify | wake
deriving DecidableEq, Repr

/-- The seven kinds of wake reason (R153). -/
inductive WakeKind where
  | routeWake | lidOpened | penRemoved | dockAttached | detachRequest | surpriseDetach | fault
deriving DecidableEq, Repr

/-- Record kinds, in the order of R164. -/
inductive RecordKind where
  | fwd | release | allUp | posture | orient | dock | pen | verdict | hold | route | fault | start
deriving DecidableEq, Repr

/-- Statuses of a response, in the order of R182. -/
inductive Status where
  | ok | okClamped | badFrame | badType | badArg | frozen | duplicate | full | collision | wrongState
  | held | notOwner
deriving DecidableEq, Repr

/-- Three axes in milli-g, clamped to −8000..8000 (R3, R4). -/
structure Vec3 where
  x : Int
  y : Int
  z : Int
deriving DecidableEq, Repr

/-! ## Parameters (R185) -/

/-- The parameter store: 31 values of 16 bits each, in the numbering of R185. CAL_OFFSET is signed. -/
structure Params where
  lidRate : Half
  minPlane : Half
  pairWindow : Half
  staleLimit : Half
  smoothShift : Half
  calOffset : Half
  rotHyst : Half
  rotSettle : Half
  flatLevel : Half
  hallDebounce : Half
  orientPostures : Half
  postureHyst : Half
  defaultRoute : Half
  senseDebounce : Half
  helloTimeout : Half
  linkErrLimit : Half
  stallLimit : Half
  grantTimeout : Half
  grantDefault : Half
  quiesceTimeout : Half
  latchDelay : Half
  latchPeriod : Half
  latchOn : Half
  releaseWindow : Half
  idleDim : Half
  idleSleep : Half
  wakeGather : Half
  flushTime : Half
  notifyShift : Half
  faultMask : Half
  faultSeverity : Half
deriving DecidableEq, Repr

/-! ## Records (R164) -/

/-- A record of the report queue. `forwarded` is the forwarded mark of R166; it is clear outside the
URGENT lane. A class of ANY is 0xFF (R192). -/
structure Record where
  kind : RecordKind
  lane : Lane
  source : Byte
  cls : Byte
  stamp : Half
  gap : Nat
  payload : List Byte
  forwarded : Bool
deriving DecidableEq, Repr

/-! ## Host Link Controller -/

/-- The pending response (R178, R193): response type, tag, status and payload. -/
structure Response where
  rtype : Byte
  tag : Byte
  status : Status
  payload : List Byte
deriving DecidableEq, Repr

/-- Status and count of one fault kind (R189). -/
structure FaultEntry where
  status : Bool
  count : Nat
deriving DecidableEq, Repr

/-- The transaction in progress (R178, R188): none, with CS_N high; one whose CS_N is low, whether its CS_N
fell outside the 20 µs interval, the frame that MISO carries once a byte has been clocked, and the bits
clocked in so far; or one that a warm reset abandoned, with CS_N still low. -/
inductive Transfer where
  | idle
  | running (ready : Bool) (frame : Option (List Byte)) (bits : List Bool)
  | abandoned
deriving DecidableEq, Repr

/-- What the HLC owns beside the parameter store (chapter 10). -/
structure Hlc where
  /-- The pending response (R178). -/
  response : Option Response
  /-- µs left of the 20 µs preparation interval (R181). -/
  interval : Nat
  /-- The transaction in progress (R178, R188). -/
  transfer : Transfer
  /-- The bytes shifted out on MISO, in the transaction in progress or in the last one (R178). -/
  miso : List Byte
  /-- The freeze lock (R187). -/
  frozen : Bool
  /-- The Fault Summary's statuses and counts (R189). -/
  faults : Vector FaultEntry 8
  /-- The first-fault pointer (R189). -/
  firstFault : Option FaultKind
  /-- ALERT_N asserted (R176). -/
  alert : Bool
deriving DecidableEq, Repr

/-! ## Posture Engine -/

/-- One hall input's debounce (R6). `fresh`: the first millisecond after the reset is still to come. -/
structure Hall where
  level : HallLevel
  run : Nat
  fresh : Bool
deriving DecidableEq, Repr

/-- The orientation candidate (1.7). -/
inductive Candidate where
  | none
  | settling (o : Orientation)
  | blocked (o : Orientation)
deriving DecidableEq, Repr

/-- A row's face condition (R23). -/
inductive FaceCond where
  | up | down | edge | any
deriving DecidableEq, Repr

/-- A row's hall condition (R23). -/
inductive HallCond where
  | set | clear | any
deriving DecidableEq, Repr

/-- One row of the Posture Table (R23). `band`: the angle condition is BAND. -/
structure PostureRow where
  valid : Bool
  posture : TablePosture
  band : Bool
  low : Nat
  high : Nat
  face : FaceCond
  lidHall : HallCond
  foldHall : HallCond
  settle : Nat
deriving DecidableEq, Repr

/-- Cause of a posture commit (R33). -/
inductive CommitCause where
  | settled | immediate | dockForced
deriving DecidableEq, Repr

/-- The Posture Record (R33). -/
structure PostureRecord where
  posture : Posture
  previous : Posture
  sequence : Half
  stamp : Half
  hf : Nat
  hinge : HingeStatus
  cause : CommitCause
  row : Option (Fin 12)
deriving DecidableEq, Repr

/-- The evaluation record with a settle running (2.3): candidate, candidate row, ms left. -/
structure Settle where
  posture : TablePosture
  row : Fin 12
  left : Nat
deriving DecidableEq, Repr

/-- What the PSE owns (chapters 1 and 2). -/
structure Pse where
  lid : Vec3                        -- R3
  failures : Nat                    -- R2
  readTimer : Timer                 -- R1
  readBusy : Timer                  -- R1, R2: the read in progress, ms of its bound left
  base : Vec3                       -- R4
  baseStamp : Half                  -- R4
  baseValid : Bool                  -- R5
  pairTimer : Timer                 -- R5: running means pairable
  lidHall : Hall                    -- R6
  foldHall : Hall                   -- R6
  hf : Nat                          -- R10
  hinge : HingeStatus               -- R10 to R12
  hingeStamp : Half                 -- R10
  staleTimer : Timer                -- R12
  face : Face                       -- R14
  orient : Orientation              -- R17
  flat : Bool                       -- R15
  candidate : Candidate             -- R16
  rotTimer : Timer                  -- R16
  rho : Nat                         -- R15
  lock : Bool                       -- R18
  rows : Vector PostureRow 12       -- R23
  record : PostureRecord            -- R33
  settle : Option Settle            -- R31
deriving DecidableEq, Repr

/-! ## Traffic Classifier -/

/-- The class of a route entry's key (R43). -/
inductive ClassKey where
  | any
  | exact (c : BitVec 4)
deriving DecidableEq, Repr

/-- State of a route entry (R44). -/
inductive EntryState where
  | active | disabled
deriving DecidableEq, Repr

/-- One entry of the Route Table: the host fields of R43 and the part fields of R44. `length` is `none`
for VARIABLE. -/
structure RouteEntry where
  valid : Bool
  source : BitVec 4
  cls : ClassKey
  actions : Vector RouteAction 8
  lane : Lane
  coalesce : Bool
  paired : Bool
  activity : Bool
  wakeMask : Byte
  errorLimit : Nat
  length : Option Nat
  state : EntryState
  hits : Nat
  errors : Nat
  overflow : Bool
  effective : RouteAction
deriving DecidableEq, Repr

/-- A slot of the Held Pool (R65). -/
structure PoolSlot where
  entry : Fin 64
  item : Byte
deriving DecidableEq, Repr

/-- The dock-input stall (3.8): the entry's index and the ms left of the stall timer. The stalled frame is
the head of the Dock Receive Buffer. -/
structure Stall where
  entry : Fin 64
  left : Nat
deriving DecidableEq, Repr

/-- What the TCL owns (chapters 3 and 4). -/
structure Tcl where
  routes : Vector RouteEntry 64     -- R43, R44
  pool : List PoolSlot              -- R65
  stall : Option Stall              -- R60
deriving DecidableEq, Repr

/-! ## Dock Link Controller -/

/-- A frame as the TCL receives it (3.1, R85). -/
structure Frame where
  source : BitVec 4
  cls : BitVec 4
  payload : List Byte
  restart : Bool
deriving DecidableEq, Repr

/-- The receiver's state with what it keeps of the frame in progress (5.2). -/
inductive Receiver where
  | hunt
  | length (addr crc : Byte)
  | payload (addr : Byte) (due : Nat) (got : List Byte) (crc : Byte)
  | check (addr : Byte) (got : List Byte) (crc : Byte)
deriving DecidableEq, Repr

/-- One node of the Dock Identity Record (R94). -/
structure NodeEntry where
  node : Byte
  kind : Byte
deriving DecidableEq, Repr

/-- The Dock Identity Record (R94). -/
structure Identity where
  present : Bool
  kind : Half
  revision : Byte
  flags : Byte
  nodes : List NodeEntry
deriving DecidableEq, Repr

/-- A frame slot of the Dock Transmit Queue (R87). -/
structure TxSlot where
  node : Byte
  cls : Byte
  payload : List Byte
  sending : Bool
deriving DecidableEq, Repr

/-- The sense of the quiesce mark (R87). -/
inductive QuiesceSense where
  | quiesce | unquiesce
deriving DecidableEq, Repr

/-- One character of the Dock Link: data byte and mark bit (R79). -/
structure DockChar where
  data : Byte
  mark : Bool
deriving DecidableEq, Repr

/-- A transmission in progress on DTX: its characters, and whether it is a slot's frame (R88). -/
structure Sending where
  chars : List DockChar
  fromSlot : Bool
deriving DecidableEq, Repr

/-- Phases of the latch drive (R112). -/
inductive LatchPhase where
  | off | delay | pulsing
deriving DecidableEq, Repr

/-- What the DLC owns (chapters 5 and 6). -/
structure Dlc where
  state : DockState                     -- R101
  sense : Bool                          -- R99: the accepted level is PRESENT
  senseTimer : Timer                    -- R99
  button : Bool                         -- R100: the accepted level is PRESSED
  buttonRun : Nat                       -- R100
  buttonFresh : Bool                    -- R100: the first millisecond is still to come
  queries : Nat                         -- R103
  helloTimer : Timer                    -- R103
  grantTimer : Timer                    -- R108
  quiesceTimer : Timer                  -- R111
  window : Timer                        -- R112: the release window
  latchPhase : LatchPhase               -- R112
  latchCount : Nat                      -- R112
  latchDelay : Timer                    -- R112
  latchPeriod : Timer                   -- R112
  latchOn : Timer                       -- R112
  latchDrv : Bool                       -- R112: LATCH_DRV active
  identity : Identity                   -- R94
  rx : Receiver                         -- R81
  errors : Nat                          -- R84
  errTimer : Timer                      -- R84
  buffer : List Frame                   -- R85
  slots : List TxSlot                   -- R87
  identifyMark : Bool                   -- R87
  quiesceMark : Option QuiesceSense     -- R87
  noticeMark : Bool                     -- R87
  sending : Option Sending              -- R88
  dhold : Bool                          -- R86: DHOLD asserted
deriving DecidableEq, Repr

/-! ## Pen Charge Controller -/

/-- A pen parameter set (R119): ms, per cent, counts and minutes as numbers. -/
structure PenSet where
  enable : Bool
  period : Nat
  burst : Nat
  taper : Nat
  resume : Nat
  keep : Nat
  absent : Nat
  progress : Nat
  session : Nat
  postures : Byte
  wake : Bool
deriving DecidableEq, Repr

/-- Why the last session ended (R132). -/
inductive EndCause where
  | none | removed | full | noProgress | sessionLimit | disabled | reset
deriving DecidableEq, Repr

/-- Where the running cycle stands (R124): no cycle, before the probe, probe pulse, listen. -/
inductive CyclePhase where
  | stopped | lead | probe | listen
deriving DecidableEq, Repr

/-- The capture of a listen interval (R127): the µs of the rising edge, the count taken at the falling
edge, and the overflow mark. -/
structure Capture where
  rise : Option Nat
  count : Option Nat
  overflow : Bool
deriving DecidableEq, Repr

/-- What the PCC owns (chapter 7). -/
structure Pcc where
  active : PenSet                 -- R119
  staged : Option PenSet          -- R121
  supply : Supply                 -- R123
  state : PenState                -- R139
  level : Option Nat              -- R139: last level, none for NONE
  seconds : Nat                   -- R132: session seconds
  millis : Nat                    -- R140: millisecond part of the session time
  limitDue : Bool                 -- R135: the millisecond that reaches the limit is still to be counted
  sessions : Half                 -- R132: session count
  lastEnd : EndCause              -- R132
  collision : Bool                -- R120
  sessionOpen : Bool              -- R132
  cycleTimer : Timer              -- R124
  phase : CyclePhase              -- R124
  probeTimer : Timer              -- R127
  burstTimer : Timer              -- R126
  width : Nat                     -- R125
  probed : Bool                   -- R127
  silentCycles : Nat              -- R127: silent count of FULL
  silentProbes : Nat              -- R137
  baseline : Option Nat           -- R134
  progressTimer : Timer           -- R134
  capture : Capture               -- R127
  penDrv : Bool                   -- R126, R127: PEN_DRV active
  penRx : Bool                    -- R127: PEN_RX high
deriving DecidableEq, Repr

/-! ## Sleep Decision Unit -/

/-- The advised reason (8). -/
inductive Advice where
  | none | idle | lidClosed
deriving DecidableEq, Repr

/-- Class of a hold (R158). -/
inductive HoldClass where
  | idle | full
deriving DecidableEq, Repr

/-- A claimed Hold Slot (R158). -/
structure Hold where
  cls : HoldClass
  owner : Byte
  lifetime : Half
  timer : Timer
deriving DecidableEq, Repr

/-- What the SDU owns (chapter 8). -/
structure Sdu where
  sleep : SleepState
  advised : Advice                      -- R145, R146
  dimTimer : Timer                      -- R143
  sleepTimer : Timer                    -- R143
  sleepMark : Bool                      -- R143
  holds : Vector (Option Hold) 8        -- R158
  wakeList : List WakeKind              -- R155
  gatherTimer : Timer                   -- R154
deriving DecidableEq, Repr

/-! ## Report Queue -/

/-- What the RQU owns (chapter 9). -/
structure Rqu where
  urgent : List Record      -- R166
  bulk : List Record        -- 9.3
  stage : List Record       -- 9.3
  flushTimer : Timer        -- R168
  urgentGap : Nat           -- R171
  bulkGap : Nat             -- R171
  suppressed : Bool         -- R172
deriving DecidableEq, Repr

/-! ## Orders the spec leaves open -/

/-- An order of three readers, first to last. -/
inductive ReaderOrder where
  | abc | acb | bac | bca | cab | cba
deriving DecidableEq, Repr

/-- Which of the orders that the spec leaves open this part takes (log entry 3). Nothing constrains these
fields and no command changes them, so a statement about every state holds for every order. -/
structure Choices where
  /-- Readers of a posture commit (R35): TCL, PCC, SDU. -/
  commit : ReaderOrder
  /-- Readers of a dock state change (R101, R77): PSE, TCL, SDU. -/
  dock : ReaderOrder
  /-- A sleep state change reaches the PCC before the TCL (R151, R152). -/
  penBeforeTcl : Bool
  /-- A node 0 restart reaches the TCL before the dock state machine (R92). -/
  restartTclFirst : Bool
  /-- A loss at the stall limit raises DOCK_STALL before URGENT_LOSS (R167). -/
  stallFaultFirst : Bool
  /-- Two hall inputs that change at the end of one millisecond: fold first (R7). -/
  foldFirst : Bool
  /-- With WAKE_GATHER 0, the WAKE verdict is placed before the hand-on of the change (R154). -/
  verdictFirst : Bool
  /-- At a staged set's cycle start, the session limit is judged before allowance (R122, R135). -/
  limitFirst : Bool
deriving DecidableEq, Repr

/-! ## The whole part -/

/-- The state of the P420, with the queue of the commands that wait. -/
structure State where
  /-- Part time (00_scope.md). -/
  time : Half
  params : Params
  hlc : Hlc
  pse : Pse
  tcl : Tcl
  dlc : Dlc
  pcc : Pcc
  sdu : Sdu
  rqu : Rqu
  choices : Choices
  /-- The commands that wait, first in, first out. -/
  pending : List Instr
deriving DecidableEq, Repr

/-! ## Reset values -/

/-- The defaults of R185. -/
def Params.default : Params where
  lidRate := 100
  minPlane := 350
  pairWindow := 40
  staleLimit := 1000
  smoothShift := 2
  calOffset := 0
  rotHyst := 150
  rotSettle := 300
  flatLevel := 500
  hallDebounce := 20
  orientPostures := 0xF8
  postureHyst := 50
  defaultRoute := 0
  senseDebounce := 50
  helloTimeout := 500
  linkErrLimit := 8
  stallLimit := 200
  grantTimeout := 3000
  grantDefault := 0
  quiesceTimeout := 100
  latchDelay := 20
  latchPeriod := 100
  latchOn := 60
  releaseWindow := 4000
  idleDim := 60
  idleSleep := 300
  wakeGather := 20
  flushTime := 20
  notifyShift := 3
  faultMask := 0
  faultSeverity := 0x5555

/-- The Fault Summary with every kind clear (R188). -/
def FaultEntry.clear : FaultEntry := { status := false, count := 0 }

/-- The HLC after cold reset (R178, R181, R187, R188; ALERT_N by R177). -/
def Hlc.reset : Hlc where
  response := none
  interval := 0
  transfer := .idle
  miso := []
  frozen := false
  faults := Vector.replicate 8 FaultEntry.clear
  firstFault := none
  alert := true

/-- A hall input after reset (R6): the level until the first millisecond is CLEAR, DESIGN CHOICE, log
entry 15. -/
def Hall.reset : Hall := { level := .clear, run := 0, fresh := true }

/-- A Posture Table row after cold reset (R23). -/
def PostureRow.reset : PostureRow where
  valid := false
  posture := .closed
  band := false
  low := 0
  high := 0
  face := .any
  lidHall := .any
  foldHall := .any
  settle := 0

/-- The Posture Record after reset (R39). -/
def PostureRecord.reset : PostureRecord where
  posture := .slate
  previous := .slate
  sequence := 0
  stamp := 0
  hf := 0
  hinge := .unknown
  cause := .dockForced
  row := none

/-- The zero vector (R3, R5). -/
def Vec3.zero : Vec3 := { x := 0, y := 0, z := 0 }

/-- The PSE after cold reset: the read timer has just been started at 100 Hz (R1). -/
def Pse.reset : Pse where
  lid := Vec3.zero
  failures := 0
  readTimer := some 10
  readBusy := none
  base := Vec3.zero
  baseStamp := 0
  baseValid := false
  pairTimer := none
  lidHall := Hall.reset
  foldHall := Hall.reset
  hf := 0
  hinge := .unknown
  hingeStamp := 0
  staleTimer := none
  face := .none
  orient := .landscape
  flat := false
  candidate := .none
  rotTimer := none
  rho := 0
  lock := false
  rows := Vector.replicate 12 PostureRow.reset
  record := PostureRecord.reset
  settle := none

/-- A route entry with the cleared values of R43 and the reset values of R44. -/
def RouteEntry.cleared : RouteEntry where
  valid := false
  source := 0
  cls := .any
  actions := Vector.replicate 8 .drop
  lane := .bulk
  coalesce := false
  paired := false
  activity := false
  wakeMask := 0
  errorLimit := 0
  length := none
  state := .active
  hits := 0
  errors := 0
  overflow := false
  effective := .drop

/-- The TCL after cold reset (R43, R44, R63, R65). -/
def Tcl.reset : Tcl where
  routes := Vector.replicate 64 RouteEntry.cleared
  pool := []
  stall := none

/-- The Dock Identity Record with present no (R94). -/
def Identity.absent : Identity :=
  { present := false, kind := 0, revision := 0, flags := 0, nodes := [] }

/-- The DLC after either reset (R98, R99, R100, R117). The button's level until the first millisecond is
RELEASED, DESIGN CHOICE, log entry 15. -/
def Dlc.reset : Dlc where
  state := .absent
  sense := false
  senseTimer := none
  button := false
  buttonRun := 0
  buttonFresh := true
  queries := 0
  helloTimer := none
  grantTimer := none
  quiesceTimer := none
  window := none
  latchPhase := .off
  latchCount := 0
  latchDelay := none
  latchPeriod := none
  latchOn := none
  latchDrv := false
  identity := Identity.absent
  rx := .hunt
  errors := 0
  errTimer := none
  buffer := []
  slots := []
  identifyMark := false
  quiesceMark := none
  noticeMark := false
  sending := none
  dhold := false

/-- The default pen parameter set of R119. -/
def PenSet.default : PenSet where
  enable := false
  period := 100
  burst := 60
  taper := 80
  resume := 95
  keep := 50
  absent := 3
  progress := 10
  session := 120
  postures := 0xFC
  wake := true

/-- A capture with no edge seen (R127). -/
def Capture.empty : Capture := { rise := none, count := none, overflow := false }

/-- The PCC after cold reset (R141). PEN_RX low until an edge is told, DESIGN CHOICE, log entry 15. -/
def Pcc.reset : Pcc where
  active := PenSet.default
  staged := none
  supply := .battery
  state := .off
  level := none
  seconds := 0
  millis := 0
  limitDue := false
  sessions := 0
  lastEnd := .none
  collision := false
  sessionOpen := false
  cycleTimer := none
  phase := .stopped
  probeTimer := none
  burstTimer := none
  width := 0
  probed := false
  silentCycles := 0
  silentProbes := 0
  baseline := none
  progressTimer := none
  capture := Capture.empty
  penDrv := false
  penRx := false

/-- The SDU after cold reset: the idle timer has just been restarted with 60 s and 300 s (R143, R162). -/
def Sdu.reset : Sdu where
  sleep := .active
  advised := .none
  dimTimer := some 60000
  sleepTimer := some 300000
  sleepMark := false
  holds := Vector.replicate 8 none
  wakeList := []
  gatherTimer := none

/-- The START record of a cold reset: reset kind COLD 0, warm cause NONE 0xFF, stamp 0, gap 0 (R177,
R194). -/
def Record.coldStart : Record where
  kind := .start
  lane := .urgent
  source := 0
  cls := 0
  stamp := 0
  gap := 0
  payload := [0x00, 0xFF]
  forwarded := false

/-- The RQU after cold reset (R177). -/
def Rqu.reset : Rqu where
  urgent := [Record.coldStart]
  bulk := []
  stage := []
  flushTimer := none
  urgentGap := 0
  bulkGap := 0
  suppressed := false

/-- The orders a part takes unless the state says otherwise: DESIGN CHOICE, log entry 3. -/
def Choices.reset : Choices where
  commit := .abc
  dock := .abc
  penBeforeTcl := false
  restartTclFirst := false
  stallFaultFirst := false
  foldFirst := false
  verdictFirst := false
  limitFirst := false

/-- The part right after cold reset (power-on), with no command waiting. -/
def State.reset : State where
  time := 0
  params := Params.default
  hlc := Hlc.reset
  pse := Pse.reset
  tcl := Tcl.reset
  dlc := Dlc.reset
  pcc := Pcc.reset
  sdu := Sdu.reset
  rqu := Rqu.reset
  choices := Choices.reset
  pending := []

end Sys2Proof.Machine
end

