-- ==== Sys2Proof/Machine/Operands.lean ====
section
/-! DEFINITION. Every operand form and every byte layout of the two links: codes of enumerated values
(R192), byte order, CRC-8 (R80) and CRC-16 (R180), request and response frames (R179, R193), the load
payloads (R195), the record payloads (R194) and the dock address character (R197). All of it is plain
data to plain data: no state is read here. -/

namespace Sys2Proof.Machine

/-! ## Bytes -/

/-- The two bytes of a 16-bit field, low byte first (R192). -/
def halfBytes (w : Half) : List Byte := [w.setWidth 8, (w >>> 8).setWidth 8]

/-- The 16-bit field that two bytes carry, low byte first (R192). -/
def halfOf (lo hi : Byte) : Half := hi ++ lo

/-- A number as one byte. -/
def natByte (n : Nat) : Byte := BitVec.ofNat 8 n

/-- A number as a 16-bit field. -/
def natBytes (n : Nat) : List Byte := halfBytes (BitVec.ofNat 16 n)

/-- on, yes, set and claimed are 1; off, no, clear and free are 0 (R192). -/
def boolByte (b : Bool) : Byte := if b then 1 else 0

/-- NONE, absent and class ANY are coded 0xFF (R192). -/
def noneByte : Byte := 0xFF

/-- An optional number as a byte, NONE as 0xFF (R192). -/
def optByte : Option Nat → Byte
  | some n => natByte n
  | none => noneByte

/-- Whole bytes from bits, most significant bit first; a partial byte at the end is discarded (R178). -/
def bytesOfBits : List Bool → List Byte
  | b7 :: b6 :: b5 :: b4 :: b3 :: b2 :: b1 :: b0 :: rest =>
    BitVec.ofBoolListBE [b7, b6, b5, b4, b3, b2, b1, b0] :: bytesOfBits rest
  | _ => []

/-- The bits of a byte, most significant first (R178). -/
def bitsOfByte (b : Byte) : List Bool :=
  [b.getLsbD 7, b.getLsbD 6, b.getLsbD 5, b.getLsbD 4, b.getLsbD 3, b.getLsbD 2, b.getLsbD 1, b.getLsbD 0]

/-- The bits of a run of bytes as MOSI carries them (R178). -/
def bitsOfBytes (bs : List Byte) : List Bool := bs.flatMap bitsOfByte

/-- The level that at least two of three samples hold (R6, R99, R100). -/
def majority (s1 s2 s3 : Bool) : Bool := (s1 && s2) || (s1 && s3) || (s2 && s3)

/-- A hall input's level from its pin: a low pin is SET (R6). -/
def hallLevelOfPin (high : Bool) : HallLevel := if high then .clear else .set

/-! ## Checks -/

/-- `n` shifts of a CRC register whose top bit selects the generator `poly`. -/
def crcShift {w : Nat} (poly : BitVec w) : Nat → BitVec w → BitVec w
  | 0, c => c
  | n + 1, c => crcShift poly n (if c.msb then (c <<< 1) ^^^ poly else c <<< 1)

/-- One byte into the CRC-8 register, generator x^8 + x^2 + x + 1 (R80). -/
def crc8Byte (c b : Byte) : Byte := crcShift 0x07#8 8 (c ^^^ b)

/-- CRC-8 over a run of bytes, from 0 (R80). -/
def crc8 (bs : List Byte) : Byte := bs.foldl crc8Byte 0

/-- One byte into the CRC-16 register, generator 0x1021 (R180). -/
def crc16Byte (c : Half) (b : Byte) : Half := crcShift 0x1021#16 8 (c ^^^ (b.setWidth 16 <<< 8))

/-- CRC-16 over a run of bytes, from 0xFFFF (R180). -/
def crc16 (bs : List Byte) : Half := bs.foldl crc16Byte 0xFFFF

/-! ## Codes (R192) -/

/-- The posture's number (00_scope.md "Postures"). -/
def Posture.index : Posture → Fin 8
  | .unknown => 0
  | .closed => 1
  | .laptop => 2
  | .flat => 3
  | .tent => 4
  | .stand => 5
  | .tablet => 6
  | .slate => 7

/-- The posture's code (R192). -/
def Posture.code (p : Posture) : Byte := natByte p.index.val

/-- The posture that a table row names. -/
def TablePosture.toPosture : TablePosture → Posture
  | .closed => .closed
  | .laptop => .laptop
  | .flat => .flat
  | .tent => .tent
  | .stand => .stand
  | .tablet => .tablet

/-- A row's posture from its code, 1..6 (R195). -/
def TablePosture.ofCode (b : Byte) : Option TablePosture :=
  match b.toNat with
  | 1 => some .closed
  | 2 => some .laptop
  | 3 => some .flat
  | 4 => some .tent
  | 5 => some .stand
  | 6 => some .tablet
  | _ => none

/-- Whether a posture mask names a posture: bit k for posture code k (R185). -/
def maskHas (m : Byte) (p : Posture) : Bool := m.getLsbD p.index.val

/-- The orientation's code (R192). -/
def Orientation.code : Orientation → Byte
  | .landscape => 0
  | .portrait => 1
  | .landscapeFlipped => 2
  | .portraitFlipped => 3

/-- The candidate's orientation, or NONE (R196). -/
def Candidate.code : Candidate → Byte
  | .none => noneByte
  | .settling o => o.code
  | .blocked o => o.code

/-- The candidate's mark: SETTLING 0, BLOCKED 1, 0xFF with no candidate (R192). -/
def Candidate.mark : Candidate → Byte
  | .none => noneByte
  | .settling _ => 0
  | .blocked _ => 1

/-- Hinge status code (R192). -/
def HingeStatus.code : HingeStatus → Byte
  | .valid => 0
  | .held => 1
  | .unknown => 2

/-- Base face code (R192). -/
def Face.code : Face → Byte
  | .up => 0
  | .down => 1
  | .edge => 2
  | .none => noneByte

/-- Commit cause code (R192). -/
def CommitCause.code : CommitCause → Byte
  | .settled => 0
  | .immediate => 1
  | .dockForced => 2

/-- A row index or NONE (R192). -/
def rowByte : Option (Fin 12) → Byte
  | some r => natByte r.val
  | none => noneByte

/-- Dock state code (R192). -/
def DockState.code : DockState → Byte
  | .absent => 0
  | .sensed => 1
  | .identifying => 2
  | .attached => 3
  | .detachRequested => 4
  | .quiescing => 5
  | .releasing => 6
  | .faulted => 7

/-- Pen state code (R192). -/
def PenState.code : PenState → Byte
  | .off => 0
  | .searching => 1
  | .detected => 2
  | .charging => 3
  | .paused => 4
  | .full => 5
  | .fault => 6

/-- Last end cause code (R192). -/
def EndCause.code : EndCause → Byte
  | .removed => 0
  | .full => 1
  | .noProgress => 2
  | .sessionLimit => 3
  | .disabled => 4
  | .reset => 5
  | .none => noneByte

/-- Sleep state code (R192). -/
def SleepState.code : SleepState → Byte
  | .active => 0
  | .drowsy => 1
  | .sleepAdvised => 2
  | .standby => 3
  | .waking => 4

/-- Verdict reason and advised reason code (R192). -/
def Advice.code : Advice → Byte
  | .idle => 0
  | .lidClosed => 1
  | .none => noneByte

/-- Wake kind code (R192). -/
def WakeKind.code : WakeKind → Byte
  | .routeWake => 0
  | .lidOpened => 1
  | .penRemoved => 2
  | .dockAttached => 3
  | .detachRequest => 4
  | .surpriseDetach => 5
  | .fault => 6

/-- Hold Slot class code (R192). -/
def HoldClass.code : HoldClass → Byte
  | .idle => 0
  | .full => 1

/-- The fault kind's code (R189), which is its place in the Fault Summary. -/
def FaultKind.index : FaultKind → Fin 8
  | .dockLink => 0
  | .dockOverrun => 1
  | .dockStall => 2
  | .routeDisabled => 3
  | .penFault => 4
  | .lidSensor => 5
  | .hostFrame => 6
  | .urgentLoss => 7

/-- The fault kind's code as a byte (R189). -/
def FaultKind.code (k : FaultKind) : Byte := natByte k.index.val

/-- The first-fault pointer's code (R196). -/
def pointerByte : Option FaultKind → Byte
  | some k => k.code
  | none => noneByte

/-- Fault severity code (R192). -/
def Severity.code : Severity → Byte
  | .log => 0
  | .notify => 1
  | .wake => 2

/-- Record kind code, FWD 0 to START 11 (R194). -/
def RecordKind.code : RecordKind → Byte
  | .fwd => 0
  | .release => 1
  | .allUp => 2
  | .posture => 3
  | .orient => 4
  | .dock => 5
  | .pen => 6
  | .verdict => 7
  | .hold => 8
  | .route => 9
  | .fault => 10
  | .start => 11

/-- Lane code (R192). -/
def Lane.code : Lane → Byte
  | .urgent => 0
  | .bulk => 1

/-- Status code: the order of R182 from 0 (R192). -/
def Status.code : Status → Byte
  | .ok => 0
  | .okClamped => 1
  | .badFrame => 2
  | .badType => 3
  | .badArg => 4
  | .frozen => 5
  | .duplicate => 6
  | .full => 7
  | .collision => 8
  | .wrongState => 9
  | .held => 10
  | .notOwner => 11

/-- Route action code (R192). -/
def RouteAction.code : RouteAction → Byte
  | .drop => 0
  | .forward => 1
  | .wakeOnly => 2

/-- A route action from its two bits; 3 is no action (R195). -/
def RouteAction.ofCode (b : BitVec 2) : Option RouteAction :=
  match b.toNat with
  | 0 => some .drop
  | 1 => some .forward
  | 2 => some .wakeOnly
  | _ => none

/-- Route entry state code (R192). -/
def EntryState.code : EntryState → Byte
  | .active => 0
  | .disabled => 1

/-- Class key code, ANY as 0xFF (R192). -/
def ClassKey.code : ClassKey → Byte
  | .any => noneByte
  | .exact c => c.setWidth 8

/-- A class key from its code: 1..15 or 0xFF (R195). -/
def ClassKey.ofCode (b : Byte) : Option ClassKey :=
  if b = noneByte then some .any
  else if 1 ≤ b.toNat ∧ b.toNat ≤ 15 then some (.exact (b.setWidth 4))
  else none

/-- Row face condition code (R195). -/
def FaceCond.code : FaceCond → Byte
  | .up => 0
  | .down => 1
  | .edge => 2
  | .any => 3

/-- A row's face condition from its code (R195). -/
def FaceCond.ofCode (b : Byte) : Option FaceCond :=
  match b.toNat with
  | 0 => some .up
  | 1 => some .down
  | 2 => some .edge
  | 3 => some .any
  | _ => none

/-- Row hall condition code (R195). -/
def HallCond.code : HallCond → Byte
  | .set => 0
  | .clear => 1
  | .any => 2

/-- A row's hall condition from its code (R195). -/
def HallCond.ofCode (b : Byte) : Option HallCond :=
  match b.toNat with
  | 0 => some .set
  | 1 => some .clear
  | 2 => some .any
  | _ => none

/-- A flag byte that accepts 0 and 1 only. -/
def flagOfCode (b : Byte) : Option Bool :=
  match b.toNat with
  | 0 => some false
  | 1 => some true
  | _ => none

/-! ## Causes and events that stand only in records -/

/-- Cause of an ORIENT record (R21). -/
inductive OrientCause where
  | rotated | flatChanged
deriving DecidableEq, Repr

/-- ORIENT cause code (R192). -/
def OrientCause.code : OrientCause → Byte
  | .rotated => 0
  | .flatChanged => 1

/-- Cause of a release synthesis (R72). -/
inductive SynthCause where
  | posture | dock | sleep | disabled | load | clear
deriving DecidableEq, Repr

/-- RELEASE and ALL_UP cause code (R192). -/
def SynthCause.code : SynthCause → Byte
  | .posture => 0
  | .dock => 1
  | .sleep => 2
  | .disabled => 3
  | .load => 4
  | .clear => 5

/-- Event of a ROUTE record (R53). -/
inductive RouteEvent where
  | disabled | enabled
deriving DecidableEq, Repr

/-- ROUTE event code (R192). -/
def RouteEvent.code : RouteEvent → Byte
  | .disabled => 0
  | .enabled => 1

/-- Event of a DOCK record (R102). -/
inductive DockEvent where
  | attached | detachRequest | granted | grantedByDefault | denied | timedOut | releasing | relocked
  | detached | surpriseDetach | removed | faulted | restarted
deriving DecidableEq, Repr

/-- DOCK event code (R192). -/
def DockEvent.code : DockEvent → Byte
  | .attached => 0
  | .detachRequest => 1
  | .granted => 2
  | .grantedByDefault => 3
  | .denied => 4
  | .timedOut => 5
  | .releasing => 6
  | .relocked => 7
  | .detached => 8
  | .surpriseDetach => 9
  | .removed => 10
  | .faulted => 11
  | .restarted => 12

/-- Cause of a DOCK record (R102). -/
inductive DockCause where
  | none | noHello | linkErrors | quiesced | noQuiesce
deriving DecidableEq, Repr

/-- DOCK cause code (R192). -/
def DockCause.code : DockCause → Byte
  | .noHello => 0
  | .linkErrors => 1
  | .quiesced => 2
  | .noQuiesce => 3
  | .none => noneByte

/-- Event of a PEN record (R138). -/
inductive PenEvent where
  | docked | chargeStarted | paused | resumed | full | removed | fault | off
deriving DecidableEq, Repr

/-- PEN event code (R192). -/
def PenEvent.code : PenEvent → Byte
  | .docked => 0
  | .chargeStarted => 1
  | .paused => 2
  | .resumed => 3
  | .full => 4
  | .removed => 5
  | .fault => 6
  | .off => 7

/-- Cause of a PEN record (R138). -/
inductive PenCause where
  | none | noProgress | sessionLimit | disabled
deriving DecidableEq, Repr

/-- PEN cause code (R192). -/
def PenCause.code : PenCause → Byte
  | .noProgress => 0
  | .sessionLimit => 1
  | .disabled => 2
  | .none => noneByte

/-- A verdict (R157). -/
inductive Verdict where
  | dim | sleep | resume | wake
deriving DecidableEq, Repr

/-- Verdict code (R192). -/
def Verdict.code : Verdict → Byte
  | .dim => 0
  | .sleep => 1
  | .resume => 2
  | .wake => 3

/-- Warm cause of a START record (R177). -/
inductive WarmCause where
  | pin | request
deriving DecidableEq, Repr

/-- Warm cause code (R194). -/
def WarmCause.code : WarmCause → Byte
  | .pin => 0
  | .request => 1

/-! ## Records (R194) -/

/-- A part-generated record before its placement: the RQU writes stamp and gap (R165). -/
def partRecord (kind : RecordKind) (payload : List Byte) : Record :=
  { kind := kind, lane := .urgent, source := 0, cls := 0, stamp := 0, gap := 0, payload := payload,
    forwarded := false }

/-- A part-generated record that carries a route entry's key (R164). -/
def keyedRecord (kind : RecordKind) (source : BitVec 4) (cls : ClassKey) (payload : List Byte) : Record :=
  { partRecord kind payload with source := source.setWidth 8, cls := cls.code }

/-- A FWD record of a frame, for the lane named (R58). -/
def fwdRecord (lane : Lane) (f : Frame) : Record :=
  { kind := .fwd, lane := lane, source := f.source.setWidth 8, cls := f.cls.setWidth 8, stamp := 0, gap := 0,
    payload := f.payload, forwarded := false }

/-- A record's bytes in a DRAIN response: the 8-byte header, then the payload (R194). -/
def Record.bytes (r : Record) : List Byte :=
  [r.kind.code, r.lane.code, r.source, r.cls] ++ halfBytes r.stamp
    ++ [natByte r.gap, natByte r.payload.length] ++ r.payload

/-- The bytes a record takes in a DRAIN response (R173). -/
def Record.size (r : Record) : Nat := 8 + r.payload.length

/-- Identity fields of a DOCK ATTACHED record (R194). -/
def Identity.bytes (i : Identity) : List Byte :=
  halfBytes i.kind ++ [i.revision, i.flags, natByte i.nodes.length]
    ++ i.nodes.flatMap fun n => [n.node, n.kind]

/-! ## Host frames (R193) -/

/-- The response type of a request type (R193). -/
def responseType (t : Byte) : Byte := if 0x01 ≤ t.toNat ∧ t.toNat ≤ 0x7E then t + 0x80 else 0xFE

/-- A frame with its CRC-16 appended, low byte first (R180). -/
def withCrc16 (bs : List Byte) : List Byte := bs ++ halfBytes (crc16 bs)

/-- A response frame's bytes (R193). -/
def Response.bytes (r : Response) : List Byte :=
  withCrc16 ([r.rtype, r.tag, r.status.code] ++ natBytes r.payload.length ++ r.payload)

/-- The EMPTY frame (R193). -/
def emptyFrame : List Byte := withCrc16 [0x80, 0x00, 0x00, 0x00, 0x00]

/-- The NOT_READY frame (R193). -/
def notReadyFrame : List Byte := withCrc16 [0xFF, 0x00, 0x00, 0x00, 0x00]

/-- What MISO carries in `n` bytes of a transaction: the frame, then 0x00 (R178). -/
def shiftOut (frame : List Byte) (n : Nat) : List Byte :=
  frame.take n ++ List.replicate (n - frame.length) 0x00

/-- What a transaction's MOSI bytes carry (R179). -/
inductive RequestRead where
  | none
  | bad (type tag : Byte)
  | request (type tag : Byte) (payload : List Byte)
deriving DecidableEq, Repr

/-- A frame of a nonzero type, read from its tag on (R179). -/
def readFrame (type : Byte) : List Byte → RequestRead
  | [] => .bad type 0
  | tag :: lo :: hi :: rest =>
    let n := (halfOf lo hi).toNat
    if n ≤ Config.requestPayload ∧ n + 2 ≤ rest.length
        ∧ rest.take (n + 2)
          = rest.take n ++ halfBytes (crc16 ([type, tag, lo, hi] ++ rest.take n)) then
      .request type tag (rest.take n)
    else .bad type tag
  | tag :: _ => .bad type tag

/-- The request that a transaction's bytes carry, if any: none where no byte is clocked in or where the
first byte is 0x00 (R178, R179). -/
def readRequest : List Byte → RequestRead
  | [] => .none
  | type :: rest => if type = 0x00 then .none else readFrame type rest

/-- The command of a well-framed request, or the status that refuses it before dispatch: BAD_TYPE for an
unlisted type, BAD_ARG for a payload length other than its type's (R182, R193). -/
def requestOf (type tag : Byte) (p : List Byte) : Except Status Instr :=
  match type.toNat with
  | 0x01 => match p with
    | [] => .ok (.identify tag)
    | _ => .error .badArg
  | 0x02 => match p with
    | [] => .ok (.status tag)
    | _ => .error .badArg
  | 0x03 => match p with
    | [n, v0, v1] => .ok (.configSet tag n (halfOf v0 v1))
    | _ => .error .badArg
  | 0x04 => match p with
    | [n] => .ok (.configGet tag n)
    | _ => .error .badArg
  | 0x05 => match p with
    | [] => .ok (.freeze tag)
    | _ => .error .badArg
  | 0x06 => match p with
    | [] => .ok (.reset tag)
    | _ => .error .badArg
  | 0x07 => match p with
    | [m] => .ok (.faultClear tag m)
    | _ => .error .badArg
  | 0x10 => match p with
    | [i, src, c, a0, a1, fl, w, e, l] => .ok (.routeLoad tag i src c (halfOf a0 a1) fl w e l)
    | _ => .error .badArg
  | 0x11 => match p with
    | [i] => .ok (.routeClear tag i)
    | _ => .error .badArg
  | 0x12 => match p with
    | [i] => .ok (.routeRead tag i)
    | _ => .error .badArg
  | 0x18 => match p with
    | [r, v, ps, an, l0, l1, h0, h1, f, lh, fh, s0, s1] =>
      .ok (.postureLoad tag r v ps an (halfOf l0 l1) (halfOf h0 h1) f lh fh (halfOf s0 s1))
    | _ => .error .badArg
  | 0x19 => match p with
    | [r] => .ok (.postureRead tag r)
    | _ => .error .badArg
  | 0x1A => match p with
    | [a] => .ok (.orientLock tag a)
    | _ => .error .badArg
  | 0x20 => match p with
    | n :: c :: k :: rest => if rest.length = k.toNat then .ok (.dockSend tag n c k rest) else .error .badArg
    | _ => .error .badArg
  | 0x21 => match p with
    | [a] => .ok (.detachAnswer tag a)
    | _ => .error .badArg
  | 0x22 => match p with
    | [] => .ok (.dockRetry tag)
    | _ => .error .badArg
  | 0x28 => match p with
    | [en, p0, p1, b0, b1, ta, re, ke, ab, pr, se, po, wa] =>
      .ok (.penConfig tag en (halfOf p0 p1) (halfOf b0 b1) ta re ke ab pr se po wa)
    | _ => .error .badArg
  | 0x29 => match p with
    | [a] => .ok (.supply tag a)
    | _ => .error .badArg
  | 0x30 => match p with
    | [a] => .ok (.hostState tag a)
    | _ => .error .badArg
  | 0x31 => match p with
    | [sl, c, o, l0, l1] => .ok (.holdClaim tag sl c o (halfOf l0 l1))
    | _ => .error .badArg
  | 0x32 => match p with
    | [sl, o] => .ok (.holdRelease tag sl o)
    | _ => .error .badArg
  | 0x38 => match p with
    | [c, l] => .ok (.drain tag c l)
    | _ => .error .badArg
  | _ => .error .badType

/-- The request that a command stands for: its type, its tag and its payload bytes (R193, R195); none for
a command that is no request. -/
def requestBytes : Instr → Option (Byte × Byte × List Byte)
  | .identify tag => some (0x01, tag, [])
  | .status tag => some (0x02, tag, [])
  | .configSet tag n v => some (0x03, tag, n :: halfBytes v)
  | .configGet tag n => some (0x04, tag, [n])
  | .freeze tag => some (0x05, tag, [])
  | .reset tag => some (0x06, tag, [])
  | .faultClear tag m => some (0x07, tag, [m])
  | .routeLoad tag i src c a fl w e l => some (0x10, tag, [i, src, c] ++ halfBytes a ++ [fl, w, e, l])
  | .routeClear tag i => some (0x11, tag, [i])
  | .routeRead tag i => some (0x12, tag, [i])
  | .postureLoad tag r v p an lo hi f lh fh st =>
    some (0x18, tag, [r, v, p, an] ++ halfBytes lo ++ halfBytes hi ++ [f, lh, fh] ++ halfBytes st)
  | .postureRead tag r => some (0x19, tag, [r])
  | .orientLock tag a => some (0x1A, tag, [a])
  | .dockSend tag n c k p => some (0x20, tag, n :: c :: k :: p)
  | .detachAnswer tag a => some (0x21, tag, [a])
  | .dockRetry tag => some (0x22, tag, [])
  | .penConfig tag en pe bu ta re ke ab pr se po wa =>
    some (0x28, tag, [en] ++ halfBytes pe ++ halfBytes bu ++ [ta, re, ke, ab, pr, se, po, wa])
  | .supply tag a => some (0x29, tag, [a])
  | .hostState tag a => some (0x30, tag, [a])
  | .holdClaim tag sl c o l => some (0x31, tag, [sl, c, o] ++ halfBytes l)
  | .holdRelease tag sl o => some (0x32, tag, [sl, o])
  | .drain tag c l => some (0x38, tag, [c, l])
  | _ => none

/-- The request frame that carries a request: type, tag, length, payload and CRC-16 (R179, R180). -/
def requestFrame (type tag : Byte) (payload : List Byte) : List Byte :=
  withCrc16 ([type, tag] ++ natBytes payload.length ++ payload)

/-! ## Load payloads (R195) -/

/-- The eight actions of a ROUTE_LOAD, bits 2k and 2k + 1 for posture k; none if any is 3 (R195). -/
def actionsOf (a : Half) : Option (Vector RouteAction 8) := do
  let a0 ← RouteAction.ofCode (a.extractLsb' 0 2)
  let a1 ← RouteAction.ofCode (a.extractLsb' 2 2)
  let a2 ← RouteAction.ofCode (a.extractLsb' 4 2)
  let a3 ← RouteAction.ofCode (a.extractLsb' 6 2)
  let a4 ← RouteAction.ofCode (a.extractLsb' 8 2)
  let a5 ← RouteAction.ofCode (a.extractLsb' 10 2)
  let a6 ← RouteAction.ofCode (a.extractLsb' 12 2)
  let a7 ← RouteAction.ofCode (a.extractLsb' 14 2)
  return #v[a0, a1, a2, a3, a4, a5, a6, a7]

/-- The 16 bits of eight actions (R195). -/
def actionsHalf (v : Vector RouteAction 8) : Half :=
  v.toList.foldr (fun a w => (w <<< 2) ||| a.code.setWidth 16) 0

/-- An expected length: 0..32, or 0xFF for VARIABLE (R195). The outer option is the check. -/
def lengthOf (b : Byte) : Option (Option Nat) :=
  if b = noneByte then some none
  else if b.toNat ≤ 32 then some (some b.toNat)
  else none

/-- The valid entry that a ROUTE_LOAD's fields spell, with the reset values of the part fields, or none
where a field is outside its range (R45 step 3, R195). -/
def routeEntryOf (source cls : Byte) (actions : Half) (flags wakeMask errorLimit length : Byte) :
    Option RouteEntry := do
  let key ← ClassKey.ofCode cls
  let acts ← actionsOf actions
  let len ← lengthOf length
  if source.toNat ≤ 15 ∧ flags.toNat < 16 ∧ errorLimit.toNat ≤ 15
      ∧ ¬ (flags.getLsbD 2 = true ∧ (len = some 0 ∨ len = some 1)) then
    return { RouteEntry.cleared with
      valid := true
      source := source.setWidth 4
      cls := key
      actions := acts
      lane := if flags.getLsbD 0 then .bulk else .urgent
      coalesce := flags.getLsbD 1
      paired := flags.getLsbD 2
      activity := flags.getLsbD 3
      wakeMask := wakeMask
      errorLimit := errorLimit.toNat
      length := len }
  else none

/-- The flag byte of a route entry (R195). -/
def RouteEntry.flagByte (e : RouteEntry) : Byte :=
  boolByte (e.lane = .bulk) ||| (boolByte e.coalesce <<< 1) ||| (boolByte e.paired <<< 2)
    ||| (boolByte e.activity <<< 3)

/-- The row that a POSTURE_LOAD's fields spell, or none where a field is outside its range (R24 step 3,
R195). -/
def postureRowOf (valid posture angle : Byte) (low high : Half) (face lidHall foldHall : Byte)
    (settle : Half) : Option PostureRow := do
  let v ← flagOfCode valid
  let p ← TablePosture.ofCode posture
  let b ← flagOfCode angle
  let f ← FaceCond.ofCode face
  let lh ← HallCond.ofCode lidHall
  let fh ← HallCond.ofCode foldHall
  if low.toNat ≤ 3599 ∧ high.toNat ≤ 3599 ∧ settle.toNat ≤ 5000 then
    return { valid := v, posture := p, band := b, low := low.toNat, high := high.toNat, face := f,
             lidHall := lh, foldHall := fh, settle := settle.toNat }
  else none

/-- A row's twelve bytes after the row index in a POSTURE_READ response (R195). -/
def PostureRow.bytes (r : PostureRow) : List Byte :=
  [boolByte r.valid, r.posture.toPosture.code, boolByte r.band] ++ natBytes r.low ++ natBytes r.high
    ++ [r.face.code, r.lidHall.code, r.foldHall.code] ++ natBytes r.settle

/-- A number brought into a range, the nearer end for a value outside it (R119, R185). -/
def clampNat (lo hi n : Nat) : Nat := if n < lo then lo else if hi < n then hi else n

/-- The set that a PEN_CONFIG's fields spell, before it is brought into range; none where ENABLE or
PEN_WAKE carries a code other than on or off (R120 step 1, R195). -/
def penSetOf (enable : Byte) (period burst : Half)
    (taper resume keep absent progress session postures wake : Byte) : Option PenSet := do
  let en ← flagOfCode enable
  let wk ← flagOfCode wake
  return { enable := en, period := period.toNat, burst := burst.toNat, taper := taper.toNat,
           resume := resume.toNat, keep := keep.toNat, absent := absent.toNat, progress := progress.toNat,
           session := session.toNat, postures := postures, wake := wk }

/-- A pen parameter set brought into range field by field, PERIOD before BURST (R119). -/
def PenSet.clamped (p : PenSet) : PenSet :=
  let period := clampNat 50 500 p.period
  { p with
    period := period
    burst := clampNat 0 (period - 7) p.burst
    taper := clampNat 50 99 p.taper
    resume := clampNat 50 99 p.resume
    keep := clampNat 0 100 p.keep
    absent := clampNat 1 15 p.absent
    progress := clampNat 1 60 p.progress
    session := clampNat 10 240 p.session }

/-! ## Dock characters and frames (R79, R197) -/

/-- The first nine bits of a character in the order of the line, bit 0 the first: start bit low, then the eight
data bits, least significant first (R79). -/
def lineBits (data : Byte) : BitVec 9 := data ++ 0#1

/-- The data byte among a character's first nine bits (R79). -/
def lineData (line : BitVec 9) : Byte := line.extractLsb' 1 8

/-- The eleven bits of a character in the order of the line, bit 0 the first: start bit, data bits, mark bit, stop
bit (R79). -/
def charBits (data : Byte) (mark stop : Bool) : BitVec 11 :=
  BitVec.ofBool stop ++ (BitVec.ofBool mark ++ lineBits data)

/-- The data byte of an address character: node in bits 0 to 2, class in bits 3 to 6, RESTART in bit 7
(R197). -/
def addressByte (node : BitVec 3) (cls : BitVec 4) (restart : Bool) : Byte :=
  BitVec.ofBool restart ++ cls ++ node

/-- The node of an address byte (R197). -/
def addressNode (a : Byte) : BitVec 3 := a.extractLsb' 0 3

/-- The class of an address byte (R197). -/
def addressClass (a : Byte) : BitVec 4 := a.extractLsb' 3 4

/-- The RESTART flag of an address byte (R197). -/
def addressRestart (a : Byte) : Bool := a.getLsbD 7

/-- The characters of a frame on the line: address with mark 1, then length, payload and CRC-8 with mark 0
(R79, R80, R197). -/
def frameChars (node : BitVec 3) (cls : BitVec 4) (payload : List Byte) : List DockChar :=
  let covered := [addressByte node cls false, natByte payload.length] ++ payload
  match covered ++ [crc8 covered] with
  | [] => []
  | a :: rest => { data := a, mark := true } :: rest.map fun b => { data := b, mark := false }

/-- The pairs of node and node kind in a HELLO payload, none where an odd byte is left (R197). -/
def nodePairs : List Byte → Option (List NodeEntry)
  | [] => some []
  | n :: k :: rest => (nodePairs rest).map (⟨n, k⟩ :: ·)
  | [_] => none

/-- The Dock Identity Record that a HELLO payload spells, none where the HELLO is not well formed: a length
of 4 + 2k for k in 1..7, every node in 1..7, no node twice (R93). -/
def helloOf : List Byte → Option Identity
  | k0 :: k1 :: rev :: fl :: rest => do
    let nodes ← nodePairs rest
    if 1 ≤ nodes.length ∧ nodes.length ≤ 7
        ∧ (nodes.all fun n => 1 ≤ n.node.toNat && n.node.toNat ≤ 7) = true
        ∧ (nodes.map (·.node)).Nodup then
      return { present := true, kind := halfOf k0 k1, revision := rev, flags := fl, nodes := nodes }
    else none
  | _ => none

/-- A signed 16-bit axis of a sample (R1, R4), brought into −8000..8000 (R3). -/
def axisOf (w : Half) : Int := max (-8000) (min 8000 w.toInt)

/-- A sample's triple of axes from its six bytes: x, y and z, each low byte first (R1, R3, R4). -/
def Vec3.ofBytes (x0 x1 y0 y1 z0 z1 : Byte) : Vec3 :=
  { x := axisOf (halfOf x0 x1), y := axisOf (halfOf y0 y1), z := axisOf (halfOf z0 z1) }

/-- The payload of a lid sample's local frame: clamped x, y and z, signed, low byte first (R3). -/
def Vec3.bytes (v : Vec3) : List Byte :=
  halfBytes (BitVec.ofInt 16 v.x) ++ halfBytes (BitVec.ofInt 16 v.y) ++ halfBytes (BitVec.ofInt 16 v.z)

end Sys2Proof.Machine
end

