-- ==== Sys2Proof/Machine/Params.lean ====
section
/-! DEFINITION. The parameter store (R185, R186): numbers, ranges, bringing into range, and the reading of
a parameter as the quantity that its chapter uses. -/

namespace Sys2Proof.Machine

/-- The stored value of a parameter by its number, none outside 1..31 (R185, R186). -/
def Params.get (p : Params) : Nat → Option Half
  | 1 => some p.lidRate
  | 2 => some p.minPlane
  | 3 => some p.pairWindow
  | 4 => some p.staleLimit
  | 5 => some p.smoothShift
  | 6 => some p.calOffset
  | 7 => some p.rotHyst
  | 8 => some p.rotSettle
  | 9 => some p.flatLevel
  | 10 => some p.hallDebounce
  | 11 => some p.orientPostures
  | 12 => some p.postureHyst
  | 13 => some p.defaultRoute
  | 14 => some p.senseDebounce
  | 15 => some p.helloTimeout
  | 16 => some p.linkErrLimit
  | 17 => some p.stallLimit
  | 18 => some p.grantTimeout
  | 19 => some p.grantDefault
  | 20 => some p.quiesceTimeout
  | 21 => some p.latchDelay
  | 22 => some p.latchPeriod
  | 23 => some p.latchOn
  | 24 => some p.releaseWindow
  | 25 => some p.idleDim
  | 26 => some p.idleSleep
  | 27 => some p.wakeGather
  | 28 => some p.flushTime
  | 29 => some p.notifyShift
  | 30 => some p.faultMask
  | 31 => some p.faultSeverity
  | _ => none

/-- The store with one parameter written; a number outside 1..31 writes nothing (R185). -/
def Params.set (p : Params) (n : Nat) (v : Half) : Params :=
  match n with
  | 1 => { p with lidRate := v }
  | 2 => { p with minPlane := v }
  | 3 => { p with pairWindow := v }
  | 4 => { p with staleLimit := v }
  | 5 => { p with smoothShift := v }
  | 6 => { p with calOffset := v }
  | 7 => { p with rotHyst := v }
  | 8 => { p with rotSettle := v }
  | 9 => { p with flatLevel := v }
  | 10 => { p with hallDebounce := v }
  | 11 => { p with orientPostures := v }
  | 12 => { p with postureHyst := v }
  | 13 => { p with defaultRoute := v }
  | 14 => { p with senseDebounce := v }
  | 15 => { p with helloTimeout := v }
  | 16 => { p with linkErrLimit := v }
  | 17 => { p with stallLimit := v }
  | 18 => { p with grantTimeout := v }
  | 19 => { p with grantDefault := v }
  | 20 => { p with quiesceTimeout := v }
  | 21 => { p with latchDelay := v }
  | 22 => { p with latchPeriod := v }
  | 23 => { p with latchOn := v }
  | 24 => { p with releaseWindow := v }
  | 25 => { p with idleDim := v }
  | 26 => { p with idleSleep := v }
  | 27 => { p with wakeGather := v }
  | 28 => { p with flushTime := v }
  | 29 => { p with notifyShift := v }
  | 30 => { p with faultMask := v }
  | 31 => { p with faultSeverity := v }
  | _ => p

/-- The range of a parameter whose values are unsigned numbers, masks or two-valued codes (R185).
LID_RATE, CAL_OFFSET and FAULT_SEVERITY are brought into range by rules of their own. -/
def paramRange : Nat → Option (Nat × Nat)
  | 2 => some (100, 1000)
  | 3 => some (10, 200)
  | 4 => some (100, 5000)
  | 5 => some (0, 3)
  | 7 => some (0, 300)
  | 8 => some (0, 2000)
  | 9 => some (100, 1000)
  | 10 => some (1, 255)
  | 11 => some (0, 255)
  | 12 => some (0, 200)
  | 13 => some (0, 1)
  | 14 => some (5, 500)
  | 15 => some (50, 2000)
  | 16 => some (1, 63)
  | 17 => some (10, 1000)
  | 18 => some (100, 10000)
  | 19 => some (0, 1)
  | 20 => some (10, 1000)
  | 21 => some (0, 255)
  | 22 => some (20, 500)
  | 23 => some (10, 500)
  | 24 => some (500, 10000)
  | 25 => some (5, 3600)
  | 26 => some (10, 7200)
  | 27 => some (0, 100)
  | 28 => some (1, 255)
  | 29 => some (0, 6)
  | 30 => some (0, 255)
  | _ => none

/-- The parameters refused under the freeze lock: CAL_OFFSET, POSTURE_HYST, DEFAULT_ROUTE, FAULT_MASK and
FAULT_SEVERITY (R185, R187). -/
def paramFrozen (n : Nat) : Bool := n = 6 || n = 12 || n = 13 || n = 30 || n = 31

/-- The enumerated parameters DEFAULT_ROUTE and GRANT_DEFAULT, whose values are not clamped (R185). -/
def paramEnumerated (n : Nat) : Bool := n = 13 || n = 19

/-- LID_RATE: the largest allowed rate that does not exceed the value, and 25 below 25 (R185). -/
def clampLidRate (v : Nat) : Nat :=
  if 200 ≤ v then 200 else if 100 ≤ v then 100 else if 50 ≤ v then 50 else 25

/-- FAULT_SEVERITY: a kind that carries the code 3 becomes WAKE, code 2 (R185). -/
def clampSeverity (v : Half) : Half := v &&& ~~~((v &&& (v >>> 1)) &&& 0x5555)

/-- A value brought into the range of its parameter (R185). -/
def clampParam (n : Nat) (v : Half) : Half :=
  if n = 1 then BitVec.ofNat 16 (clampLidRate v.toNat)
  else if n = 6 then BitVec.ofInt 16 (max (-300) (min 300 v.toInt))
  else if n = 31 then clampSeverity v
  else match paramRange n with
    | some (lo, hi) => BitVec.ofNat 16 (clampNat lo hi v.toNat)
    | none => v

/-- Period of the read timer, 1000/LID_RATE ms (R1). -/
def Params.lidPeriod (p : Params) : Nat := 1000 / p.lidRate.toNat

/-- CAL_OFFSET, signed (R185). -/
def Params.cal (p : Params) : Int := p.calOffset.toInt

/-- ORIENT_POSTURES as a posture mask (R19). -/
def Params.orientMask (p : Params) : Byte := p.orientPostures.setWidth 8

/-- DEFAULT_ROUTE is FORWARD_BULK (R49). -/
def Params.defaultForwards (p : Params) : Bool := p.defaultRoute = 1

/-- GRANT_DEFAULT is GRANT (R110). -/
def Params.grantsByDefault (p : Params) : Bool := p.grantDefault = 1

/-- A fault kind's mask bit (R189). -/
def Params.masked (p : Params) (k : FaultKind) : Bool := p.faultMask.getLsbD k.index.val

/-- A fault kind's severity: bits 2k and 2k + 1 of FAULT_SEVERITY (R185). The code 3, which no write
stores, reads as WAKE. -/
def Params.severity (p : Params) (k : FaultKind) : Severity :=
  if p.faultSeverity.getLsbD (2 * k.index.val + 1) then .wake
  else if p.faultSeverity.getLsbD (2 * k.index.val) then .notify
  else .log

end Sys2Proof.Machine
end

