-- ==== Sys2Proof/Machine/Flags.lean ====
section
/-! DEFINITION. Every condition that the rules compute from the state: the notify condition and the level of
ALERT_N, DHOLD, the effective action of a route entry, the charging allowance, the hold conditions and the
classes of dock and sleep states. Nothing here changes the state. -/

namespace Sys2Proof.Machine

/-! ## Classes of states -/

/-- ATTACHED or DETACH_REQUESTED: the base is in use (R5, R54, R83, R89). -/
def DockState.inUse : DockState → Bool
  | .attached | .detachRequested => true
  | _ => false

/-- The four states that force SLATE: ABSENT, SENSED, IDENTIFYING, FAULTED (R26, R36). -/
def DockState.forcesSlate : DockState → Bool
  | .absent | .sensed | .identifying | .faulted => true
  | _ => false

/-- The states in which the link error window runs (R84). -/
def DockState.countsErrors : DockState → Bool
  | .identifying | .attached | .detachRequested => true
  | _ => false

/-- STANDBY or WAKING (R54, R172). -/
def SleepState.asleep : SleepState → Bool
  | .standby | .waking => true
  | _ => false

/-! ## Report queue -/

/-- How many records of a lane carry the forwarded mark (R166). -/
def forwardedCount (l : List Record) : Nat := l.countP (·.forwarded)

/-- The notify condition (R175). -/
def notify (s : State) : Bool :=
  !s.rqu.urgent.isEmpty || decide (2 ^ s.params.notifyShift.toNat ≤ s.rqu.bulk.length)

/-- The level of ALERT_N, asserted or not, by sleep state and notify condition (R176). -/
def alertLevel (s : State) : Bool :=
  match s.sdu.sleep with
  | .standby => false
  | .waking => true
  | .active | .drowsy | .sleepAdvised => notify s

/-- The level of DHOLD: three frames in the buffer, or a stall (R86). -/
def dholdLevel (s : State) : Bool :=
  decide (Config.holdThreshold ≤ s.dlc.buffer.length) || s.tcl.stall.isSome

/-! ## Traffic -/

/-- The committed posture (R33). -/
def State.posture (s : State) : Posture := s.pse.record.posture

/-- The entry's source is a dock source, 0 to 7 (R54). -/
def RouteEntry.ofDock (e : RouteEntry) : Bool := decide (e.source.toNat ≤ 7)

/-- The effective action of a route entry, by the five steps of R54; DROP for an invalid entry (R44). -/
def effectiveAction (s : State) (e : RouteEntry) : RouteAction :=
  if !e.valid || e.state = .disabled then .drop
  else if e.ofDock && !s.dlc.state.inUse then .drop
  else
    let a := e.actions[s.posture.index]
    if s.sdu.sleep.asleep && a = .forward && !maskHas e.wakeMask s.posture then .drop else a

/-- A frame's form against an entry: malformed by any of the four tests of R50. -/
def malformed (e : RouteEntry) (f : Frame) : Bool :=
  (match e.length with
    | some n => decide (f.payload.length ≠ n)
    | none => false)
  || (e.paired &&
      (match f.payload with
        | item :: edge :: _ => item = 0 || (edge ≠ 0x01 && edge ≠ 0x02)
        | _ => true))

/-- The item and the edge (true for DOWN) of a paired frame (R64, R194). -/
def itemEdge (f : Frame) : Option (Byte × Bool) :=
  match f.payload with
  | item :: edge :: _ => some (item, edge = 0x01)
  | _ => none

/-- The first index, in ascending order, whose entry satisfies a test. -/
def findRoute (v : Vector RouteEntry 64) (p : RouteEntry → Bool) : Option (Fin 64) :=
  (List.finRange 64).find? fun i => p v[i]

/-- The entry that takes a frame: the exact key, else the source with class ANY (R48). -/
def lookupRoute (v : Vector RouteEntry 64) (source cls : BitVec 4) : Option (Fin 64) :=
  match findRoute v fun e => e.valid && e.source = source && e.cls = .exact cls with
  | some i => some i
  | none => findRoute v fun e => e.valid && e.source = source && e.cls = .any

/-- Another valid entry, at a different index, that holds a key (R45 step 4). -/
def keyTaken (v : Vector RouteEntry 64) (i : Fin 64) (source : BitVec 4) (cls : ClassKey) : Bool :=
  (List.finRange 64).any fun j => decide (j ≠ i) && v[j].valid && v[j].source = source && v[j].cls = cls

/-- The pool holds a slot for an entry and item (R65). -/
def poolHolds (p : List PoolSlot) (i : Fin 64) (item : Byte) : Bool :=
  p.any fun x => x.entry = i && x.item = item

/-- The pool's slots of one entry, oldest first (R73). -/
def slotsOf (p : List PoolSlot) (i : Fin 64) : List PoolSlot := p.filter fun x => x.entry = i

/-! ## Pen -/

/-- Charging is allowed: posture in the active mask, supply not BATTERY_LOW, and in STANDBY a last level
below KEEP_LEVEL (R129). -/
def allowed (s : State) : Bool :=
  maskHas s.pcc.active.postures s.posture
  && s.pcc.supply ≠ .batteryLow
  && (s.sdu.sleep ≠ .standby ||
      (match s.pcc.level with
        | some l => decide (l < s.pcc.active.keep)
        | none => false))

/-- Session time after `ms` more milliseconds stands at the active set's limit or beyond it (R135). -/
def Pcc.limitWithin (ms : Nat) (p : Pcc) : Bool :=
  decide (p.active.session * 60000 ≤ p.seconds * 1000 + p.millis + ms)

/-- The session limit is reached, with the millisecond that is still to be counted, if any (R135). -/
def limitReached (s : State) : Bool := s.pcc.limitWithin (if s.pcc.limitDue then 1 else 0)

/-! ## Holds -/

/-- The number of claimed Hold Slots (R157). -/
def holdCount (s : State) : Nat := s.sdu.holds.toList.countP (·.isSome)

/-- A hold blocks IDLE: any slot is claimed (R158). -/
def blocksIdle (s : State) : Bool := s.sdu.holds.toList.any (·.isSome)

/-- A hold blocks LID: a slot of class FULL is claimed (R158). -/
def blocksLid (s : State) : Bool :=
  s.sdu.holds.toList.any fun h => match h with
    | some h => h.cls = .full
    | none => false

/-- Remaining seconds of a hold, rounded up; 0 with no expiry (R158). -/
def Hold.remaining (h : Hold) : Nat :=
  match h.timer with
  | some ms => (ms + 999) / 1000
  | none => 0

end Sys2Proof.Machine
end

