-- ==== Sys2Proof/Machine/Ops.lean ====
section
/-! DEFINITION. The named operations that the commands share: block updates, responses, placement of records
(chapter 9), the Fault Summary (10.8), recomputation with release synthesis and the stall (chapters 3 and
4), the charging allowance (7.5), and sleep state changes with wake reasons (8.3, 8.4).

PLACEMENT AND ITS OWN FAULT. A record lost in the URGENT lane may raise URGENT_LOSS, whose raise places a
FAULT record and may hand a wake reason to the SDU, whose hand-on may place further records (R167, R189).
The operations on that path therefore take the placement of a part-generated record as an argument. Inside
the raise of URGENT_LOSS its status is set already, so a further loss there only counts (`placeQuiet`);
everywhere else a loss raises in full (`place`). Log entry 12. -/

namespace Sys2Proof.Machine

/-! ## Block updates -/

/-- The state with part time replaced. -/
def State.onTime (f : Half → Half) (s : State) : State := { s with time := f s.time }
/-- The state with the parameter store replaced. -/
def State.onParams (f : Params → Params) (s : State) : State := { s with params := f s.params }
/-- The state with the HLC's block replaced. -/
def State.onHlc (f : Hlc → Hlc) (s : State) : State := { s with hlc := f s.hlc }
/-- The state with the PSE's block replaced. -/
def State.onPse (f : Pse → Pse) (s : State) : State := { s with pse := f s.pse }
/-- The state with the TCL's block replaced. -/
def State.onTcl (f : Tcl → Tcl) (s : State) : State := { s with tcl := f s.tcl }
/-- The state with the DLC's block replaced. -/
def State.onDlc (f : Dlc → Dlc) (s : State) : State := { s with dlc := f s.dlc }
/-- The state with the PCC's block replaced. -/
def State.onPcc (f : Pcc → Pcc) (s : State) : State := { s with pcc := f s.pcc }
/-- The state with the SDU's block replaced. -/
def State.onSdu (f : Sdu → Sdu) (s : State) : State := { s with sdu := f s.sdu }
/-- The state with the RQU's block replaced. -/
def State.onRqu (f : Rqu → Rqu) (s : State) : State := { s with rqu := f s.rqu }

/-- One route entry replaced. -/
def State.onRoute (i : Fin 64) (f : RouteEntry → RouteEntry) (s : State) : State :=
  s.onTcl fun t => { t with routes := t.routes.set i (f t.routes[i]) }

/-- Three readers in one of their six orders. -/
def ReaderOrder.run (o : ReaderOrder) (a b c : State → State) (s : State) : State :=
  match o with
  | .abc => c (b (a s))
  | .acb => b (c (a s))
  | .bac => c (a (b s))
  | .bca => a (c (b s))
  | .cab => b (a (c s))
  | .cba => a (b (c s))

/-! ## The end of a command -/

/-- ALERT_N and DHOLD driven anew from the conditions they follow (R86, R176). -/
def drivePins (s : State) : State :=
  (s.onHlc fun h => { h with alert := alertLevel s }).onDlc fun d => { d with dhold := dholdLevel s }

/-- A command's outcome: the next state, with the two derived output pins at the level of their rules. -/
def done (s : State) : Host.Outcome State Fault Refusal := .next (drivePins s)

/-- The answer to a request of a type becomes the pending response (R178, R193). -/
def respond (type tag : Byte) (status : Status) (payload : List Byte) (s : State) : State :=
  s.onHlc fun h =>
    { h with response := some { rtype := responseType type, tag := tag, status := status, payload := payload } }

/-! ## Placement in the URGENT lane (R165 to R167) -/

/-- A placer of part-generated records. -/
abbrev Placer := Record → State → State

/-- A record enters the URGENT lane: it takes stamp and gap, and the gap count returns to 0 (R165). -/
def enterUrgent (forwarded : Bool) (r : Record) (s : State) : State :=
  s.onRqu fun q =>
    { q with
      urgent := q.urgent ++ [{ r with stamp := s.time, gap := q.urgentGap, forwarded := forwarded }]
      urgentGap := 0 }

/-- Room for a part-generated record (R166). -/
def urgentRoom (s : State) : Bool := decide (s.rqu.urgent.length < Config.urgentRecords)

/-- Room for a forwarded record (R166). -/
def forwardRoom (s : State) : Bool :=
  urgentRoom s && decide (forwardedCount s.rqu.urgent < Config.forwardedRecords)

/-- The URGENT gap count rises by 1, unless it stands at 255 (R167, R171). -/
def countUrgentLoss (s : State) : State :=
  s.onRqu fun q => { q with urgentGap := min 255 (q.urgentGap + 1) }

/-- A lost URGENT record: the gap count rises, and its rise from 0 raises URGENT_LOSS (R167). -/
def loseUrgentWith (raiseLoss : State → State) (s : State) : State :=
  if s.rqu.urgentGap = 0 then raiseLoss (countUrgentLoss s) else countUrgentLoss s

/-- Part-generated URGENT placement: placed with room, else lost (R166). -/
def placeWith (raiseLoss : State → State) : Placer := fun r s =>
  if urgentRoom s then enterUrgent false r s else loseUrgentWith raiseLoss s

/-- Placement of the FAULT record that reports URGENT_LOSS: in a full lane it is lost without a further
rise (R167). -/
def placeSilent : Placer := fun r s => if urgentRoom s then enterUrgent false r s else s

/-! ## Fault Summary (R189, R190) -/

/-- Steps 1 to 4 of a raise: count, status, and for an unmasked kind the first-fault pointer (R189). -/
def noteFault (k : FaultKind) (s : State) : State :=
  s.onHlc fun h =>
    { h with
      faults := h.faults.set k.index { status := true, count := min 255 (h.faults[k.index].count + 1) }
      firstFault := if s.params.masked k then h.firstFault else (match h.firstFault with
        | none => some k
        | some p => some p) }

/-- The FAULT record of a raise, with the count and the pointer after it (R190). -/
def faultRecord (k : FaultKind) (s : State) : Record :=
  partRecord .fault
    [k.code, natByte s.hlc.faults[k.index].count, (s.params.severity k).code, pointerByte s.hlc.firstFault]

/-- A raise whole: steps 1 to 4, and for an unmasked kind whose status was clear the step that its
severity calls for (R189). -/
def raiseWith (pl : Placer) (wake : State → State) (k : FaultKind) (s : State) : State :=
  let s1 := noteFault k s
  if s.params.masked k || s.hlc.faults[k.index].status then s1
  else match s.params.severity k with
    | .log => s1
    | .notify => pl (faultRecord k s1) s1
    | .wake => wake (pl (faultRecord k s1) s1)

/-! ## Coalescing Stage (R169) -/

/-- A flush: records move from the front of the stage to the end of the BULK lane while it has room; the
flush timer is stopped with the stage empty and restarted otherwise (R169). -/
def flushStage (s : State) : State :=
  s.onRqu fun q =>
    let n := Config.bulkRecords - q.bulk.length
    { q with
      bulk := q.bulk ++ q.stage.take n
      stage := q.stage.drop n
      flushTimer := if (q.stage.drop n).isEmpty then none else some s.params.flushTime.toNat }

/-! ## Held Pool (R66 to R71) -/

/-- The pool effect of a frame's placed or lost FWD record on its entry; none for an entry that is not
paired (R66 to R69). -/
def poolEffect (i : Fin 64) (f : Frame) (placed : Bool) (s : State) : State :=
  if s.tcl.routes[i].paired then
    match itemEdge f with
    | some (item, true) =>
      if poolHolds s.tcl.pool i item || !placed then s
      else if s.tcl.pool.length < Config.poolSlots then
        s.onTcl fun t => { t with pool := t.pool ++ [{ entry := i, item := item }] }
      else s.onRoute i fun e => { e with overflow := true }
    | some (item, false) =>
      if poolHolds s.tcl.pool i item then
        let s1 := s.onTcl fun t => { t with pool := t.pool.filter fun x => !(x.entry = i && x.item = item) }
        if placed then s1 else s1.onRoute i fun e => { e with overflow := true }
      else s
    | none => s
  else s

/-! ## The stall (3.8) -/

/-- A stall ends and the stalled frame leaves the buffer (R61 to R63). -/
def endStall (s : State) : State :=
  (s.onTcl fun t => { t with stall := none }).onDlc fun d => { d with buffer := d.buffer.tail }

/-- A retry of the stalled frame (R61): placed as a forwarded record, still refused, or discarded. -/
def retryStall (s : State) : State :=
  match s.tcl.stall, s.dlc.buffer with
  | some st, f :: _ =>
    if s.tcl.routes[st.entry].effective = .forward then
      if forwardRoom s then
        poolEffect st.entry f true (endStall (enterUrgent true (fwdRecord .urgent f) s))
      else s
    else endStall s
  | _, _ => s

/-! ## Release synthesis and recomputation (R55, R72 to R76) -/

/-- The RELEASE record of one slot (R74). -/
def releaseRecord (e : RouteEntry) (i : Fin 64) (cause : SynthCause) (item : Byte) : Record :=
  keyedRecord .release e.source e.cls [natByte i.val, item, cause.code]

/-- The ALL_UP record of an entry (R74). -/
def allUpRecord (e : RouteEntry) (i : Fin 64) (cause : SynthCause) : Record :=
  keyedRecord .allUp e.source e.cls [natByte i.val, cause.code]

/-- The slots of one entry released in order: each places its RELEASE record and leaves the pool (R73). -/
def releaseSlots (pl : Placer) (e : RouteEntry) (cause : SynthCause) : List PoolSlot → State → State
  | [], s => s
  | x :: rest, s =>
    releaseSlots pl e cause rest
      ((pl (releaseRecord e x.entry cause x.item) s).onTcl fun t => { t with pool := t.pool.filter (· ≠ x) })

/-- Release synthesis for one entry: its RELEASE records in pool order, then ALL_UP if its overflow mark is
set (R73). -/
def synthesize (pl : Placer) (cause : SynthCause) (i : Fin 64) (s : State) : State :=
  let e := s.tcl.routes[i]
  let s1 := releaseSlots pl e cause (slotsOf s.tcl.pool i) s
  if e.overflow then (pl (allUpRecord e i cause) s1).onRoute i fun e => { e with overflow := false } else s1

/-- The cause that one entry's synthesis carries in a recomputation (R72). At the entry to QUIESCING a dock entry
releases with DOCK (R111), also where the PSE reads the change before the TCL and an immediate commit of its
evaluation reaches the entry first; a dock entry still forwards in QUIESCING only then (DEDUCED, log entry 30). -/
def synthCause (cause : SynthCause) (e : RouteEntry) (s : State) : SynthCause :=
  if cause = .posture && e.ofDock && s.dlc.state = .quiescing then .dock else cause

/-- One entry's stored effective action brought up to date, with synthesis where it leaves FORWARD (R55,
R72). -/
def recomputeEntry (pl : Placer) (cause : SynthCause) (i : Fin 64) (s : State) : State :=
  let e := s.tcl.routes[i]
  let a := effectiveAction s e
  if !e.valid || a = e.effective then s
  else
    let s1 := s.onRoute i fun e => { e with effective := a }
    if e.effective = .forward then synthesize pl (synthCause cause e s) i s1 else s1

/-- The stored effective action of the stalled entry, if a frame is stalled. -/
def stalledAction (s : State) : Option RouteAction :=
  s.tcl.stall.map fun st => s.tcl.routes[st.entry].effective

/-- The look at the stall after a recomputation: a retry if the stalled entry's stored action differs from
the one before it (R55, R61). -/
def retryIfChanged (before : Option RouteAction) (s : State) : State :=
  if s.tcl.stall.isSome && stalledAction s ≠ before then retryStall s else s

/-- A recomputation of every valid entry in ascending index order (R55). -/
def recomputeWith (pl : Placer) (cause : SynthCause) (s : State) : State :=
  retryIfChanged (stalledAction s)
    ((List.finRange 64).foldl (fun s i => recomputeEntry pl cause i s) s)

/-! ## Pen: allowance (R129, R130) -/

/-- A PEN record from the state after its event (R138). -/
def penRecord (ev : PenEvent) (previous : PenState) (cause : PenCause) (s : State) : Record :=
  partRecord .pen
    ([ev.code, s.pcc.state.code, previous.code, optByte s.pcc.level] ++ natBytes s.pcc.seconds
      ++ halfBytes s.pcc.sessions ++ [cause.code])

/-- A charge burst in progress stops: PEN_DRV inactive and the burst timer cancelled (R126). -/
def Pcc.stopBurst (p : Pcc) : Pcc :=
  if p.burstTimer.isSome then { p with penDrv := false, burstTimer := none } else p

/-- The progress window starts: the baseline is the last level (R134). -/
def Pcc.startProgress (p : Pcc) : Pcc :=
  { p with baseline := p.level, progressTimer := some (p.active.progress * 60000) }

/-- A session opens: its count rises, its time is 0 and the progress window starts (R132). -/
def Pcc.openSession (p : Pcc) : Pcc :=
  Pcc.startProgress { p with sessions := p.sessions + 1, seconds := 0, millis := 0, sessionOpen := true }

/-- A session closes with its cause; with none open the last end cause stays (R132). -/
def Pcc.closeSession (cause : EndCause) (p : Pcc) : Pcc :=
  if p.sessionOpen then { p with sessionOpen := false, lastEnd := cause } else p

/-- CHARGING is left: the burst and the progress window stop, and a millisecond that was still to be counted
is never counted (R126, R134, R135). -/
def Pcc.leaveCharging (p : Pcc) : Pcc := { p.stopBurst with progressTimer := none, limitDue := false }

/-- A session opens at an entry to CHARGING, and CHARGE_STARTED is placed (R130 to R132). -/
def beginSession (pl : Placer) (previous : PenState) (s : State) : State :=
  let s1 := s.onPcc fun p => { p.openSession with state := .charging }
  pl (penRecord .chargeStarted previous .none s1) s1

/-- The pen starts charging from the state it is in (R130). -/
def startCharging (pl : Placer) (s : State) : State := beginSession pl s.pcc.state s

/-- A re-evaluation of allowance (R130). -/
def penAllowance (pl : Placer) (s : State) : State :=
  match s.pcc.state with
  | .charging =>
    if allowed s then s
    else
      let s1 := s.onPcc fun p => { p.leaveCharging with state := .paused }
      pl (penRecord .paused .charging .none s1) s1
  | .paused =>
    if !allowed s then s
    else if s.pcc.sessionOpen then
      let s1 := s.onPcc fun p => { p.startProgress with state := .charging }
      pl (penRecord .resumed .paused .none s1) s1
    else startCharging pl s
  | .full =>
    match s.pcc.level with
    | some l => if allowed s && decide (l ≤ s.pcc.active.resume) then startCharging pl s else s
    | none => s
  | .off | .searching | .detected | .fault => s

/-! ## Sleep state changes (R143, R152, R154 to R157, R172) -/

/-- A restart of the idle timer (R143). -/
def idleRestart (s : State) : State :=
  s.onSdu fun u =>
    { u with
      sleepMark := false
      sleepTimer := some (s.params.idleSleep.toNat * 1000)
      dimTimer := if s.params.idleDim.toNat < s.params.idleSleep.toNat
        then some (s.params.idleDim.toNat * 1000) else none }

/-- A stop of the idle timer (R143). -/
def idleStop (s : State) : State :=
  s.onSdu fun u => { u with sleepMark := false, sleepTimer := none, dimTimer := none }

/-- A VERDICT record other than WAKE (R157, R194). -/
def verdictRecord (v : Verdict) (reason : Advice) (previous : SleepState) (s : State) : Record :=
  partRecord .verdict
    [natByte (holdCount s) <<< 4, v.code, reason.code, s.sdu.sleep.code, previous.code]

/-- The VERDICT record WAKE with the Wake Reason List (R156, R157, R194). -/
def wakeRecord (s : State) : Record :=
  partRecord .verdict
    ((natByte s.sdu.wakeList.length ||| (natByte (holdCount s) <<< 4)) :: s.sdu.wakeList.map (·.code))

/-- The RQU's part in a sleep state change to `new` (R172). A record that the hand-on places may already have
woken the SDU further (log entry 12); the flag still follows the change that is handed on. -/
def suppressOn (old new : SleepState) (s : State) : State :=
  match new with
  | .standby =>
    if old.asleep then s
    else (flushStage s).onRqu fun q => { q with suppressed := true, flushTimer := none }
  | .waking => s
  | .active | .drowsy | .sleepAdvised =>
    if old.asleep then
      s.onRqu fun q =>
        { q with
          suppressed := false
          flushTimer := if q.stage.isEmpty then q.flushTimer else some s.params.flushTime.toNat }
    else s

/-- The DLC's part in a sleep state change to `new`: the notice mark (R91). -/
def noticeOn (old new : SleepState) (s : State) : State :=
  if s.dlc.state.inUse && (new = .standby || (new = .active && old.asleep)) then
    s.onDlc fun d => { d with noticeMark := true }
  else s

/-- The TCL's part in a sleep state change to `new`: the recomputation of R152. Two of the table's four rows
say that no action changes in it, among ACTIVE, DROWSY and SLEEP_ADVISED and from STANDBY to WAKING; there it
is the identity, also inside a posture commit or a dock state change that the TCL has still to handle, so that
the runs of that event carry its own cause, POSTURE or DOCK (R72, R76, R77; DEDUCED, log entry 26). -/
def recomputeOn (pl : Placer) (old new : SleepState) (s : State) : State :=
  if old.asleep = new.asleep then s else recomputeWith pl .sleep s

/-- The PCC's part in a sleep state change to `new`: allowance, which a change among ACTIVE, DROWSY and
SLEEP_ADVISED leaves as it is (R129, R130, R152), also before the PCC has read a posture commit (DEDUCED, log entry
26). -/
def allowanceOn (pl : Placer) (old new : SleepState) (s : State) : State :=
  if old.asleep || new.asleep then penAllowance pl s else s

/-- The hand-on of a sleep state change to the TCL, the PCC, the RQU and the DLC (R151, R152). -/
def sleepHandOn (pl : Placer) (old new : SleepState) (s : State) : State :=
  let s1 :=
    if s.choices.penBeforeTcl then recomputeOn pl old new (allowanceOn pl old new s)
    else allowanceOn pl old new (recomputeOn pl old new s)
  noticeOn old new (suppressOn old new s1)

/-- A change of sleep state: the state first, then its VERDICT record if it has one, then the hand-on
(R152). -/
def changeSleep (pl : Placer) (new : SleepState) (verdict : State → State) (s : State) : State :=
  sleepHandOn pl s.sdu.sleep new (verdict (s.onSdu fun u => { u with sleep := new }))

/-- The gather ends: the list moves into the WAKE verdict, which is placed with the gather over, so that a
wake reason that its own loss brings starts a new gather (R155, R156; log entry 12). -/
def gatherEnd (pl : Placer) (s : State) : State :=
  pl (wakeRecord s) (s.onSdu fun u => { u with wakeList := [], gatherTimer := none })

/-- A gather starts with its first reason (R154, R155). -/
def gatherStart (k : WakeKind) (s : State) : State :=
  s.onSdu fun u => { u with wakeList := [k], gatherTimer := some s.params.wakeGather.toNat }

/-- With WAKE_GATHER 0 a gather ends at its start (R154). -/
def gatherAtOnce (pl : Placer) (s : State) : State :=
  if s.params.wakeGather.toNat = 0 then gatherEnd pl s else s

/-- A wake reason handed to the SDU (R153 to R155). -/
def wakeWith (pl : Placer) (k : WakeKind) (s : State) : State :=
  match s.sdu.sleep with
  | .standby =>
    let s1 := gatherStart k (s.onSdu fun u => { u with sleep := .waking })
    if s.choices.verdictFirst then sleepHandOn pl .standby .waking (gatherAtOnce pl s1)
    else gatherAtOnce pl (sleepHandOn pl .standby .waking s1)
  | .waking =>
    if s.sdu.gatherTimer.isSome then
      if s.sdu.wakeList.contains k then s
      else s.onSdu fun u => { u with wakeList := u.wakeList ++ [k] }
    else gatherAtOnce pl (gatherStart k s)
  | .active | .drowsy | .sleepAdvised => s

/-! ## The two placements, and raising a fault -/

/-- Placement inside the raise of URGENT_LOSS, whose status is then set: a further loss that brings the gap
from 0 to 1 raises again without record or wake reason (R167, R189). -/
def placeQuiet : Placer := placeWith (noteFault .urgentLoss)

/-- The raise of URGENT_LOSS (R167, R189). -/
def raiseUrgentLoss (s : State) : State := raiseWith placeSilent (wakeWith placeQuiet .fault) .urgentLoss s

/-- A lost URGENT record (R167). -/
def loseUrgent (s : State) : State := loseUrgentWith raiseUrgentLoss s

/-- Part-generated URGENT placement (R165, R166). -/
def place : Placer := placeWith raiseUrgentLoss

/-- A wake reason handed to the SDU, outside the raise of URGENT_LOSS (R153). -/
def wake (k : WakeKind) (s : State) : State := wakeWith place k s

/-- A raise of a fault kind other than URGENT_LOSS, which only the RQU raises (R189). -/
def raiseFault (k : FaultKind) (s : State) : State := raiseWith place (wake .fault) k s

/-- A recomputation outside the raise of URGENT_LOSS (R55). -/
def recompute (cause : SynthCause) (s : State) : State := recomputeWith place cause s

/-! ## Activity and verdicts (R142, R157) -/

/-- A VERDICT record placed, with the sleep state it came from (R157). -/
def giveVerdict (v : Verdict) (reason : Advice) (previous : SleepState) (s : State) : State :=
  place (verdictRecord v reason previous s) s

/-- The sleep state becomes ACTIVE with a RESUME verdict and no advised reason (R142, R148). -/
def resumeActive (s : State) : State :=
  changeSleep place .active (giveVerdict .resume .none s.sdu.sleep)
    (s.onSdu fun u => { u with advised := .none })

/-- SLEEP is advised for a reason (R145 to R147). -/
def adviseSleep (reason : Advice) (s : State) : State :=
  changeSleep place .sleepAdvised (giveVerdict .sleep reason s.sdu.sleep)
    (s.onSdu fun u => { u with advised := reason })

/-- An activity event (R142). -/
def activity (s : State) : State :=
  match s.sdu.sleep with
  | .active => idleRestart s
  | .drowsy | .sleepAdvised => resumeActive (idleRestart s)
  | .standby | .waking => s

end Sys2Proof.Machine
end

