-- ==== Sys2Proof/Machine/Angle.lean ====
section
/-! DEFINITION. The angle arithmetic of the Posture Engine: the sector angle (R8), the hinge difference and its
smoothing (R9, R10), circular distance and orientation sectors (R16). Angles are tenths of a degree. -/

namespace Sys2Proof.Machine

/-- The arctangent table T, in tenths of a degree: arctangent of k/16 (R8). -/
def arctanTable : List Nat :=
  [0, 36, 71, 106, 140, 174, 206, 236, 266, 294, 320, 345, 369, 391, 412, 432, 450]

/-- The octant function ATN(m, M), for 0 ≤ m ≤ M and M > 0 (R8 step 2). -/
def octant (m M : Nat) : Nat :=
  let q := (m * 256) / M
  let k := q / 16
  let f := q % 16
  if k = 16 then 450
  else arctanTable.getD k 0 + ((arctanTable.getD (k + 1) 0 - arctanTable.getD k 0) * f + 8) / 16

/-- The angle φ in the first quadrant, 0..900 (R8 step 3). -/
def quadrantAngle (a b : Nat) : Nat := if b ≤ a then octant b a else 900 - octant a b

/-- The sector angle A(u, v) in 0..3599 (R8). Its users exclude the degenerate vector by a gate. -/
def sectorAngle (u v : Int) : Nat :=
  let φ := quadrantAngle u.natAbs v.natAbs
  if 0 ≤ u then (if 0 ≤ v then φ else (3600 - φ) % 3600)
  else (if 0 ≤ v then 1800 - φ else 1800 + φ)

/-- The larger magnitude of two components (R9, R15). -/
def larger (u v : Int) : Nat := max u.natAbs v.natAbs

/-- H_raw from the two vectors and CAL_OFFSET (R9). -/
def rawHinge (lid base : Vec3) (cal : Int) : Nat :=
  (((sectorAngle base.y base.z : Int) - (sectorAngle lid.y lid.z : Int) + 3600 + cal) % 3600).toNat

/-- The signed shortest difference d, −1800..1799 (R10). -/
def hingeDelta (raw hf : Nat) : Int := ((raw : Int) - (hf : Int) + 5400) % 3600 - 1800

/-- The step d / 2^S truncated toward zero, at least 1 in magnitude for d ≠ 0 (R10). -/
def hingeStep (d : Int) (shift : Nat) : Int :=
  let st := d.tdiv (2 ^ shift)
  if d ≠ 0 ∧ st = 0 then d.sign else st

/-- Hf after an update from VALID or HELD (R10). -/
def smoothHinge (raw hf shift : Nat) : Nat :=
  (((hf : Int) + hingeStep (hingeDelta raw hf) shift + 3600) % 3600).toNat

/-- The circular distance between two angles, 0..1800 (00_scope.md "Orientations"). -/
def circularDistance (a b : Nat) : Nat :=
  let d := (a + 3600 - b) % 3600
  min d (3600 - d)

/-- The centre of an orientation's sector (00_scope.md "Orientations"). -/
def Orientation.centre : Orientation → Nat
  | .landscape => 0
  | .portrait => 900
  | .landscapeFlipped => 1800
  | .portraitFlipped => 2700

/-- The orientation whose half-open sector holds ρ (R16). -/
def sectorOf (rho : Nat) : Orientation :=
  if 450 ≤ rho ∧ rho < 1350 then .portrait
  else if 1350 ≤ rho ∧ rho < 2250 then .landscapeFlipped
  else if 2250 ≤ rho ∧ rho < 3150 then .portraitFlipped
  else .landscape

/-! ## Bands (R28, R29) -/

/-- Hf lies in the band low..high, which wraps through 0 where low > high (R28). -/
def inBand (low high hf : Nat) : Bool :=
  if low ≤ high then decide (low ≤ hf) && decide (hf ≤ high) else decide (low ≤ hf) || decide (hf ≤ high)

/-- The number of angles that a band holds (R29). -/
def bandSpan (low high : Nat) : Nat := if low ≤ high then high - low + 1 else 3600 - low + high + 1

/-- The band test of a row that names the committed posture, widened by POSTURE_HYST on each side (R29). -/
def inWideBand (low high hyst hf : Nat) : Bool :=
  if 3600 ≤ bandSpan low high + 2 * hyst then true
  else inBand ((low + 3600 - hyst) % 3600) ((high + hyst) % 3600) hf

end Sys2Proof.Machine
end

