-- ==== Sys2Proof/Machine/Posture.lean ====
section
/-! DEFINITION. The Posture Engine's shared operations: orientation (1.7), posture commits and their hand-on
(R33 to R35), evaluation and settle (R26 to R31), the forced postures (R36, R37), and the base vector's
marks with the base face (R5, R14). -/

namespace Sys2Proof.Machine

/-! ## Orientation (R15 to R21) -/

/-- The ORIENT record of the present orientation record (R21). -/
def orientRecord (previous : Orientation) (cause : OrientCause) (s : State) : Record :=
  partRecord .orient
    ([s.pse.orient.code, previous.code, boolByte s.pse.flat, cause.code, boolByte s.pse.lock]
      ++ natBytes s.pse.rho)

/-- The lock is off and the committed posture is in ORIENT_POSTURES (R17, R19). -/
def mayRotate (s : State) : Bool := !s.pse.lock && maskHas s.params.orientMask s.posture

/-- Expiry of the ROT_SETTLE timer: the candidate is committed or blocked (R17). `quiet` withholds the
ROTATED record, for a commit in the step that clears the flat flag (R21). -/
def rotExpire (quiet : Bool) (s : State) : State :=
  match s.pse.candidate with
  | .settling o =>
    if mayRotate s then
      let s1 := s.onPse fun p => { p with orient := o, candidate := .none, rotTimer := none }
      if quiet then s1 else place (orientRecord s.pse.orient .rotated s1) s1
    else s.onPse fun p => { p with candidate := .blocked o, rotTimer := none }
  | .none | .blocked _ => s

/-- The candidate starts to settle: the ROT_SETTLE timer is started (R16, R18, R19). -/
def startRotSettle (o : Orientation) (s : State) : State :=
  s.onPse fun p => { p with candidate := .settling o, rotTimer := some s.params.rotSettle.toNat }

/-- The orientation that a candidate names. -/
def Candidate.orientation : Candidate → Option Orientation
  | .none => Option.none
  | .settling o => some o
  | .blocked o => some o

/-- The comparison of ρ with the committed orientation (R16). A settle of 0 ms expires within the step. -/
def compareRho (quiet : Bool) (rho : Nat) (s : State) : State :=
  if circularDistance rho s.pse.orient.centre ≤ 450 + s.params.rotHyst.toNat then
    s.onPse fun p => { p with candidate := .none, rotTimer := none }
  else if s.pse.candidate.orientation = some (sectorOf rho) then s
  else
    let s1 := startRotSettle (sectorOf rho) s
    if s.params.rotSettle.toNat = 0 then rotExpire quiet s1 else s1

/-- The orientation step of a lid sample (R15, R16, R21). -/
def orientStep (s : State) : State :=
  let wasFlat := s.pse.flat
  if larger s.pse.lid.x s.pse.lid.y < s.params.flatLevel.toNat then
    let s1 := s.onPse fun p => { p with flat := true, candidate := .none, rotTimer := none }
    if wasFlat then s1 else place (orientRecord s1.pse.orient .flatChanged s1) s1
  else
    let rho := sectorAngle s.pse.lid.y s.pse.lid.x
    let s1 := compareRho wasFlat rho (s.onPse fun p => { p with flat := false, rho := rho })
    if wasFlat then place (orientRecord s.pse.orient .flatChanged s1) s1 else s1

/-- The re-check of ORIENT_POSTURES for a blocked candidate (R19), and the release of the lock (R18). -/
def recheckBlocked (s : State) : State :=
  match s.pse.candidate with
  | .blocked o => if mayRotate s then startRotSettle o s else s
  | .none | .settling _ => s

/-! ## Commits (R33 to R35) -/

/-- The POSTURE record: the Posture Record as the commit leaves it (R34, R194). -/
def postureRecord (r : PostureRecord) : Record :=
  partRecord .posture
    ([r.posture.code, r.previous.code] ++ halfBytes r.sequence ++ natBytes r.hf
      ++ [r.hinge.code, r.cause.code, rowByte r.row])

/-- The Posture Record written by a commit (R33). -/
def writeCommit (p : Posture) (cause : CommitCause) (row : Option (Fin 12)) (s : State) : State :=
  s.onPse fun q =>
    { q with record :=
        { posture := p, previous := q.record.posture, sequence := q.record.sequence + 1, stamp := s.time,
          hf := q.hf, hinge := q.hinge, cause := cause, row := row } }

/-- Lid-close advice: a commit to CLOSED, handled with the activity it also is (R146). -/
def lidClosed (s : State) : State :=
  match s.sdu.sleep with
  | .active | .drowsy => if blocksLid s then activity s else adviseSleep .lidClosed (idleRestart s)
  | .sleepAdvised =>
    if blocksLid s then activity s
    else
      giveVerdict .sleep .lidClosed .sleepAdvised
        ((idleRestart s).onSdu fun u => { u with advised := .lidClosed })
  | .standby | .waking => s

/-- The SDU's part in a commit: activity or lid-close advice, and the wake reason LID_OPENED (R35, R142,
R146, R153). -/
def sleepOnCommit (previous new : Posture) (s : State) : State :=
  let s1 := if new = .closed then lidClosed s else activity s
  if previous = .closed && new ≠ .closed then wake .lidOpened s1 else s1

/-- A commit: the Posture Record, the POSTURE record, then the readers, the TCL, the PCC and the SDU in the
part's order, and the orientation re-check (R33 to R35). -/
def commitPosture (p : Posture) (cause : CommitCause) (row : Option (Fin 12)) (s : State) : State :=
  let previous := s.posture
  let s1 := writeCommit p cause row s
  let s2 := place (postureRecord s1.pse.record) s1
  recheckBlocked
    (s.choices.commit.run (recompute .posture) (penAllowance place) (sleepOnCommit previous p) s2)

/-! ## Evaluation (R26 to R32) -/

/-- A row's face condition (R27). -/
def FaceCond.holds : FaceCond → Face → Bool
  | .any, _ => true
  | .up, f => f = .up
  | .down, f => f = .down
  | .edge, f => f = .edge

/-- A row's hall condition (R27). -/
def HallCond.holds : HallCond → HallLevel → Bool
  | .any, _ => true
  | .set, l => l = .set
  | .clear, l => l = .clear

/-- A row's angle condition, widened for the committed posture (R27 to R29). -/
def angleHolds (r : PostureRow) (s : State) : Bool :=
  if !r.band then true
  else if s.pse.hinge = .unknown then false
  else if r.posture.toPosture = s.posture then
    inWideBand r.low r.high s.params.postureHyst.toNat s.pse.hf
  else inBand r.low r.high s.pse.hf

/-- A row matches (R27). -/
def rowMatches (r : PostureRow) (s : State) : Bool :=
  r.valid && r.face.holds s.pse.face && r.lidHall.holds s.pse.lidHall.level
    && r.foldHall.holds s.pse.foldHall.level && angleHolds r s

/-- The index of the first row that matches (R30). -/
def firstMatch (s : State) : Option (Fin 12) :=
  (List.finRange 12).find? fun i => rowMatches s.pse.rows[i] s

/-- The settle, if any, is cancelled (R31, R36, R37). -/
def cancelSettle (s : State) : State := s.onPse fun p => { p with settle := none }

/-- What follows a matching row: settle kept, cancelled or started, or an immediate commit (R31). -/
def settleRow (i : Fin 12) (s : State) : State :=
  let r := s.pse.rows[i]
  if r.posture.toPosture = s.posture then cancelSettle s
  else if s.pse.settle.map (·.posture) = some r.posture then s
  else if r.settle = 0 then commitPosture r.posture.toPosture .immediate (some i) (cancelSettle s)
  else s.onPse fun p => { p with settle := some { posture := r.posture, row := i, left := r.settle } }

/-- An evaluation, skipped while the dock state forces SLATE; with no matching row the committed posture is
held (R26, R30, R31). -/
def evaluate (s : State) : State :=
  if s.dlc.state.forcesSlate then s
  else match firstMatch s with
    | some i => settleRow i s
    | none => cancelSettle s

/-! ## Base vector and face (R4, R5, R14) -/

/-- The base face of a vector by its z axis (R14). -/
def faceOf (z : Int) : Face := if 700 ≤ z then .up else if z ≤ -700 then .down else .edge

/-- A face written; a change of it triggers an evaluation (R14). -/
def setFace (f : Face) (s : State) : State :=
  if s.pse.face = f then s else evaluate (s.onPse fun p => { p with face := f })

/-- The valid mark cleared: the pairing timer stops and the face becomes NONE (R5, R14). -/
def invalidateBase (s : State) : State :=
  setFace .none (s.onPse fun p => { p with baseValid := false, pairTimer := none })

/-- Node 3 is in the node list of the Dock Identity Record (R5). -/
def Identity.hasNode (i : Identity) (n : Byte) : Bool := i.nodes.any fun e => e.node = n

/-- A base sample arrival (R4, R5, R14). The pairing timer starts at each arrival; the mark that makes the
vector usable is set only under the two conditions of R5. -/
def baseSample (v : Vec3) (s : State) : State :=
  let ok := s.dlc.state.inUse && s.dlc.identity.hasNode 3
  let s1 := s.onPse fun p =>
    { p with
      base := v
      baseStamp := s.time
      baseValid := ok
      pairTimer := some s.params.pairWindow.toNat }
  setFace (if ok then faceOf v.z else .none) s1

/-! ## Forced postures (R36, R37) -/

/-- The PSE's part in a change of dock state: validity of the base vector (R5), forced SLATE (R36), forced
UNKNOWN followed by an evaluation (R37). -/
def postureOnDock (old : DockState) (s : State) : State :=
  let s1 := if s.dlc.state.inUse then s else invalidateBase s
  if s.dlc.state.forcesSlate then
    if old.forcesSlate then s1 else commitPosture .slate .dockForced none (cancelSettle s1)
  else if s.dlc.state = .attached && old ≠ .attached then
    evaluate (commitPosture .unknown .dockForced none (cancelSettle s1))
  else s1

/-! ## Hinge (R9 to R12) -/

/-- The pairing gate (R9). -/
def pairingGate (s : State) : Bool :=
  s.pse.baseValid && s.pse.pairTimer.isSome
    && decide (s.params.minPlane.toNat ≤ larger s.pse.lid.y s.pse.lid.z)
    && decide (s.params.minPlane.toNat ≤ larger s.pse.base.y s.pse.base.z)

/-- A hinge update: Hf, status VALID, stamp, stale timer, then an evaluation (R10). -/
def hingeUpdate (s : State) : State :=
  let raw := rawHinge s.pse.lid s.pse.base s.params.cal
  evaluate (s.onPse fun p =>
    { p with
      hf := if p.hinge = .unknown then raw else smoothHinge raw p.hf s.params.smoothShift.toNat
      hinge := .valid
      hingeStamp := s.time
      staleTimer := some s.params.staleLimit.toNat })

/-- A gate failure: VALID becomes HELD with an evaluation (R11). -/
def gateFailure (s : State) : State :=
  if s.pse.hinge = .valid then evaluate (s.onPse fun p => { p with hinge := .held }) else s

/-- The hinge computation of a lid sample (R9 to R11). -/
def hingeStepOf (s : State) : State := if pairingGate s then hingeUpdate s else gateFailure s

end Sys2Proof.Machine
end

