-- ==== Sys2Proof/Machine/Traffic.lean ====
section
/-! DEFINITION. The traffic path: the handling of a frame in the nine steps of R42, placement of FWD records
in the lanes (3.7, 9.3), disable and re-enable of route entries (3.4), and the stall's end at its limit
(R62). -/

namespace Sys2Proof.Machine

/-! ## BULK placement (R168, R170, R172) -/

/-- The BULK gap count rises by 1, unless it stands at 255 (R171). -/
def countBulkLoss (s : State) : State := s.onRqu fun q => { q with bulkGap := min 255 (q.bulkGap + 1) }

/-- A coalesced BULK record handed over, and whether it is placed (R168, R172). -/
def placeCoalesced (r : Record) (s : State) : State × Bool :=
  if s.rqu.suppressed then (s, false)
  else if Config.stageRecords ≤ s.rqu.stage.length then (countBulkLoss s, false)
  else
    let s1 := s.onRqu fun q =>
      { q with
        stage := q.stage ++ [{ r with stamp := s.time, gap := q.bulkGap, forwarded := false }]
        bulkGap := 0
        flushTimer := if q.stage.isEmpty then some s.params.flushTime.toNat else q.flushTimer }
    (if Config.stageHighWater ≤ s1.rqu.stage.length then flushStage s1 else s1, true)

/-- A non-coalesced BULK record handed over, and whether it is placed: the stage is flushed first (R170,
R172). -/
def placeDirect (r : Record) (s : State) : State × Bool :=
  if s.rqu.suppressed then (s, false)
  else
    let s1 := flushStage s
    if s1.rqu.stage.isEmpty && decide (s1.rqu.bulk.length < Config.bulkRecords) then
      (s1.onRqu fun q =>
        { q with
          bulk := q.bulk ++ [{ r with stamp := s.time, gap := q.bulkGap, forwarded := false }]
          bulkGap := 0 }, true)
    else (countBulkLoss s1, false)

/-! ## Disable and re-enable (R51 to R53) -/

/-- The ROUTE record of an entry, with the error count named (R53). -/
def routeRecord (ev : RouteEvent) (i : Fin 64) (errors : Nat) (e : RouteEntry) : Record :=
  keyedRecord .route e.source e.cls ([natByte i.val, ev.code, natByte errors] ++ natBytes e.hits)

/-- An entry reaches its error limit: DISABLED, recomputed with synthesis, its ROUTE record, the fault (R51). -/
def disableEntry (i : Fin 64) (s : State) : State :=
  let s1 := s.onRoute i fun e => { e with state := .disabled }
  let s2 := retryIfChanged (stalledAction s1) (recomputeEntry place .disabled i s1)
  raiseFault .routeDisabled (place (routeRecord .disabled i s2.tcl.routes[i].errors s2.tcl.routes[i]) s2)

/-- A malformed frame on an ACTIVE entry (R51). -/
def countMalformed (i : Fin 64) (s : State) : State :=
  let s1 := s.onRoute i fun e => { e with errors := min 15 (e.errors + 1) }
  let e := s1.tcl.routes[i]
  if e.errorLimit ≠ 0 ∧ e.errors = e.errorLimit then disableEntry i s1 else s1

/-- One entry re-enabled (R52): ACTIVE with errors 0, its ROUTE record, its action recomputed. -/
def reenableEntry (i : Fin 64) (s : State) : State :=
  let errors := s.tcl.routes[i].errors
  let s1 := s.onRoute i fun e => { e with state := .active, errors := 0 }
  let s2 := place (routeRecord .enabled i errors s1.tcl.routes[i]) s1
  retryIfChanged (stalledAction s2) (recomputeEntry place .disabled i s2)

/-- The re-enable after a restart: every valid DISABLED entry whose source is named, in ascending order
(R52). -/
def reenable (named : BitVec 4 → Bool) (s : State) : State :=
  (List.finRange 64).foldl (init := s) fun s i =>
    let e := s.tcl.routes[i]
    if e.valid && e.state = .disabled && named e.source then reenableEntry i s else s

/-! ## A frame at the classifier (R41, R42) -/

/-- The axes of a base accelerometer payload (R4). -/
def baseAxes : List Byte → Option Vec3
  | [x0, x1, y0, y1, z0, z1] => some (Vec3.ofBytes x0 x1 y0 y1 z0 z1)
  | _ => none

/-- The PSE's tap: a frame of source 3, class 1 and 6 payload bytes (R4). -/
def tap (f : Frame) (s : State) : State :=
  if f.source = 3 ∧ f.cls = 1 then
    match baseAxes f.payload with
    | some v => baseSample v s
    | none => s
  else s

/-- The Held Pool decision: whether a frame under FORWARD is forwarded (R64, R66 to R69). -/
def poolForwards (i : Fin 64) (f : Frame) (s : State) : Bool :=
  !s.tcl.routes[i].paired ||
    (match itemEdge f with
      | some (_, true) => true
      | some (item, false) => poolHolds s.tcl.pool i item || s.tcl.routes[i].overflow
      | none => false)

/-- Activity and wake signalling at a frame's first taking (R57). -/
def signal (i : Fin 64) (act : RouteAction) (s : State) : State :=
  let e := s.tcl.routes[i]
  let live := act = .forward || act = .wakeOnly
  let s1 := if e.activity && live then activity s else s
  if s1.sdu.sleep.asleep && live && maskHas e.wakeMask s1.posture then wake .routeWake s1 else s1

/-- The head frame leaves the Dock Receive Buffer (R41). -/
def dropHead (s : State) : State := s.onDlc fun d => { d with buffer := d.buffer.tail }

/-- The end of a frame's handling: a dock frame leaves the buffer (R41). -/
def endFrame (dock : Bool) (s : State) : State := if dock then dropHead s else s

/-- Step 9 for an entry's frame: placement in its lane (R58, R59), or the stall of a dock frame (R60). -/
def placeFrame (dock : Bool) (i : Fin 64) (f : Frame) (s : State) : State :=
  let e := s.tcl.routes[i]
  match e.lane with
  | .bulk =>
    let r := if e.coalesce then placeCoalesced (fwdRecord .bulk f) s else placeDirect (fwdRecord .bulk f) s
    endFrame dock (poolEffect i f r.2 r.1)
  | .urgent =>
    if forwardRoom s then
      poolEffect i f true (endFrame dock (enterUrgent true (fwdRecord .urgent f) s))
    else if dock then
      s.onTcl fun t => { t with stall := some { entry := i, left := s.params.stallLimit.toNat } }
    else poolEffect i f false (loseUrgent s)

/-- Steps 4 to 9 for a frame matched to an entry (R42). -/
def handleMatched (dock : Bool) (i : Fin 64) (f : Frame) (s : State) : State :=
  let e := s.tcl.routes[i]
  if e.state = .disabled then endFrame dock s
  else if malformed e f then endFrame dock (countMalformed i s)
  else
    let forwards := e.effective = .forward && poolForwards i f s
    let s1 := signal i e.effective s
    if forwards then placeFrame dock i f s1 else endFrame dock s1

/-- The default route (R49). -/
def handleDefault (dock : Bool) (f : Frame) (s : State) : State :=
  if s.params.defaultForwards && !s.sdu.sleep.asleep && (!dock || s.dlc.state.inUse) then
    endFrame dock (placeDirect (fwdRecord .bulk f) s).1
  else endFrame dock s

/-- Step 3, the hit of a matched frame (R48). -/
def countHit (i : Fin 64) (s : State) : State :=
  s.onRoute i fun e => { e with hits := min 65535 (e.hits + 1) }

/-- Steps 3 to 9 (R42). -/
def classify (dock : Bool) (f : Frame) (s : State) : State :=
  match lookupRoute s.tcl.routes f.source f.cls with
  | some i => handleMatched dock i f (countHit i s)
  | none => handleDefault dock f s

/-- A local frame as the PSE presents it (R3, R7, R41). -/
def presentLocal (source cls : BitVec 4) (payload : List Byte) (s : State) : State :=
  classify false { source := source, cls := cls, payload := payload, restart := false } s

/-- A dock frame at its first taking: restart, tap, then classification (R42). -/
def takeDock (f : Frame) (s : State) : State :=
  let s1 := if f.restart then reenable (· = f.source) s else s
  classify true f (tap f s1)

/-- Whether a place in the URGENT lane is lost: the loss at the stall limit raises DOCK_STALL and, for a gap
that rises from 0, URGENT_LOSS, in the part's order (R62, R167). -/
def loseStalled (s : State) : State :=
  if s.choices.stallFaultFirst then loseUrgent (raiseFault .dockStall s)
  else raiseFault .dockStall (loseUrgent s)

/-- The stall limit: the stalled record as part-generated, placed or lost (R62). -/
def escalateStall (s : State) : State :=
  match s.tcl.stall, s.dlc.buffer with
  | some st, f :: _ =>
    if urgentRoom s then
      poolEffect st.entry f true (endStall (enterUrgent false (fwdRecord .urgent f) s))
    else poolEffect st.entry f false (endStall (loseStalled s))
  | _, _ => s

end Sys2Proof.Machine
end

