-- ==== Sys2Proof/Machine/DockState.lean ====
section
/-! DEFINITION. The dock state machine (chapter Attach and Detach): a change of dock state whole (R101), the
transitions, and the commands that drive it: sensing and the latch button, the timers, the latch drive,
DETACH_ANSWER and DOCK_RETRY. -/

namespace Sys2Proof.Machine

/-! ## A change of dock state (R101) -/

/-- The latch drive returns to OFF: LATCH_DRV inactive, its three timers cancelled; the period count keeps
its value for the record of the exit (R112). -/
def Dlc.stopLatch (d : Dlc) : Dlc :=
  { d with latchPhase := .off, latchDrv := false, latchDelay := none, latchPeriod := none, latchOn := none }

/-- Step 1, leaving the old state: its timer is cancelled, and on leaving RELEASING the latch drive stops
(R101). -/
def Dlc.leaveState (d : Dlc) : Dlc :=
  match d.state with
  | .identifying => { d with helloTimer := none }
  | .detachRequested => { d with grantTimer := none }
  | .quiescing => { d with quiesceTimer := none }
  | .releasing => { d.stopLatch with window := none }
  | .absent | .sensed | .attached | .faulted => d

/-- Step 2, the new dock state with its link consequences: the error window (R84), the management marks
(R90, R91), the discard at entry to IDENTIFYING (R96) and the clearing at entry to ABSENT (R97). -/
def Dlc.enterState (new : DockState) (d : Dlc) : Dlc :=
  let d1 : Dlc :=
    { d with
      state := new
      errors := if new.countsErrors then d.errors else 0
      errTimer := if new.countsErrors then d.errTimer else none
      identifyMark := d.identifyMark && new = .identifying
      noticeMark := new.inUse &&
        (d.noticeMark || (new = .attached && (d.state = .identifying || d.state = .releasing))) }
  match new with
  | .identifying => { d1 with quiesceMark := none, slots := d1.slots.filter (·.sending) }
  | .absent =>
    { d1 with quiesceMark := none, slots := [], sending := none, rx := .hunt, identity := Identity.absent }
  | .sensed | .attached | .detachRequested | .quiescing | .releasing | .faulted => d1

/-- The period count that a DOCK record carries: the RELEASING just left for RELOCKED and DETACHED, else 0
(R102). RESTARTED out of RELEASING carries 0 with it, though R112 says that the DOCK record of every exit carries the
count (DEDUCED, log entry 31). -/
def dockPeriods (ev : DockEvent) (d : Dlc) : Nat :=
  if ev = .relocked ∨ ev = .detached then d.latchCount else 0

/-- The DOCK record of a transition, from the state after it (R102, R194). -/
def dockRecord (ev : DockEvent) (previous : DockState) (cause : DockCause) (d : Dlc) : Record :=
  partRecord .dock
    ([ev.code, d.state.code, previous.code, cause.code] ++ natBytes (dockPeriods ev d)
      ++ (if ev = .attached then d.identity.bytes else []))

/-- A period of the latch drive starts with the parameters as they stand (R112). The period count stays
within 0..500. -/
def Dlc.startPeriod (p : Params) (d : Dlc) : Dlc :=
  let period := p.latchPeriod.toNat
  let on := min p.latchOn.toNat period
  { d with
    latchPhase := .pulsing
    latchDrv := true
    latchCount := min 500 (d.latchCount + 1)
    latchPeriod := some period
    latchOn := if on < period then some on else none }

/-- The latch drive starts at entry to RELEASING: DELAY, or with LATCH_DELAY 0 the first period (R112). -/
def Dlc.startLatch (p : Params) (d : Dlc) : Dlc :=
  if p.latchDelay.toNat = 0 then Dlc.startPeriod p { d with latchCount := 0 }
  else { d with latchPhase := .delay, latchCount := 0, latchDelay := some p.latchDelay.toNat }

/-- Step 4, the entry actions of the new state (R103, R108, R111, R112, R114). -/
def Dlc.entryActions (p : Params) (old : DockState) (d : Dlc) : Dlc :=
  match d.state with
  | .identifying => { d with queries := 1, identifyMark := true, helloTimer := some p.helloTimeout.toNat }
  | .detachRequested => { d with grantTimer := some p.grantTimeout.toNat }
  | .quiescing => { d with quiesceMark := some .quiesce, quiesceTimer := some p.quiesceTimeout.toNat }
  | .releasing => { Dlc.startLatch p d with window := some p.releaseWindow.toNat }
  | .attached => if old = .releasing then { d with quiesceMark := some .unquiesce } else d
  | .absent | .sensed | .faulted => d

/-- A change of dock state: leaving, link consequences, DOCK record, entry actions, and the hand-on to the
PSE, the TCL and the SDU in the part's order (R101). `sdu` is what the transition's rule hands to the SDU. -/
def changeDock (new : DockState) (ev : Option DockEvent) (cause : DockCause) (sdu : State → State)
    (s : State) : State :=
  let old := s.dlc.state
  let s1 := s.onDlc fun d => Dlc.enterState new d.leaveState
  let s2 := match ev with
    | some e => place (dockRecord e old cause s1.dlc) s1
    | none => s1
  let s3 := s2.onDlc fun d => Dlc.entryActions s.params old d
  s.choices.dock.run (postureOnDock old) (recompute .dock) sdu s3

/-- A transition that hands nothing of its own to the SDU. -/
def nothing (s : State) : State := s

/-! ## Transitions -/

/-- An accepted HELLO: the identity is replaced, then ATTACHED (R93, R105). -/
def acceptHello (i : Identity) (s : State) : State :=
  let s1 := s.onDlc fun d => { d with identity := i }
  let s2 := if i.hasNode 3 then s1 else invalidateBase s1
  changeDock .attached (some .attached) .none (fun s => activity (wake .dockAttached s)) s2

/-- A latch request: DETACH_REQUESTED from ATTACHED, ignored elsewhere (R108). -/
def latchRequested (s : State) : State :=
  if s.dlc.state = .attached then
    changeDock .detachRequested (some .detachRequest) .none (wake .detachRequest) s
  else s

/-- A grant, by the host or by default: QUIESCING (R109 to R111). -/
def grantDetach (ev : DockEvent) (s : State) : State := changeDock .quiescing (some ev) .none nothing s

/-- A denial, by the host or by default: back to ATTACHED (R109, R110). -/
def denyDetach (ev : DockEvent) (s : State) : State := changeDock .attached (some ev) .none nothing s

/-- Quiescing ends in RELEASING (R111). -/
def releaseBase (cause : DockCause) (s : State) : State :=
  changeDock .releasing (some .releasing) cause nothing s

/-- The node 0 restart at the dock state machine: IDENTIFYING from an attached state, nothing elsewhere
(R116). -/
def restartDock (s : State) : State :=
  match s.dlc.state with
  | .attached | .detachRequested | .quiescing | .releasing =>
    changeDock .identifying (some .restarted) .none nothing s
  | .absent | .sensed | .identifying | .faulted => s

/-- A sense loss in the state it finds (R113, R115). In SENSED and ABSENT, where none can occur, there is
no record (R99). -/
def loseBase (s : State) : State :=
  match s.dlc.state with
  | .releasing => changeDock .absent (some .detached) .none activity s
  | .attached | .detachRequested | .quiescing =>
    changeDock .absent (some .surpriseDetach) .none (fun s => activity (wake .surpriseDetach s)) s
  | .identifying | .faulted => changeDock .absent (some .removed) .none nothing s
  | .sensed => changeDock .absent none .none nothing s
  | .absent => s

/-! ## Sensing and the latch button (R99, R100) -/

/-- One millisecond's level of DOCK_SENSE_N against the accepted level (R99). -/
def senseMillisecond (present : Bool) (s : State) : State :=
  if present = s.dlc.sense then
    let s1 := s.onDlc fun d => { d with senseTimer := none }
    if s.dlc.state = .sensed then changeDock .absent none .none nothing s1 else s1
  else if s.dlc.senseTimer.isSome then s
  else
    let s1 := s.onDlc fun d => { d with senseTimer := some s.params.senseDebounce.toNat }
    if s.dlc.state = .absent then changeDock .sensed none .none nothing s1 else s1

/-- DOCK_SENSE_LEVEL (R99): a low majority is PRESENT. -/
def execDockSenseLevel (s1 s2 s3 : Bool) (s : State) : Host.Outcome State Fault Refusal :=
  done (senseMillisecond (!majority s1 s2 s3) s)

/-- The completion of the sense debounce: PRESENT is accepted, and SENSED becomes IDENTIFYING (R99, R103). -/
def senseComplete (s : State) : State :=
  if s.dlc.senseTimer.isSome && !s.dlc.sense && s.dlc.state = .sensed then
    changeDock .identifying none .none nothing
      (s.onDlc fun d => { d with sense := true, senseTimer := none })
  else s

/-- SENSE_DEBOUNCE_COMPLETE (R99). It acts while the sense timer runs from MISSING to PRESENT in SENSED (log
entry 2). -/
def execSenseDebounceComplete (s : State) : Host.Outcome State Fault Refusal := done (senseComplete s)

/-- The sense timer's expiry to MISSING (R99, R113, R115). -/
def senseLost (s : State) : State :=
  if s.dlc.senseTimer.isSome && s.dlc.sense then
    loseBase (s.onDlc fun d => { d with sense := false, senseTimer := none })
  else s

/-- SENSE_LOSS (R115). It acts while the sense timer runs from PRESENT to MISSING (log entry 2). -/
def execSenseLoss (s : State) : Host.Outcome State Fault Refusal := done (senseLost s)

/-- An accepted press of the latch button (R100, R108). -/
def acceptPress (s : State) : State :=
  latchRequested (s.onDlc fun d => { d with button := true, buttonRun := 0, buttonFresh := false })

/-- One millisecond's level of LATCH_REQ_N (R100): the first after a reset is taken without debounce. -/
def buttonMillisecond (pressed : Bool) (s : State) : State :=
  if s.dlc.buttonFresh then
    s.onDlc fun d => { d with button := pressed, buttonRun := 0, buttonFresh := false }
  else if pressed = s.dlc.button then s.onDlc fun d => { d with buttonRun := 0 }
  else if s.dlc.buttonRun + 1 < Config.buttonDebounce then
    s.onDlc fun d => { d with buttonRun := d.buttonRun + 1 }
  else if pressed then acceptPress s
  else s.onDlc fun d => { d with button := false, buttonRun := 0 }

/-- LATCH_BUTTON_MILLISECOND_LEVEL (R100): a low majority is PRESSED. -/
def execLatchButtonMillisecondLevel (s1 s2 s3 : Bool) (s : State) : Host.Outcome State Fault Refusal :=
  done (buttonMillisecond (!majority s1 s2 s3) s)

/-- LATCH_REQUEST (R108): the sender's word that a press was accepted stands for the milliseconds that led
to it (log entry 6). -/
def execLatchRequest (s : State) : Host.Outcome State Fault Refusal := done (acceptPress s)

/-! ## Timers -/

/-- The HELLO timer's expiry (R104). The third gives FAULTED, its record, then the DOCK_LINK fault. -/
def helloExpired (s : State) : State :=
  if s.dlc.helloTimer.isSome then
    if s.dlc.queries < Config.identQueries then
      s.onDlc fun d =>
        { d with
          queries := d.queries + 1
          identifyMark := true
          helloTimer := some s.params.helloTimeout.toNat }
    else raiseFault .dockLink (changeDock .faulted (some .faulted) .noHello nothing s)
  else s

/-- HELLO_TIMER_EXPIRY (R104). -/
def execHelloTimerExpiry (s : State) : Host.Outcome State Fault Refusal := done (helloExpired s)

/-- GRANT_TIMER_EXPIRY (R110): GRANT_DEFAULT as it stands. -/
def execGrantTimerExpiry (s : State) : Host.Outcome State Fault Refusal :=
  done (if s.dlc.grantTimer.isSome then
    (if s.params.grantsByDefault then grantDetach .grantedByDefault s else denyDetach .timedOut s)
  else s)

/-- QUIESCE_TIMER_EXPIRY (R111). -/
def execQuiesceTimerExpiry (s : State) : Host.Outcome State Fault Refusal :=
  done (if s.dlc.quiesceTimer.isSome then releaseBase .noQuiesce s else s)

/-- RELEASE_WINDOW_EXPIRY (R114): relocked. -/
def execReleaseWindowExpiry (s : State) : Host.Outcome State Fault Refusal :=
  done (if s.dlc.window.isSome then changeDock .attached (some .relocked) .none nothing s else s)

/-- LATCH_DELAY_EXPIRY (R112): the first period. -/
def execLatchDelayExpiry (s : State) : Host.Outcome State Fault Refusal :=
  done (if s.dlc.latchDelay.isSome then
    s.onDlc fun d => Dlc.startPeriod s.params { d with latchDelay := none }
  else s)

/-- LATCH_PERIOD_EXPIRY (R112): the next period, unless the release window expires at the same moment. -/
def execLatchPeriodExpiry (s : State) : Host.Outcome State Fault Refusal :=
  done (if s.dlc.latchPeriod.isSome then
    (if s.dlc.window = some 0 then s.onDlc fun d => { d with latchPeriod := none }
     else s.onDlc (Dlc.startPeriod s.params))
  else s)

/-- LATCH_ON_EXPIRY (R112): LATCH_DRV inactive for the rest of the period. -/
def execLatchOnExpiry (s : State) : Host.Outcome State Fault Refusal :=
  done (if s.dlc.latchOn.isSome then s.onDlc fun d => { d with latchDrv := false, latchOn := none } else s)

/-! ## Requests (R107, R109) -/

/-- DETACH_ANSWER: 0 GRANT, 1 DENY (R109, R193). -/
def answerDetach (tag arg : Byte) (s : State) : State :=
  if 1 < arg.toNat then respond 0x21 tag .badArg [] s
  else if s.dlc.state ≠ .detachRequested then respond 0x21 tag .wrongState [] s
  else respond 0x21 tag .ok [] (if arg = 0 then grantDetach .granted s else denyDetach .denied s)

/-- DETACH_ANSWER (R109). -/
def execDetachAnswer (tag arg : Byte) (s : State) : Host.Outcome State Fault Refusal :=
  done (answerDetach tag arg s)

/-- DOCK_RETRY: FAULTED becomes IDENTIFYING (R107). -/
def retryDock (tag : Byte) (s : State) : State :=
  if s.dlc.state = .faulted then respond 0x22 tag .ok [] (changeDock .identifying none .none nothing s)
  else respond 0x22 tag .wrongState [] s

/-- DOCK_RETRY (R107). -/
def execDockRetry (tag : Byte) (s : State) : Host.Outcome State Fault Refusal := done (retryDock tag s)

end Sys2Proof.Machine
end

