-- ==== Sys2Proof/Machine/DockLink.lean ====
section
/-! DEFINITION. The Dock Link (chapter The Dock Link): the link error window (5.3), reception (5.2), arrivals
and management frames (R83, R92, R93), the transmitter and DOCK_SEND (5.5), and the commands of the Dock
Receive Buffer and of the stall. -/

namespace Sys2Proof.Machine

/-! ## The link error window (R84) -/

/-- The error count after a link error: 1 in a window that opens, else one more (R84 steps 1 and 2). -/
def Dlc.countError (d : Dlc) : Dlc :=
  match d.errTimer with
  | none => { d with errors := 1, errTimer := some Config.errorWindow }
  | some _ => { d with errors := d.errors + 1 }

/-- A link error: counted in a counting state, and at LINK_ERR_LIMIT the link failure (R84, R106). -/
def linkError (s : State) : State :=
  if s.dlc.state.countsErrors then
    let s1 := s.onDlc Dlc.countError
    if s.params.linkErrLimit.toNat ≤ s1.dlc.errors then
      changeDock .faulted (some .faulted) .linkErrors nothing
        (raiseFault .dockLink (s1.onDlc fun d => { d with errors := 0, errTimer := none }))
    else s1
  else s

/-- ERROR_WINDOW_EXPIRY (R84): the window closes with count 0. -/
def execErrorWindowExpiry (s : State) : Host.Outcome State Fault Refusal :=
  done (if s.dlc.errTimer.isSome then s.onDlc fun d => { d with errors := 0, errTimer := none } else s)

/-! ## Management frames (R92, R93) -/

/-- The TCL's part in a node 0 restart: every dock source's DISABLED entries (R52, R92). -/
def reenableDock (s : State) : State := reenable (fun src => decide (src.toNat ≤ 7)) s

/-- A node 0 restart at the dock state machine and at the TCL, in the part's order (R92). -/
def nodeZeroRestart (s : State) : State :=
  if s.choices.restartTclFirst then restartDock (reenableDock s) else reenableDock (restartDock s)

/-- The class of a management frame in the dock state it finds (R92, R93). -/
def managementClass (cls : BitVec 4) (payload : List Byte) (s : State) : State :=
  if cls = 1 ∧ s.dlc.state = .identifying then
    match helloOf payload with
    | some i => acceptHello i s
    | none => linkError s
  else if cls = 2 ∧ s.dlc.state = .quiescing then releaseBase .quiesced s
  else s

/-- A node 0 frame at the management handling: restart, then class (R92). -/
def management (cls : BitVec 4) (restart : Bool) (payload : List Byte) (s : State) : State :=
  managementClass cls payload (if restart then nodeZeroRestart s else s)

/-! ## Arrival (R83, R85) -/

/-- A frame entered into the Dock Receive Buffer, or lost with DOCK_OVERRUN when it is full (R85). -/
def bufferFrame (f : Frame) (s : State) : State :=
  if s.dlc.buffer.length < Config.bufferFrames then s.onDlc fun d => { d with buffer := d.buffer ++ [f] }
  else raiseFault .dockOverrun s

/-- The node-list check (R83): a node 1 to 7 absent from a node list that the record holds is refused. -/
def nodeRefused (node : BitVec 3) (s : State) : Bool :=
  node ≠ 0 && !s.dlc.identity.nodes.isEmpty && !s.dlc.identity.hasNode (node.setWidth 8)

/-- The handling of an arriving frame: node-list check, then dispatch by node, class and dock state (R83).
In ABSENT no frame arrives (R97). -/
def frameArrives (node : BitVec 3) (cls : BitVec 4) (restart : Bool) (payload : List Byte) (s : State) :
    State :=
  if s.dlc.state = .absent then s
  else if nodeRefused node s then linkError s
  else if node = 0 then (if s.dlc.state = .sensed then s else management cls restart payload s)
  else if cls ≠ 0 && s.dlc.state.inUse then
    bufferFrame { source := node.setWidth 4, cls := cls, payload := payload, restart := restart } s
  else s

/-- DOCK_FRAME_ARRIVAL (R83): a whole frame with a good check character. The receiver returns to HUNT; a
length above 32, which no frame can carry, is the link error of R81 (log entry 8). -/
def execDockFrameArrival (node : BitVec 3) (cls : BitVec 4) (restart : Bool) (payload : List Byte) (s : State) :
    Host.Outcome State Fault Refusal :=
  let s1 := s.onDlc fun d => { d with rx := .hunt }
  done (if Config.framePayload < payload.length then linkError s1 else frameArrives node cls restart payload s1)

/-! ## Reception (R79 to R82) -/

/-- A frame is in progress (5.2). -/
def Receiver.inFrame : Receiver → Bool
  | .hunt => false
  | .length .. | .payload .. | .check .. => true

/-- The receiver set. -/
def setRx (r : Receiver) (s : State) : State := s.onDlc fun d => { d with rx := r }

/-- A data character of the frame in progress (R81). -/
def dataCharacter (b : Byte) (s : State) : State :=
  match s.dlc.rx with
  | .hunt => s
  | .length addr crc =>
    if 32 < b.toNat then linkError (setRx .hunt s)
    else if b = 0 then setRx (.check addr [] (crc8Byte crc b)) s
    else setRx (.payload addr b.toNat [] (crc8Byte crc b)) s
  | .payload addr due got crc =>
    if due ≤ 1 then setRx (.check addr (got ++ [b]) (crc8Byte crc b)) s
    else setRx (.payload addr (due - 1) (got ++ [b]) (crc8Byte crc b)) s
  | .check addr got crc =>
    if b = crc then
      frameArrives (addressNode addr) (addressClass addr) (addressRestart addr) got (setRx .hunt s)
    else linkError (setRx .hunt s)

/-- One complete character at the receiver (R81, R82). -/
def receive (data : Byte) (mark stop : Bool) (s : State) : State :=
  if s.dlc.state = .absent then s
  else if !stop then
    if s.dlc.rx.inFrame || mark then linkError (setRx .hunt s) else s
  else if mark then
    let s1 := setRx (.length data (crc8Byte 0 data)) s
    if s.dlc.rx.inFrame then linkError s1 else s1
  else dataCharacter data s

/-- DOCK_CHARACTER (R79, R81); a matching check character makes the frame arrive within the command. A line
whose start bit is high carries no character (log entry 25). -/
def execDockCharacter (data : BitVec 9) (mark stop : Bool) (s : State) : Host.Outcome State Fault Refusal :=
  done (if data.getLsbD 0 then s else receive (lineData data) mark stop s)

/-! ## The transmitter (R87, R88) -/

/-- The oldest waiting slot chosen: its frame's characters, and the slots with it in transmission (R88). -/
def takeSlot : List TxSlot → Option (List DockChar × List TxSlot)
  | [] => none
  | x :: rest =>
    if x.sending then (takeSlot rest).map fun r => (r.1, x :: r.2)
    else some (frameChars (x.node.setWidth 3) (x.cls.setWidth 4) x.payload, { x with sending := true } :: rest)

/-- The class of the frame that the quiesce mark owes (R87). -/
def QuiesceSense.cls : QuiesceSense → BitVec 4
  | .quiesce => 2
  | .unquiesce => 3

/-- The choice of a transmission start: identify, quiesce, notice, the oldest waiting slot (R88). -/
def Dlc.chooseFrame (asleep : Bool) (d : Dlc) : Dlc :=
  if d.identifyMark then
    { d with identifyMark := false, sending := some { chars := frameChars 0 1 [], fromSlot := false } }
  else match d.quiesceMark with
    | some q =>
      { d with quiesceMark := none, sending := some { chars := frameChars 0 q.cls [], fromSlot := false } }
    | none =>
      if d.noticeMark then
        { d with
          noticeMark := false
          sending := some { chars := frameChars 0 4 [boolByte asleep], fromSlot := false } }
      else match takeSlot d.slots with
        | some (chars, slots) =>
          { d with slots := slots, sending := some { chars := chars, fromSlot := true } }
        | none => d

/-- A transmission start is possible: the line is idle and the dock state is not ABSENT (R88). -/
def mayTransmit (s : State) : Bool := s.dlc.sending.isNone && s.dlc.state ≠ .absent

/-- TRANSMISSION_START (R88); with nothing owed nothing starts. -/
def execTransmissionStart (s : State) : Host.Outcome State Fault Refusal :=
  done (if mayTransmit s then s.onDlc (Dlc.chooseFrame s.sdu.sleep.asleep) else s)

/-- The end of a transmission: the line is idle and a slot's frame frees its slot (R88). -/
def Dlc.endTransmission (d : Dlc) : Dlc :=
  match d.sending with
  | some x =>
    { d with sending := none, slots := if x.fromSlot then d.slots.filter (!·.sending) else d.slots }
  | none => d

/-- TRANSMISSION_COMPLETE (R88). -/
def execTransmissionComplete (s : State) : Host.Outcome State Fault Refusal := done (s.onDlc Dlc.endTransmission)

/-- The level of DTX in bit time `n` of the transmission in progress, true for high: its characters one after
another, every one with a good stop bit; with no transmission, and after its last character, the line is idle,
which is high (R79). -/
def Dlc.dtx (d : Dlc) (n : Nat) : Bool :=
  match d.sending.bind fun x => x.chars[n / 11]? with
  | some c => (charBits c.data c.mark true).getLsbD (n % 11)
  | none => true

/-! ## DOCK_SEND (R89) -/

/-- DOCK_SEND's argument check (R89 step 1). -/
def sendFits (node cls len : Byte) (payload : List Byte) : Bool :=
  decide (1 ≤ node.toNat) && decide (node.toNat ≤ 7) && decide (1 ≤ cls.toNat) && decide (cls.toNat ≤ 15)
    && decide (len.toNat ≤ Config.framePayload) && decide (payload.length = len.toNat)

/-- DOCK_SEND: the frame queued as the newest waiting frame, or refused (R89). -/
def sendDock (tag node cls len : Byte) (payload : List Byte) (s : State) : State :=
  if !sendFits node cls len payload then respond 0x20 tag .badArg [] s
  else if !s.dlc.state.inUse then respond 0x20 tag .wrongState [] s
  else if Config.transmitSlots ≤ s.dlc.slots.length then respond 0x20 tag .full [] s
  else
    respond 0x20 tag .ok []
      (s.onDlc fun d =>
        { d with slots := d.slots ++ [{ node := node, cls := cls, payload := payload, sending := false }] })

/-- DOCK_SEND (R89). -/
def execDockSend (tag node cls len : Byte) (payload : List Byte) (s : State) :
    Host.Outcome State Fault Refusal :=
  done (sendDock tag node cls len payload s)

/-! ## The Dock Receive Buffer and the stall -/

/-- The head frame's first taking, while no frame is stalled (R41, R42). -/
def takeHead (s : State) : State :=
  match s.dlc.buffer, s.tcl.stall with
  | f :: _, none => takeDock f s
  | _, _ => s

/-- DOCK_FRAME_TAKEN (R42). -/
def execDockFrameTaken (s : State) : Host.Outcome State Fault Refusal := done (takeHead s)

/-- STALL_TIMER_EXPIRY (R62). It acts while a frame is stalled. -/
def execStallTimerExpiry (s : State) : Host.Outcome State Fault Refusal := done (escalateStall s)

end Sys2Proof.Machine
end

