-- ==== Sys2Proof/Machine/HostLink.lean ====
section
/-! DEFINITION. The requests of the Host Link Controller but RESET (chapter 10): IDENTIFY, STATUS, CONFIG_SET,
CONFIG_GET, FREEZE and FAULT_CLEAR. -/

namespace Sys2Proof.Machine

/-! ## Identification and status (R183, R184, R196) -/

/-- The 16 bytes of an IDENTIFY response (R183, R196). -/
def identifyPayload : List Byte :=
  halfBytes 0x0420 ++
    [1, natByte Config.routeEntries, natByte Config.postureRows, natByte Config.poolSlots,
     natByte Config.urgentRecords, natByte Config.forwardedRecords, natByte Config.bulkRecords,
     natByte Config.stageRecords, natByte Config.holdSlots, natByte Config.bufferFrames,
     natByte Config.transmitSlots, natByte Config.requestPayload] ++ natBytes Config.drainPayload

/-- IDENTIFY (R183). -/
def identify (tag : Byte) (s : State) : State := respond 0x01 tag .ok identifyPayload s

/-- IDENTIFY (R183). -/
def execIdentify (tag : Byte) (s : State) : Host.Outcome State Fault Refusal := done (identify tag s)

/-- STATUS bytes 0 to 10, the Posture Record (R196). -/
def recordStatus (r : PostureRecord) : List Byte :=
  [r.posture.code, r.previous.code] ++ halfBytes r.sequence ++ halfBytes r.stamp ++ natBytes r.hf
    ++ [r.hinge.code, r.cause.code, rowByte r.row]

/-- STATUS bytes 11 to 23, hinge, orientation and base (R196). -/
def pseStatus (p : Pse) : List Byte :=
  natBytes p.hf ++ [p.hinge.code] ++ halfBytes p.hingeStamp
    ++ [p.orient.code, boolByte p.flat, p.candidate.code, p.candidate.mark, boolByte p.lock, p.face.code]
    ++ halfBytes p.baseStamp

/-- STATUS bytes 24 to 44, dock state and identity, seven node pairs with zeros after the last (R196). -/
def dockStatus (d : Dlc) : List Byte :=
  [d.state.code, boolByte d.identity.present] ++ halfBytes d.identity.kind
    ++ [d.identity.revision, d.identity.flags, natByte d.identity.nodes.length]
    ++ ((d.identity.nodes.flatMap fun (n : NodeEntry) => [n.node, n.kind]) ++ List.replicate 14 0).take 14

/-- STATUS bytes 45 to 53, the Pen Record (R139, R196). -/
def penStatus (p : Pcc) : List Byte :=
  [p.state.code, optByte p.level] ++ natBytes p.seconds ++ halfBytes p.sessions
    ++ [p.lastEnd.code, boolByte p.collision, boolByte p.staged.isSome]

/-- Four bytes of one Hold Slot (R196). -/
def holdStatus : Option Hold → List Byte
  | some h => [h.cls.code, h.owner] ++ natBytes h.remaining
  | none => [noneByte, 0] ++ natBytes 0

/-- STATUS bytes 54 to 87, sleep state, advice and Hold Slots (R196). -/
def sleepStatus (u : Sdu) : List Byte :=
  [u.sleep.code, u.advised.code] ++ u.holds.toList.flatMap holdStatus

/-- STATUS bytes 88 to 93, lane counts and gap counts (R175, R196). -/
def queueStatus (q : Rqu) : List Byte :=
  [natByte q.urgent.length, natByte (forwardedCount q.urgent), natByte q.bulk.length, natByte q.stage.length,
   natByte q.urgentGap, natByte q.bulkGap]

/-- STATUS bytes 95 to 112, freeze lock and Fault Summary (R196). -/
def faultStatus (h : Hlc) : List Byte :=
  boolByte h.frozen :: (h.faults.toList.flatMap fun (f : FaultEntry) => [boolByte f.status, natByte f.count])
    ++ [pointerByte h.firstFault]

/-- The 113 bytes of a STATUS response (R184, R196). -/
def statusPayload (s : State) : List Byte :=
  recordStatus s.pse.record ++ pseStatus s.pse ++ dockStatus s.dlc ++ penStatus s.pcc ++ sleepStatus s.sdu
    ++ queueStatus s.rqu ++ [boolByte (notify s)] ++ faultStatus s.hlc

/-- STATUS (R184). -/
def status (tag : Byte) (s : State) : State := respond 0x02 tag .ok (statusPayload s) s

/-- STATUS (R184). -/
def execStatus (tag : Byte) (s : State) : Host.Outcome State Fault Refusal := done (status tag s)

/-! ## Parameters (R185, R186) -/

/-- An accepted value stored and handed to its reader: ORIENT_POSTURES is re-checked at once (R19, R185);
NOTIFY_SHIFT acts through ALERT_N at the command's end (R175). -/
def storeParam (n : Nat) (v : Half) (s : State) : State :=
  let s1 := s.onParams fun p => p.set n v
  if n = 11 then recheckBlocked s1 else s1

/-- CONFIG_SET (R185). -/
def configSet (tag number : Byte) (value : Half) (s : State) : State :=
  let n := number.toNat
  if n < 1 ∨ 31 < n then respond 0x03 tag .badArg [] s
  else if paramFrozen n && s.hlc.frozen then respond 0x03 tag .frozen [] s
  else if paramEnumerated n && decide (1 < value.toNat) then respond 0x03 tag .badArg [] s
  else
    let v := clampParam n value
    respond 0x03 tag (if v = value then .ok else .okClamped) [] (storeParam n v s)

/-- CONFIG_SET (R185). -/
def execConfigSet (tag number : Byte) (value : Half) (s : State) : Host.Outcome State Fault Refusal :=
  done (configSet tag number value s)

/-- CONFIG_GET (R186). -/
def configGet (tag number : Byte) (s : State) : State :=
  match s.params.get number.toNat with
  | some v => respond 0x04 tag .ok (halfBytes v) s
  | none => respond 0x04 tag .badArg [] s

/-- CONFIG_GET (R186). -/
def execConfigGet (tag number : Byte) (s : State) : Host.Outcome State Fault Refusal :=
  done (configGet tag number s)

/-! ## Freeze lock and Fault Summary (R187, R191) -/

/-- FREEZE (R187). -/
def freeze (tag : Byte) (s : State) : State :=
  respond 0x05 tag .ok [] (s.onHlc fun h => { h with frozen := true })

/-- FREEZE (R187). -/
def execFreeze (tag : Byte) (s : State) : Host.Outcome State Fault Refusal := done (freeze tag s)

/-- The kinds named in a mask cleared, and the pointer re-armed if it names one of them (R191). -/
def Hlc.clearFaults (mask : Byte) (h : Hlc) : Hlc :=
  { h with
    faults := Vector.ofFn fun k => if mask.getLsbD k.val then FaultEntry.clear else h.faults[k]
    firstFault := match h.firstFault with
      | some k => if mask.getLsbD k.index.val then none else some k
      | none => none }

/-- FAULT_CLEAR (R191). -/
def faultClear (tag mask : Byte) (s : State) : State := respond 0x07 tag .ok [] (s.onHlc (Hlc.clearFaults mask))

/-- FAULT_CLEAR (R191). -/
def execFaultClear (tag mask : Byte) (s : State) : Host.Outcome State Fault Refusal := done (faultClear tag mask s)

end Sys2Proof.Machine
end

