-- ==== Sys2Proof/Machine/Queue.lean ====
section
/-! DEFINITION. The Report Queue's commands (chapter The Report Queue): DRAIN (9.5) and the flush timer (R169). -/

namespace Sys2Proof.Machine

/-! ## DRAIN (R173, R174) -/

/-- The records taken from the front of a lane while the count and the byte limit allow, with the count and
the bytes left (R173). -/
def takeRecords : List Record → Nat → Nat → List Record
  | [], _, _ => []
  | _, 0, _ => []
  | r :: rest, n + 1, room => if r.size ≤ room then r :: takeRecords rest n (room - r.size) else []

/-- The bytes that a run of records takes in the response (R173). -/
def recordBytes (l : List Record) : Nat := (l.map Record.size).sum

/-- The lane choice of a DRAIN (R173, R193). -/
inductive LaneChoice where
  | urgent | bulk | both
deriving DecidableEq, Repr

/-- The lane choice of a code: 0 URGENT, 1 BULK, 2 BOTH (R193). -/
def laneChoice (b : Byte) : Option LaneChoice :=
  match b.toNat with
  | 0 => some .urgent
  | 1 => some .bulk
  | 2 => some .both
  | _ => none

/-- The bytes of a DRAIN payload beside its 4-byte summary (R173). -/
abbrev drainRoom : Nat := Config.drainPayload - 4

/-- The URGENT records that a DRAIN takes (R173). -/
def drainUrgent (count : Nat) (c : LaneChoice) (q : Rqu) : List Record :=
  match c with
  | .urgent | .both => takeRecords q.urgent count drainRoom
  | .bulk => []

/-- The BULK records that a DRAIN takes: for BOTH only once no URGENT record is left (R173). -/
def drainBulk (count : Nat) (c : LaneChoice) (q : Rqu) : List Record :=
  match c with
  | .urgent => []
  | .bulk => takeRecords q.bulk count drainRoom
  | .both =>
    let u := drainUrgent count .both q
    if u.length = q.urgent.length then
      takeRecords q.bulk (count - u.length) (drainRoom - recordBytes u)
    else []

/-- The payload of a DRAIN response: the summary with the counts after the removal, then the records (R173,
R193, R194). -/
def drainPayload (taken : List Record) (s : State) : List Byte :=
  [natByte taken.length, natByte s.rqu.urgent.length, natByte s.rqu.bulk.length, boolByte (notify s)]
    ++ taken.flatMap Record.bytes

/-- An accepted DRAIN: removal, response, then the retry of a stalled frame if an URGENT record was removed
(R173, R174). -/
def drainLanes (tag : Byte) (count : Nat) (c : LaneChoice) (s : State) : State :=
  let u := drainUrgent count c s.rqu
  let b := drainBulk count c s.rqu
  let s1 := s.onRqu fun q => { q with urgent := q.urgent.drop u.length, bulk := q.bulk.drop b.length }
  respond 0x38 tag .ok (drainPayload (u ++ b) s1) (if u.isEmpty then s1 else retryStall s1)

/-- DRAIN (R173). -/
def drainQueue (tag count lane : Byte) (s : State) : State :=
  if count.toNat < 1 ∨ 16 < count.toNat then respond 0x38 tag .badArg [] s
  else match laneChoice lane with
    | some c => drainLanes tag count.toNat c s
    | none => respond 0x38 tag .badArg [] s

/-- DRAIN (R173). -/
def execDrain (tag count lane : Byte) (s : State) : Host.Outcome State Fault Refusal :=
  done (drainQueue tag count lane s)

/-! ## The flush timer (R169) -/

/-- FLUSH_TIMER_EXPIRY (R169). -/
def execFlushTimerExpiry (s : State) : Host.Outcome State Fault Refusal :=
  done (if s.rqu.flushTimer.isSome then flushStage s else s)

end Sys2Proof.Machine
end

