-- ==== Sys2Proof/Machine/Pen.lean ====
section
/-! DEFINITION. The Pen Charge Controller (chapter Pen Charging): the charge cycle (7.4), the decode and the
state changes it brings (7.4, 7.6 to 7.8), staging (7.2), sessions' ends, and its commands. -/

namespace Sys2Proof.Machine

/-! ## The charge cycle (R124 to R127) -/

/-- The effective burst width W (R125). -/
def burstWidth (wide : Bool) (p : Pcc) : Nat :=
  let w := if wide then p.active.burst else p.active.burst / 2
  match p.level with
  | some l => if p.active.taper ≤ l then w / 2 else w
  | none => w

/-- EXTERNAL supply or an ATTACHED base gives the full width (R125). -/
def wideBurst (s : State) : Bool := s.pcc.supply = .external || s.dlc.state = .attached

/-- Whether the starting cycle is probed, with the silent count of FULL (R127). It is settled here for the whole
cycle: one that starts silent in FULL stays silent to its end where allowance makes the state CHARGING within it,
though every cycle outside FULL is probed (DESIGN CHOICE, log entry 28). -/
def Pcc.chooseProbe (p : Pcc) : Pcc :=
  if p.state = .full then
    if p.silentCycles + 1 < Config.fullProbeCycle then
      { p with silentCycles := p.silentCycles + 1, probed := false }
    else { p with silentCycles := 0, probed := true }
  else { p with probed := true }

/-- A cycle starts: period, probe and, in CHARGING with W above 0, the burst (R124 to R127). -/
def Pcc.startCycle (wide : Bool) (p : Pcc) : Pcc :=
  let q := p.chooseProbe
  let w := burstWidth wide p
  let burst := p.state = .charging ∧ 0 < w
  { q with
    phase := .lead
    cycleTimer := some p.active.period
    probeTimer := if q.probed then some (p.active.period - 6) else none
    width := w
    burstTimer := if burst then some w else none
    penDrv := if burst then true else false
    capture := Capture.empty }

/-- The next cycle starts, unless the pen state is OFF (R124). -/
def runCycle (s : State) : State :=
  if s.pcc.state = .off then s else s.onPcc (Pcc.startCycle (wideBurst s))

/-- The working state of the cycle cleared (R140). -/
def Pcc.clearWork (p : Pcc) : Pcc :=
  { p with
    millis := 0
    limitDue := false
    sessionOpen := false
    cycleTimer := none
    phase := .stopped
    probeTimer := none
    burstTimer := none
    width := 0
    probed := false
    silentCycles := 0
    silentProbes := 0
    baseline := none
    progressTimer := none
    capture := Capture.empty
    penDrv := false }

/-! ## The ends of a session (R133 to R135) -/

/-- CHARGING ends in FAULT: the session closes, the PEN record FAULT, then PEN_FAULT (R134, R135). -/
def penFails (ended : EndCause) (cause : PenCause) (s : State) : State :=
  let s1 := s.onPcc fun p => { (p.closeSession ended).leaveCharging with state := .fault }
  raiseFault .penFault (place (penRecord .fault s.pcc.state cause s1) s1)

/-- Session time rises by one millisecond (R132). -/
def Pcc.raiseSession (p : Pcc) : Pcc :=
  if p.millis < 999 then { p with millis := p.millis + 1 }
  else { p with seconds := p.seconds + 1, millis := 0 }

/-- The millisecond that is still to be counted, if any, is counted (R135). -/
def Pcc.countDue (p : Pcc) : Pcc := if p.limitDue then { p.raiseSession with limitDue := false } else p

/-- The session reaches its limit in CHARGING, with the millisecond that reaches it (R135). -/
def sessionLimit (s : State) : State :=
  if s.pcc.state = .charging then penFails .sessionLimit .sessionLimit (s.onPcc Pcc.countDue) else s

/-- The limit of a set that becomes active (R135). Below it, a millisecond that was due under the set before is
counted. -/
def checkLimit (s : State) : State := if limitReached s then sessionLimit s else s.onPcc Pcc.countDue

/-- A level of 100 in CHARGING or PAUSED: the session closes, FULL (R133). -/
def penFull (s : State) : State :=
  let s1 := s.onPcc fun p =>
    { (p.closeSession .full).leaveCharging with state := .full, silentCycles := 0 }
  place (penRecord .full s.pcc.state .none s1) s1

/-! ## Decode (R127, R128) -/

/-- The outcome of a decode (R128). -/
inductive Reply where
  | noReply
  | invalid
  | valid (level : Nat)
deriving DecidableEq, Repr

/-- The decode of a capture (R128). -/
def Capture.reply (c : Capture) : Reply :=
  if c.rise.isNone then .noReply
  else if c.overflow then .invalid
  else match c.count with
    | some n => if 20 ≤ n ∧ n ≤ 120 then .valid (n - 20) else .invalid
    | none => .invalid

/-- A valid reply's level written, with the count of silent probes at 0 (R128, R137). -/
def Pcc.heard (level : Nat) (p : Pcc) : Pcc := { p with level := some level, silentProbes := 0 }

/-- The state that a docked pen enters: FULL, CHARGING or PAUSED (R131). -/
def dockedState (level : Nat) (s : State) : PenState :=
  if level = 100 then .full else if allowed s then .charging else .paused

/-- The pen is docked by its second valid reply (R131): the DOCKED record and any CHARGE_STARTED, then the
activity (log entry 14). -/
def penDocked (level : Nat) (s : State) : State :=
  let s1 := s.onPcc (Pcc.heard level)
  let next := dockedState level s1
  let s2 := s1.onPcc fun p => { p with state := next, silentCycles := 0 }
  let s3 := place (penRecord .docked s.pcc.state .none s2) s2
  activity (if next = .charging then beginSession place s.pcc.state s3 else s3)

/-- The pen is removed (R137). -/
def penRemoved (s : State) : State :=
  let s1 := s.onPcc fun p =>
    { (p.closeSession .removed).leaveCharging with state := .searching, level := none, silentProbes := 0 }
  let s2 := activity (place (penRecord .removed s.pcc.state .none s1) s1)
  if s.pcc.active.wake then wake .penRemoved s2 else s2

/-- A NO_REPLY in CHARGING, PAUSED, FULL or FAULT: the count of silent probes, and removal at ABSENT_LIMIT
(R137). -/
def countSilent (s : State) : State :=
  let s1 := s.onPcc fun p => { p with silentProbes := min 15 (p.silentProbes + 1) }
  if s.pcc.active.absent ≤ s1.pcc.silentProbes then penRemoved s1 else s1

/-- The state change that a decode's outcome brings in the present pen state (R131, R133, R136, R137). An invalid
reply in DETECTED makes the last level NONE, as R131 says of it, though R128 says that no invalid reply changes the
last level (DEDUCED, log entry 29). -/
def decodeChange (r : Reply) (s : State) : State :=
  match s.pcc.state, r with
  | .searching, .valid l => s.onPcc fun p => { p with level := some l, state := .detected }
  | .detected, .valid l => penDocked l s
  | .detected, .noReply | .detected, .invalid =>
    s.onPcc fun p => { p with level := none, state := .searching }
  | .charging, .valid l | .paused, .valid l =>
    let s1 := s.onPcc (Pcc.heard l)
    if l = 100 then penFull s1 else s1
  | .full, .valid l | .fault, .valid l => s.onPcc (Pcc.heard l)
  | .charging, .noReply | .paused, .noReply | .full, .noReply | .fault, .noReply => countSilent s
  | .searching, .noReply | .searching, .invalid | .charging, .invalid | .paused, .invalid
  | .full, .invalid | .fault, .invalid | .off, _ => s

/-- The decode of a probed cycle's capture, with its state change and the allowance after it (R128). -/
def decode (s : State) : State := penAllowance place (decodeChange s.pcc.capture.reply s)

/-! ## A staged set at a cycle start (R122) -/

/-- A set with ENABLE off becomes active: the charger stops (R122, R140). -/
def penOff (s : State) : State :=
  let s1 := s.onPcc fun p => { (p.closeSession .disabled).clearWork with state := .off }
  place (penRecord .off s.pcc.state .disabled s1) s1

/-- A staged set becomes active; allowance and the session limit are judged in the part's order (R122,
R135). -/
def applyStaged (s : State) : State :=
  match s.pcc.staged with
  | none => s
  | some set =>
    let s1 := s.onPcc fun p => { p with active := set, staged := none }
    if !set.enable then penOff s1
    else if s.choices.limitFirst then penAllowance place (checkLimit s1)
    else checkLimit (penAllowance place s1)

/-- The end of a cycle, which is the start of the next (R124): decode, staged set, next cycle. -/
def cycleEnd (s : State) : State :=
  if s.pcc.cycleTimer.isSome then runCycle (applyStaged (if s.pcc.probed then decode s else s)) else s

/-! ## Events -/

/-- PEN_CYCLE_END (R124). -/
def execPenCycleEnd (s : State) : Host.Outcome State Fault Refusal := done (cycleEnd s)

/-- BURST_TIMER_EXPIRY (R126): PEN_DRV inactive. -/
def execBurstTimerExpiry (s : State) : Host.Outcome State Fault Refusal := done (s.onPcc Pcc.stopBurst)

/-- PROBE_START (R127): the 1 ms probe pulse of a probed cycle. -/
def execProbeStart (s : State) : Host.Outcome State Fault Refusal :=
  done (if s.pcc.phase = .lead && s.pcc.probed then
    s.onPcc fun p => { p with phase := .probe, penDrv := true, probeTimer := some 1 }
  else s)

/-- PROBE_END (R127): PEN_DRV inactive, and the listen interval begins. -/
def execProbeEnd (s : State) : Host.Outcome State Fault Refusal :=
  done (if s.pcc.phase = .probe then
    s.onPcc fun p =>
      { p with phase := .listen, penDrv := false, probeTimer := none, capture := Capture.empty }
  else s)

/-- The capture counter at an edge `atUs` µs into the listen interval (R127). -/
def Capture.edge (rising : Bool) (atUs : Nat) (c : Capture) : Capture :=
  match c.rise, c.count with
  | none, _ => if rising then { c with rise := some atUs } else c
  | some r, none =>
    if rising || c.overflow then c
    else if 256 ≤ (atUs - r) / 10 then { c with overflow := true }
    else { c with count := some ((atUs - r) / 10) }
  | some _, some _ => c

/-- PEN_RX_EDGE (R127). The pin takes the level; only a change of it within the listen interval is captured
(log entry 10). -/
def execPenRxEdge (rising : Bool) (atUs : Nat) (s : State) : Host.Outcome State Fault Refusal :=
  done (s.onPcc fun p =>
    if p.penRx = rising then p
    else
      { p with
        penRx := rising
        capture := if p.phase = .listen ∧ atUs < Config.listenUs then p.capture.edge rising atUs
          else p.capture })

/-- CAPTURE_OVERFLOW (R127): the 256th step of a counter that runs. -/
def execCaptureOverflow (s : State) : Host.Outcome State Fault Refusal :=
  done (if s.pcc.phase = .listen && s.pcc.capture.rise.isSome && s.pcc.capture.count.isNone then
    s.onPcc fun p => { p with capture := { p.capture with overflow := true } }
  else s)

/-- A level above the baseline is progress (R134); NONE lies below every level. -/
def progressMade (p : Pcc) : Bool :=
  match p.level, p.baseline with
  | some l, some b => decide (b < l)
  | some _, none => true
  | none, _ => false

/-- The progress window's expiry (R134). -/
def progressExpired (s : State) : State :=
  if s.pcc.progressTimer.isSome then
    if progressMade s.pcc then s.onPcc Pcc.startProgress else penFails .noProgress .noProgress s
  else s

/-- PROGRESS_WINDOW_EXPIRY (R134). -/
def execProgressWindowExpiry (s : State) : Host.Outcome State Fault Refusal := done (progressExpired s)

/-- SESSION_LIMIT (R135). -/
def execSessionLimit (s : State) : Host.Outcome State Fault Refusal := done (sessionLimit s)

/-! ## Requests -/

/-- The accepted set placed: active at once in OFF, staged elsewhere (R121). -/
def placeSet (p : PenSet) (s : State) : State :=
  if s.pcc.state = .off then
    let s1 := s.onPcc fun q => { q with active := p, collision := false }
    if p.enable then runCycle (s1.onPcc fun q => { q with state := .searching }) else s1
  else s.onPcc fun q => { q with staged := some p, collision := false }

/-- PEN_CONFIG (R120, R121). -/
def configPen (tag : Byte) (raw : Option PenSet) (s : State) : State :=
  match raw with
  | none => respond 0x28 tag .badArg [] s
  | some p =>
    if s.pcc.staged.isSome then
      respond 0x28 tag .collision [] (s.onPcc fun q => { q with collision := true })
    else respond 0x28 tag (if p.clamped = p then .ok else .okClamped) [] (placeSet p.clamped s)

/-- PEN_CONFIG (R120). -/
def execPenConfig (tag enable : Byte) (period burst : Half)
    (taper resume keep absent progress session postures wake : Byte) (s : State) :
    Host.Outcome State Fault Refusal :=
  done (configPen tag
    (penSetOf enable period burst taper resume keep absent progress session postures wake) s)

/-- The supply class of an argument: 0 EXTERNAL, 1 BATTERY, 2 BATTERY_LOW (R193). -/
def supplyOf (b : Byte) : Option Supply :=
  match b.toNat with
  | 0 => some .external
  | 1 => some .battery
  | 2 => some .batteryLow
  | _ => none

/-- SUPPLY: the class set and allowance re-evaluated (R123). -/
def setSupply (tag arg : Byte) (s : State) : State :=
  match supplyOf arg with
  | some c => respond 0x29 tag .ok [] (penAllowance place (s.onPcc fun p => { p with supply := c }))
  | none => respond 0x29 tag .badArg [] s

/-- SUPPLY (R123). -/
def execSupply (tag arg : Byte) (s : State) : Host.Outcome State Fault Refusal := done (setSupply tag arg s)

end Sys2Proof.Machine
end

