-- ==== Sys2Proof/Machine/Reset.lean ====
section
/-! DEFINITION. The two resets: cold reset, warm reset by RESET_N and by the RESET request, with every block's own
part (R13, R20, R39, R44, R63, R78, R98, R117, R141, R162, R177, R188). -/

namespace Sys2Proof.Machine

/-- The START record of a warm reset: reset kind WARM 1, its cause, stamp 0, gap 0 (R177, R194). -/
def warmStart (c : WarmCause) : Record := { Record.coldStart with payload := [0x01, c.code] }

/-- A transaction in progress is abandoned: the rest of its CS_N period is ignored (R178, R188). -/
def Transfer.warm : Transfer → Transfer
  | .idle => .idle
  | .running .. | .abandoned => .abandoned

/-- The HLC's part: the response and the interval go, a transaction in progress is abandoned, lock and Fault
Summary stay (R188). -/
def Hlc.warm (h : Hlc) : Hlc := { h with response := none, interval := 0, transfer := h.transfer.warm }

/-- The PSE's part: table and orientation lock stay, the read timer starts with the LID_RATE in force, the
rest takes its reset value (R1, R5, R6, R13, R18, R20, R23, R39). -/
def Pse.warm (p : Params) (s : Pse) : Pse :=
  { Pse.reset with readTimer := some p.lidPeriod, rows := s.rows, lock := s.lock }

/-- A route entry's part fields at their reset values, its action still to be computed (R44). -/
def RouteEntry.warm (e : RouteEntry) : RouteEntry :=
  { e with state := .active, hits := 0, errors := 0, overflow := false, effective := .drop }

/-- The TCL's part before the recomputation (R44, R63, R78). -/
def Tcl.warm (t : Tcl) : Tcl := { routes := t.routes.map RouteEntry.warm, pool := [], stall := none }

/-- Every entry's effective action computed without synthesis (R44). -/
def computeActions (s : State) : State :=
  s.onTcl fun t => { t with routes := t.routes.map fun e => { e with effective := effectiveAction s e } }

/-- The PCC's part before its new cycle (R141). -/
def Pcc.warm (p : Pcc) : Pcc :=
  { (p.closeSession .reset).clearWork with
    staged := none
    collision := false
    supply := .battery
    level := none
    state := if p.state = .off then .off else .searching }

/-- The RQU's part: one START record (R177). -/
def Rqu.warm (c : WarmCause) : Rqu := { Rqu.reset with urgent := [warmStart c] }

/-- A warm reset: every block's part, then the recomputation of the routes, the idle timer with its
parameters and the first charge cycle (R44, R141, R162). -/
def warmReset (c : WarmCause) (s : State) : State :=
  runCycle (idleRestart (computeActions
    { s with
      time := 0
      hlc := s.hlc.warm
      pse := s.pse.warm s.params
      tcl := s.tcl.warm
      dlc := Dlc.reset
      pcc := s.pcc.warm
      sdu := Sdu.reset
      rqu := Rqu.warm c }))

/-- WARM_RESET_PIN: a warm reset by RESET_N (R188). -/
def execWarmResetPin (s : State) : Host.Outcome State Fault Refusal := done (warmReset .pin s)

/-- RESET: a warm reset whose own OK stays pending (R188). -/
def resetRequest (tag : Byte) (s : State) : State := respond 0x06 tag .ok [] (warmReset .request s)

/-- RESET (R188). -/
def execReset (tag : Byte) (s : State) : Host.Outcome State Fault Refusal := done (resetRequest tag s)

/-- The part right after power-on; the model's own queue and orders stay. -/
def coldState (s : State) : State := { State.reset with pending := s.pending, choices := s.choices }

/-- COLD_RESET: power-on (R177, R188). -/
def execColdReset (s : State) : Host.Outcome State Fault Refusal := done (coldState s)

end Sys2Proof.Machine
end

