-- ==== Sys2Proof/Machine/Routes.lean ====
section
/-! DEFINITION. The requests of the Route Table (3.2): ROUTE_LOAD, ROUTE_CLEAR and ROUTE_READ. -/

namespace Sys2Proof.Machine

/-- An entry index 0..63 (R45). -/
def routeIndex (b : Byte) : Option (Fin 64) := if h : b.toNat < 64 then some ⟨b.toNat, h⟩ else none

/-- What a load and a clear do before the entry is written: release synthesis for a valid entry, and the end
of a stall that it holds (R45, R46, R63). -/
def vacateRoute (cause : SynthCause) (i : Fin 64) (s : State) : State :=
  let s1 := if s.tcl.routes[i].valid then synthesize place cause i s else s
  if (s1.tcl.stall.map (·.entry)) = some i then endStall s1 else s1

/-- An accepted ROUTE_LOAD (R45): the entry written whole, its effective action computed. -/
def writeRoute (i : Fin 64) (e : RouteEntry) (s : State) : State :=
  let s1 := vacateRoute .load i s
  s1.onRoute i fun _ => { e with effective := effectiveAction s1 e }

/-- ROUTE_LOAD: FROZEN, BAD_ARG, DUPLICATE, or the load (R45). -/
def loadRoute (tag index : Byte) (fields : Option RouteEntry) (s : State) : State :=
  if s.hlc.frozen then respond 0x10 tag .frozen [] s
  else match routeIndex index, fields with
    | some i, some e =>
      if keyTaken s.tcl.routes i e.source e.cls then respond 0x10 tag .duplicate [] s
      else respond 0x10 tag .ok [] (writeRoute i e s)
    | _, _ => respond 0x10 tag .badArg [] s

/-- ROUTE_LOAD (R45). -/
def execRouteLoad (tag index source cls : Byte) (actions : Half) (flags wakeMask errorLimit length : Byte)
    (s : State) : Host.Outcome State Fault Refusal :=
  done (loadRoute tag index (routeEntryOf source cls actions flags wakeMask errorLimit length) s)

/-- ROUTE_CLEAR (R46). -/
def clearRoute (tag index : Byte) (s : State) : State :=
  if s.hlc.frozen then respond 0x11 tag .frozen [] s
  else match routeIndex index with
    | some i => respond 0x11 tag .ok [] ((vacateRoute .clear i s).onRoute i fun _ => RouteEntry.cleared)
    | none => respond 0x11 tag .badArg [] s

/-- ROUTE_CLEAR (R46). -/
def execRouteClear (tag index : Byte) (s : State) : Host.Outcome State Fault Refusal :=
  done (clearRoute tag index s)

/-- The host fields of an entry as ROUTE_READ lays them out, valid in place of the index (R195). -/
def RouteEntry.hostBytes (e : RouteEntry) : List Byte :=
  [boolByte e.valid, e.source.setWidth 8, e.cls.code] ++ halfBytes (actionsHalf e.actions)
    ++ [e.flagByte, e.wakeMask, natByte e.errorLimit, optByte e.length]

/-- The ROUTE_READ payload: host fields, part fields, slots held, stalled flag (R47, R195). -/
def routePayload (i : Fin 64) (s : State) : List Byte :=
  let e := s.tcl.routes[i]
  e.hostBytes ++ [e.state.code] ++ natBytes e.hits
    ++ [natByte e.errors, boolByte e.overflow, e.effective.code, natByte (slotsOf s.tcl.pool i).length,
        boolByte ((s.tcl.stall.map (·.entry)) = some i)]

/-- ROUTE_READ (R47). -/
def readRoute (tag index : Byte) (s : State) : State :=
  match routeIndex index with
  | some i => respond 0x12 tag .ok (routePayload i s) s
  | none => respond 0x12 tag .badArg [] s

/-- ROUTE_READ (R47). -/
def execRouteRead (tag index : Byte) (s : State) : Host.Outcome State Fault Refusal := done (readRoute tag index s)

end Sys2Proof.Machine
end

