-- ==== Sys2Proof/Machine/Sensors.lean ====
section
/-! DEFINITION. The commands of the Posture Engine (chapters 1 and 2): lid reads and samples, the timers of
orientation, pairing, staleness and settle, the hall inputs, ORIENT_LOCK, POSTURE_LOAD and POSTURE_READ. -/

namespace Sys2Proof.Machine

/-! ## Lid reads (R1 to R3) -/

/-- LID_READ_TIMER_EXPIRY (R1): a read starts and the timer restarts with the LID_RATE then stored. -/
def execLidReadTimerExpiry (s : State) : Host.Outcome State Fault Refusal :=
  done (if s.pse.readTimer.isSome then
    s.onPse fun p => { p with readTimer := some s.params.lidPeriod, readBusy := some Config.lidReadBound }
  else s)

/-- A lid sample's own handling in the PSE: lid vector, orientation step, hinge computation (R3). -/
def lidSample (v : Vec3) (s : State) : State :=
  hingeStepOf (orientStep (s.onPse fun p => { p with lid := v, failures := 0, readBusy := none }))

/-- A lid sample's whole handling: in the PSE, then its local frame, source 8 class 1 (R3). -/
def lidArrival (v : Vec3) (s : State) : State := presentLocal 8 1 v.bytes (lidSample v s)

/-- LID_SAMPLE_ARRIVAL (R1, R3): it acts while a read is in progress, which a warm reset abandons (log entry
7). -/
def execLidSampleArrival (x y z : Byte × Byte) (s : State) : Host.Outcome State Fault Refusal :=
  done (if s.pse.readBusy.isSome then lidArrival (Vec3.ofBytes x.1 x.2 y.1 y.2 z.1 z.2) s else s)

/-- A lid read failure: the run's count, and LID_SENSOR at its tenth (R2). -/
def lidFailure (s : State) : State :=
  let s1 := s.onPse fun p => { p with failures := min Config.lidFailureLimit (p.failures + 1), readBusy := none }
  if s.pse.failures + 1 = Config.lidFailureLimit then raiseFault .lidSensor s1 else s1

/-- LID_READ_FAILURE (R1, R2): it acts while a read is in progress, which a warm reset abandons (log entry
7). -/
def execLidReadFailure (s : State) : Host.Outcome State Fault Refusal :=
  done (if s.pse.readBusy.isSome then lidFailure s else s)

/-! ## Timers -/

/-- ROT_SETTLE_EXPIRY (R17): it acts while the timer runs, which is while a candidate settles. -/
def execRotSettleExpiry (s : State) : Host.Outcome State Fault Refusal :=
  done (if s.pse.rotTimer.isSome then rotExpire false s else s)

/-- PAIRING_TIMER_EXPIRY (R5): the base vector stops being pairable. -/
def execPairingTimerExpiry (s : State) : Host.Outcome State Fault Refusal :=
  done (s.onPse fun p => { p with pairTimer := none })

/-- STALE_TIMER_EXPIRY (R12): status UNKNOWN, with an evaluation for the change. -/
def execStaleTimerExpiry (s : State) : Host.Outcome State Fault Refusal :=
  done (if s.pse.staleTimer.isSome then
    (let s1 := s.onPse fun p => { p with staleTimer := none, hinge := .unknown }
     if s.pse.hinge = .unknown then s1 else evaluate s1)
  else s)

/-- SETTLE_TIMER_EXPIRY (R32): the candidate is committed and the evaluation record cleared. -/
def execSettleTimerExpiry (s : State) : Host.Outcome State Fault Refusal :=
  done (match s.pse.settle with
    | some c => commitPosture c.posture.toPosture .settled (some c.row) (cancelSettle s)
    | none => s)

/-! ## Hall inputs (R6, R7) -/

/-- One hall input's debounce. -/
def Pse.hall (p : Pse) : HallInput → Hall
  | .lid => p.lidHall
  | .fold => p.foldHall

/-- One hall input's debounce replaced. -/
def setHall (i : HallInput) (h : Hall) (s : State) : State :=
  match i with
  | .lid => s.onPse fun p => { p with lidHall := h }
  | .fold => s.onPse fun p => { p with foldHall := h }

/-- The class of a hall input's local frame (R7). -/
def hallClass : HallInput → BitVec 4
  | .lid => 1
  | .fold => 2

/-- An accepted hall change: the level, an evaluation, then the local frame of source 9 (R7). -/
def acceptHall (i : HallInput) (l : HallLevel) (s : State) : State :=
  presentLocal 9 (hallClass i) [boolByte (l = .set)]
    (evaluate (setHall i { level := l, run := 0, fresh := false } s))

/-- HALL_CHANGE (R7): a change to the level named; a level already accepted is no change (log entry 6). -/
def execHallChange (input : HallInput) (level : HallLevel) (s : State) : Host.Outcome State Fault Refusal :=
  done (if (s.pse.hall input).level = level then s else acceptHall input level s)

/-- The run of one input after a millisecond of level `l`, short of an acceptance (R6). -/
def Hall.count (h : Hall) (l : HallLevel) : Hall :=
  if h.fresh then { level := l, run := 0, fresh := false }
  else if l = h.level then { h with run := 0 }
  else { h with run := min 255 (h.run + 1) }

/-- One input's count written. -/
def countHall (i : HallInput) (l : HallLevel) (s : State) : State := setHall i ((s.pse.hall i).count l) s

/-- An input whose run has reached HALL_DEBOUNCE in a millisecond of level `l` accepts it (R6). -/
def settleHall (i : HallInput) (l : HallLevel) (s : State) : State :=
  if (s.pse.hall i).level ≠ l ∧ s.params.hallDebounce.toNat ≤ (s.pse.hall i).run then acceptHall i l s else s

/-- One millisecond of both hall inputs (R6): both runs, then the acceptances, in the part's order where
both fall due (R7). -/
def hallMillisecond (lid fold : HallLevel) (s : State) : State :=
  let s1 := countHall .fold fold (countHall .lid lid s)
  if s.choices.foldFirst then settleHall .lid lid (settleHall .fold fold s1)
  else settleHall .fold fold (settleHall .lid lid s1)

/-- HALL_MILLISECOND_LEVEL (R6). -/
def execHallMillisecondLevel (l1 l2 l3 f1 f2 f3 : Bool) (s : State) : Host.Outcome State Fault Refusal :=
  done (hallMillisecond (hallLevelOfPin (majority l1 l2 l3)) (hallLevelOfPin (majority f1 f2 f3)) s)

/-! ## Requests (R18, R24, R25) -/

/-- The orientation lock set to a value; released, a blocked candidate is judged again (R18). -/
def setLock (on : Bool) (s : State) : State :=
  if s.pse.lock = on then s
  else
    let s1 := s.onPse fun p => { p with lock := on }
    if on then s1 else recheckBlocked s1

/-- ORIENT_LOCK: 0 OFF, 1 ON (R18, R193). -/
def orientLock (tag arg : Byte) (s : State) : State :=
  match flagOfCode arg with
  | some on => respond 0x1A tag .ok [] (setLock on s)
  | none => respond 0x1A tag .badArg [] s

/-- ORIENT_LOCK (R18). -/
def execOrientLock (tag arg : Byte) (s : State) : Host.Outcome State Fault Refusal := done (orientLock tag arg s)

/-- A row index 0..11 (R24). -/
def rowIndex (b : Byte) : Option (Fin 12) := if h : b.toNat < 12 then some ⟨b.toNat, h⟩ else none

/-- POSTURE_LOAD (R24): the row replaced and any settle cancelled. -/
def loadPosture (tag row : Byte) (fields : Option PostureRow) (s : State) : State :=
  if s.hlc.frozen then respond 0x18 tag .frozen [] s
  else match rowIndex row, fields with
    | some i, some r =>
      respond 0x18 tag .ok [] (s.onPse fun p => { p with rows := p.rows.set i r, settle := none })
    | _, _ => respond 0x18 tag .badArg [] s

/-- POSTURE_LOAD (R24). -/
def execPostureLoad (tag row valid posture angle : Byte) (low high : Half)
    (face lidHall foldHall : Byte) (settle : Half) (s : State) : Host.Outcome State Fault Refusal :=
  done (loadPosture tag row (postureRowOf valid posture angle low high face lidHall foldHall settle) s)

/-- The evaluation record in a POSTURE_READ response: candidate, its row, time remaining (R25, R195). -/
def settleBytes : Option Settle → List Byte
  | some c => [c.posture.toPosture.code, natByte c.row.val] ++ natBytes c.left
  | none => [noneByte, noneByte] ++ natBytes 0

/-- POSTURE_READ (R25, R195). -/
def readPosture (tag row : Byte) (s : State) : State :=
  match rowIndex row with
  | some i =>
    respond 0x19 tag .ok
      (row :: s.pse.rows[i].bytes ++ [s.posture.code] ++ settleBytes s.pse.settle) s
  | none => respond 0x19 tag .badArg [] s

/-- POSTURE_READ (R25). -/
def execPostureRead (tag row : Byte) (s : State) : Host.Outcome State Fault Refusal := done (readPosture tag row s)

end Sys2Proof.Machine
end

