-- ==== Sys2Proof/Machine/Sleep.lean ====
section
/-! DEFINITION. The Sleep Decision Unit's commands (chapter Sleep Decisions): idle advice (8.2), HOST_STATE and
standby (8.3), the gather (8.4) and the Hold Slots (8.6). -/

namespace Sys2Proof.Machine

/-! ## Idle advice (R144, R145) -/

/-- The dim timer's expiry: DIM in ACTIVE (R144). -/
def dimExpired (s : State) : State :=
  if s.sdu.dimTimer.isSome then
    let s1 := s.onSdu fun u => { u with dimTimer := none }
    if s.sdu.sleep = .active then changeSleep place .drowsy (giveVerdict .dim .none .active) s1 else s1
  else s

/-- DIM_TIMER_EXPIRY (R144). -/
def execDimTimerExpiry (s : State) : Host.Outcome State Fault Refusal := done (dimExpired s)

/-- The sleep timer's expiry: the sleep mark, and SLEEP with reason IDLE with no slot claimed (R145). -/
def sleepExpired (s : State) : State :=
  if s.sdu.sleepTimer.isSome then
    let s1 := s.onSdu fun u => { u with sleepTimer := none, sleepMark := true }
    match s.sdu.sleep with
    | .active | .drowsy => if blocksIdle s then s1 else adviseSleep .idle s1
    | .sleepAdvised | .standby | .waking => s1
  else s

/-- SLEEP_TIMER_EXPIRY (R145). -/
def execSleepTimerExpiry (s : State) : Host.Outcome State Fault Refusal := done (sleepExpired s)

/-- GATHER_TIMER_EXPIRY (R156). -/
def execGatherTimerExpiry (s : State) : Host.Outcome State Fault Refusal :=
  done (if s.sdu.gatherTimer.isSome then gatherEnd place s else s)

/-! ## HOST_STATE (R149 to R151) -/

/-- The change of sleep state without a verdict. -/
def noVerdict (s : State) : State := s

/-- HOST_STATE STANDBY (R149, R151). -/
def hostStandby (s : State) : State :=
  match s.sdu.sleep with
  | .active | .drowsy | .sleepAdvised =>
    changeSleep place .standby noVerdict ((idleStop s).onSdu fun u => { u with advised := .none })
  | .waking =>
    changeSleep place .standby noVerdict
      ((idleStop s).onSdu fun u => { u with gatherTimer := none, wakeList := [] })
  | .standby => s

/-- HOST_STATE RUNNING (R149, R150). -/
def hostRunning (s : State) : State :=
  match s.sdu.sleep with
  | .active | .drowsy | .sleepAdvised => activity s
  | .standby | .waking =>
    changeSleep place .active noVerdict
      ((idleRestart s).onSdu fun u => { u with gatherTimer := none, wakeList := [], advised := .none })

/-- HOST_STATE: 0 STANDBY, 1 RUNNING (R149, R193). -/
def setHostState (tag arg : Byte) (s : State) : State :=
  if arg = 0 then respond 0x30 tag .ok [] (hostStandby s)
  else if arg = 1 then respond 0x30 tag .ok [] (hostRunning s)
  else respond 0x30 tag .badArg [] s

/-- HOST_STATE (R149). -/
def execHostState (tag arg : Byte) (s : State) : Host.Outcome State Fault Refusal := done (setHostState tag arg s)

/-! ## Hold Slots (R147, R148, R158 to R161) -/

/-- A slot number 0..7 (R158). -/
def holdSlot (b : Byte) : Option (Fin 8) := if h : b.toNat < 8 then some ⟨b.toNat, h⟩ else none

/-- A hold's class: 0 IDLE, 1 FULL (R193). -/
def holdClassOf (b : Byte) : Option HoldClass :=
  match b.toNat with
  | 0 => some .idle
  | 1 => some .full
  | _ => none

/-- One Hold Slot written. -/
def setHold (i : Fin 8) (h : Option Hold) (s : State) : State :=
  s.onSdu fun u => { u with holds := u.holds.set i h }

/-- A claim blocks the advised reason (R148). -/
def claimBlocks (cls : HoldClass) (s : State) : Bool :=
  match s.sdu.advised with
  | .idle => true
  | .lidClosed => cls = .full
  | .none => false

/-- An accepted claim: the slot filled, and in SLEEP_ADVISED a blocked advice withdrawn (R148, R159). -/
def claimHold (i : Fin 8) (cls : HoldClass) (owner : Byte) (lifetime : Half) (s : State) : State :=
  let s1 := setHold i (some
    { cls := cls, owner := owner, lifetime := lifetime,
      timer := if lifetime = 0 then none else some (lifetime.toNat * 1000) }) s
  if s.sdu.sleep = .sleepAdvised && claimBlocks cls s then resumeActive s1 else s1

/-- HOLD_CLAIM (R159). -/
def holdClaim (tag slot cls owner : Byte) (lifetime : Half) (s : State) : State :=
  match holdSlot slot, holdClassOf cls with
  | some i, some c =>
    if owner = 0 then respond 0x31 tag .badArg [] s
    else if s.sdu.holds[i].isSome then respond 0x31 tag .held [] s
    else respond 0x31 tag .ok [] (claimHold i c owner lifetime s)
  | _, _ => respond 0x31 tag .badArg [] s

/-- HOLD_CLAIM (R159). -/
def execHoldClaim (tag slot cls owner : Byte) (lifetime : Half) (s : State) :
    Host.Outcome State Fault Refusal :=
  done (holdClaim tag slot cls owner lifetime s)

/-- The check for deferred advice after a slot is freed (R147). -/
def deferredAdvice (s : State) : State :=
  match s.sdu.sleep with
  | .active | .drowsy =>
    if !blocksLid s && s.posture = .closed then adviseSleep .lidClosed s
    else if !blocksIdle s && s.sdu.sleepMark then adviseSleep .idle s
    else s
  | .sleepAdvised | .standby | .waking => s

/-- HOLD_RELEASE (R160). -/
def holdRelease (tag slot owner : Byte) (s : State) : State :=
  match holdSlot slot with
  | some i =>
    if owner = 0 then respond 0x32 tag .badArg [] s
    else match s.sdu.holds[i] with
      | none => respond 0x32 tag .wrongState [] s
      | some h =>
        if h.owner ≠ owner then respond 0x32 tag .notOwner [] s
        else respond 0x32 tag .ok [] (deferredAdvice (setHold i none s))
  | none => respond 0x32 tag .badArg [] s

/-- HOLD_RELEASE (R160). -/
def execHoldRelease (tag slot owner : Byte) (s : State) : Host.Outcome State Fault Refusal :=
  done (holdRelease tag slot owner s)

/-- The HOLD record of an expiry: event EXPIRED 0 (R161, R194). -/
def holdRecord (i : Fin 8) (h : Hold) : Record :=
  partRecord .hold ([0, natByte i.val, h.cls.code, h.owner] ++ halfBytes h.lifetime)

/-- A hold's expiry (R161): a claimed slot whose expiry timer runs is freed, with its record. -/
def holdExpired (i : Fin 8) (s : State) : State :=
  match s.sdu.holds[i] with
  | some h =>
    if h.timer.isSome then deferredAdvice (place (holdRecord i h) (setHold i none s)) else s
  | none => s

/-- HOLD_EXPIRY (R161). -/
def execHoldExpiry (slot : Fin 8) (s : State) : Host.Outcome State Fault Refusal := done (holdExpired slot s)

end Sys2Proof.Machine
end

