-- ==== Sys2Proof/Machine/Transaction.lean ====
section
/-! DEFINITION. A Host Link transaction, whole or in parts (10.1 to 10.3): the 20 µs interval, what MISO carries,
the reading and checking of the request, and its dispatch to the block that owns it. -/

namespace Sys2Proof.Machine

/-- The dispatch of a request to its owning block (R182). A command that is no request is none that
`requestOf` spells. -/
def runRequest : Instr → State → State
  | .identify tag => identify tag
  | .status tag => status tag
  | .configSet tag n v => configSet tag n v
  | .configGet tag n => configGet tag n
  | .freeze tag => freeze tag
  | .reset tag => resetRequest tag
  | .faultClear tag m => faultClear tag m
  | .routeLoad tag i src c a fl w e l => loadRoute tag i (routeEntryOf src c a fl w e l)
  | .routeClear tag i => clearRoute tag i
  | .routeRead tag i => readRoute tag i
  | .postureLoad tag r v p a lo hi f lh fh st => loadPosture tag r (postureRowOf v p a lo hi f lh fh st)
  | .postureRead tag r => readPosture tag r
  | .orientLock tag a => orientLock tag a
  | .dockSend tag n c k p => sendDock tag n c k p
  | .detachAnswer tag a => answerDetach tag a
  | .dockRetry tag => retryDock tag
  | .penConfig tag en pe bu ta re ke ab pr se po wa =>
    configPen tag (penSetOf en pe bu ta re ke ab pr se po wa)
  | .supply tag a => setSupply tag a
  | .hostState tag a => setHostState tag a
  | .holdClaim tag sl c o l => holdClaim tag sl c o l
  | .holdRelease tag sl o => holdRelease tag sl o
  | .drain tag c l => drainQueue tag c l
  | _ => fun s => s

/-- What a transaction's MOSI bytes cause: nothing, BAD_FRAME with HOST_FRAME, a refusal before dispatch, or
the request (R179, R182). -/
def takeRequest (r : RequestRead) (s : State) : State :=
  match r with
  | .none => s
  | .bad type tag => raiseFault .hostFrame (respond type tag .badFrame [] s)
  | .request type tag payload =>
    match requestOf type tag payload with
    | .ok c => runRequest c s
    | .error st => respond type tag st [] s

/-- CS_N is low, `waited` µs after the command before: the 20 µs interval has run on, and with CS_N high until
now a transaction begins, outside the interval or within it (R178, R181). -/
def Hlc.select (waited : Nat) (h : Hlc) : Hlc :=
  let left := h.interval - waited
  match h.transfer with
  | .idle => { h with interval := left, miso := [], transfer := .running (left = 0) none [] }
  | .running .. | .abandoned => { h with interval := left }

/-- The frame that a transaction shifts out: the pending response or EMPTY, and within the interval NOT_READY
(R178, R181). -/
def Hlc.outgoing (ready : Bool) (h : Hlc) : List Byte :=
  if ready then (match h.response with
    | some r => r.bytes
    | none => emptyFrame)
  else notReadyFrame

/-- The bits that a transaction clocks in. With its first whole byte it begins to shift out its frame, which
consumes the pending response unless the frame is NOT_READY (R178, R181). -/
def Hlc.clock (mosi : List Bool) (h : Hlc) : Hlc :=
  match h.transfer with
  | .running ready frame bits =>
    let n := (bytesOfBits (bits ++ mosi)).length
    match frame with
    | some f => { h with transfer := .running ready frame (bits ++ mosi), miso := shiftOut f n }
    | none =>
      if n = 0 then { h with transfer := .running ready none (bits ++ mosi) }
      else
        { h with
          transfer := .running ready (some (h.outgoing ready)) (bits ++ mosi)
          miso := shiftOut (h.outgoing ready) n
          response := if ready then none else h.response }
  | .idle | .abandoned => h

/-- CS_N rises. A transaction that clocked a byte starts the 20 µs interval, and unless it was NOT_READY its
request is taken; one that clocked none does neither, nor does one that a reset abandoned (R178, R181). -/
def endTransfer (s : State) : State :=
  let s1 := s.onHlc fun h => { h with transfer := .idle }
  match s.hlc.transfer with
  | .running ready (some _) bits =>
    let s2 := s1.onHlc fun h => { h with interval := Config.hostIntervalUs }
    if ready then takeRequest (readRequest (bytesOfBits bits)) s2 else s2
  | .running _ none _ | .idle | .abandoned => s1

/-- A transaction, or a part of one (R178, R181). -/
def transact (waited : Nat) (mosi : Clocked) (s : State) : State :=
  let s1 := s.onHlc fun h => (h.select waited).clock mosi.bits
  if mosi.ends then endTransfer s1 else s1

/-- HOST_TRANSACTION (R178). -/
def execHostTransaction (waitedUs : Nat) (mosi : Clocked) (s : State) : Host.Outcome State Fault Refusal :=
  done (transact waitedUs mosi s)

end Sys2Proof.Machine
end

