-- ==== Sys2Proof/Machine/Clock.lean ====
section
/-! DEFINITION. What the part does while no command waits (log entries 1, 4, 18): the event that is due, in a
fixed order, and, with none due, one millisecond of part time. -/

namespace Sys2Proof.Machine

/-- A timer has run out: its expiry is due. -/
def ranOut (t : Timer) : Bool := t = some 0

/-- The transmitter owes a frame (R88). -/
def owesFrame (d : Dlc) : Bool :=
  d.identifyMark || d.quiesceMark.isSome || d.noticeMark || d.slots.any (!·.sending)

/-- The Hold Slot, lowest first, whose expiry is due. -/
def dueHold (s : State) : Option (Fin 8) :=
  (List.finRange 8).find? fun i => match s.sdu.holds[i] with
    | some h => ranOut h.timer
    | none => false

/-- Every event that the part can take by itself, with its condition, in the order in which events of one
moment are taken on an empty queue (log entry 4). -/
def dueEvents (s : State) : List (Bool × Instr) :=
  [ (s.dlc.sending.isSome, .transmissionComplete),
    (mayTransmit s && owesFrame s.dlc, .transmissionStart),
    (!s.dlc.buffer.isEmpty && s.tcl.stall.isNone, .dockFrameTaken),
    (ranOut s.pse.readTimer, .lidReadTimerExpiry),
    (ranOut s.pse.readBusy, .lidReadFailure),
    (ranOut s.pse.rotTimer, .rotSettleExpiry),
    (ranOut s.pse.pairTimer, .pairingTimerExpiry),
    (ranOut s.pse.staleTimer, .staleTimerExpiry),
    (ranOut (s.pse.settle.map (·.left)), .settleTimerExpiry),
    (ranOut (s.tcl.stall.map (·.left)), .stallTimerExpiry),
    (ranOut s.dlc.errTimer, .errorWindowExpiry),
    (ranOut s.dlc.senseTimer && !s.dlc.sense && s.dlc.state = .sensed, .senseDebounceComplete),
    (ranOut s.dlc.senseTimer && s.dlc.sense, .senseLoss),
    (ranOut s.dlc.helloTimer, .helloTimerExpiry),
    (ranOut s.dlc.grantTimer, .grantTimerExpiry),
    (ranOut s.dlc.quiesceTimer, .quiesceTimerExpiry),
    (ranOut s.dlc.window, .releaseWindowExpiry),
    (ranOut s.dlc.latchDelay, .latchDelayExpiry),
    (ranOut s.dlc.latchOn, .latchOnExpiry),
    (ranOut s.dlc.latchPeriod, .latchPeriodExpiry),
    (ranOut s.pcc.burstTimer, .burstTimerExpiry),
    (ranOut s.pcc.progressTimer, .progressWindowExpiry),
    (s.pcc.state = .charging && s.pcc.limitDue, .sessionLimit),
    (ranOut s.pcc.probeTimer && s.pcc.phase = .lead && s.pcc.probed, .probeStart),
    (ranOut s.pcc.probeTimer && s.pcc.phase = .probe, .probeEnd),
    (ranOut s.pcc.cycleTimer, .penCycleEnd),
    (ranOut s.sdu.dimTimer, .dimTimerExpiry),
    (ranOut s.sdu.sleepTimer, .sleepTimerExpiry),
    (ranOut s.sdu.gatherTimer, .gatherTimerExpiry),
    ((dueHold s).isSome, .holdExpiry ((dueHold s).getD 0)),
    (ranOut s.rqu.flushTimer, .flushTimerExpiry) ]

/-- The event that is due, if any. -/
def due (s : State) : Option Instr := ((dueEvents s).find? (·.1)).map (·.2)

/-- A timer after one millisecond. -/
def Timer.after (t : Timer) : Timer := t.map (· - 1)

/-- One millisecond of the PSE's timers. -/
def Pse.tick (p : Pse) : Pse :=
  { p with
    readTimer := Timer.after p.readTimer
    readBusy := Timer.after p.readBusy
    pairTimer := Timer.after p.pairTimer
    staleTimer := Timer.after p.staleTimer
    rotTimer := Timer.after p.rotTimer
    settle := p.settle.map fun c => { c with left := c.left - 1 } }

/-- One millisecond of the stall timer. -/
def Tcl.tick (t : Tcl) : Tcl := { t with stall := t.stall.map fun st => { st with left := st.left - 1 } }

/-- One millisecond of the DLC's timers. -/
def Dlc.tick (d : Dlc) : Dlc :=
  { d with
    senseTimer := Timer.after d.senseTimer
    helloTimer := Timer.after d.helloTimer
    grantTimer := Timer.after d.grantTimer
    quiesceTimer := Timer.after d.quiesceTimer
    window := Timer.after d.window
    latchDelay := Timer.after d.latchDelay
    latchPeriod := Timer.after d.latchPeriod
    latchOn := Timer.after d.latchOn
    errTimer := Timer.after d.errTimer }

/-- Session time after one millisecond: it rises only in CHARGING (R132). The millisecond that would reach the
limit is not counted but due: a loss of allowance taken first leaves session time just short of the limit
(R135). -/
def Pcc.sessionTick (p : Pcc) : Pcc :=
  if p.state = .charging then
    if p.limitWithin 1 then { p with limitDue := true } else p.raiseSession
  else p

/-- One millisecond of the PCC's timers and of session time (R124, R132). -/
def Pcc.tick (p : Pcc) : Pcc :=
  { p.sessionTick with
    cycleTimer := Timer.after p.cycleTimer
    probeTimer := Timer.after p.probeTimer
    burstTimer := Timer.after p.burstTimer
    progressTimer := Timer.after p.progressTimer }

/-- One millisecond of the SDU's timers. -/
def Sdu.tick (u : Sdu) : Sdu :=
  { u with
    dimTimer := Timer.after u.dimTimer
    sleepTimer := Timer.after u.sleepTimer
    gatherTimer := Timer.after u.gatherTimer
    holds := u.holds.map fun h => h.map fun h => { h with timer := Timer.after h.timer } }

/-- One millisecond of part time: the time, every running timer, session time, and the 20 µs interval, which
has passed. -/
def tick (s : State) : State :=
  { s with
    time := s.time + 1
    hlc := { s.hlc with interval := 0 }
    pse := s.pse.tick
    tcl := s.tcl.tick
    dlc := s.dlc.tick
    pcc := s.pcc.tick
    sdu := s.sdu.tick
    rqu := { s.rqu with flushTimer := Timer.after s.rqu.flushTimer } }

end Sys2Proof.Machine
end

