-- ==== Sys2Proof/Machine/Dispatch.lean ====
section
/-! DEFINITION. The dispatch of a command to its meaning, one arm per row of spec/opcode_table.json. -/

namespace Sys2Proof.Machine

/-- The command's effect on everything but the queue. -/
def exec (i : Instr) (s : State) : Host.Outcome State Fault Refusal :=
  match i with
  | .hostTransaction waitedUs mosi => Sys2Proof.Machine.execHostTransaction waitedUs mosi s
  | .identify tag => Sys2Proof.Machine.execIdentify tag s
  | .status tag => Sys2Proof.Machine.execStatus tag s
  | .configSet tag number value => Sys2Proof.Machine.execConfigSet tag number value s
  | .configGet tag number => Sys2Proof.Machine.execConfigGet tag number s
  | .freeze tag => Sys2Proof.Machine.execFreeze tag s
  | .reset tag => Sys2Proof.Machine.execReset tag s
  | .faultClear tag mask => Sys2Proof.Machine.execFaultClear tag mask s
  | .routeLoad tag index source cls actions flags wakeMask errorLimit length => Sys2Proof.Machine.execRouteLoad tag index source cls actions flags wakeMask errorLimit length s
  | .routeClear tag index => Sys2Proof.Machine.execRouteClear tag index s
  | .routeRead tag index => Sys2Proof.Machine.execRouteRead tag index s
  | .postureLoad tag row valid posture angle low high face lidHall foldHall settle => Sys2Proof.Machine.execPostureLoad tag row valid posture angle low high face lidHall foldHall settle s
  | .postureRead tag row => Sys2Proof.Machine.execPostureRead tag row s
  | .orientLock tag arg => Sys2Proof.Machine.execOrientLock tag arg s
  | .dockSend tag node cls len payload => Sys2Proof.Machine.execDockSend tag node cls len payload s
  | .detachAnswer tag arg => Sys2Proof.Machine.execDetachAnswer tag arg s
  | .dockRetry tag => Sys2Proof.Machine.execDockRetry tag s
  | .penConfig tag enable period burst taper resume keep absent progress session postures wake => Sys2Proof.Machine.execPenConfig tag enable period burst taper resume keep absent progress session postures wake s
  | .supply tag arg => Sys2Proof.Machine.execSupply tag arg s
  | .hostState tag arg => Sys2Proof.Machine.execHostState tag arg s
  | .holdClaim tag slot cls owner lifetime => Sys2Proof.Machine.execHoldClaim tag slot cls owner lifetime s
  | .holdRelease tag slot owner => Sys2Proof.Machine.execHoldRelease tag slot owner s
  | .drain tag count lane => Sys2Proof.Machine.execDrain tag count lane s
  | .coldReset => Sys2Proof.Machine.execColdReset s
  | .warmResetPin => Sys2Proof.Machine.execWarmResetPin s
  | .lidReadTimerExpiry => Sys2Proof.Machine.execLidReadTimerExpiry s
  | .lidSampleArrival x y z => Sys2Proof.Machine.execLidSampleArrival x y z s
  | .lidReadFailure => Sys2Proof.Machine.execLidReadFailure s
  | .rotSettleExpiry => Sys2Proof.Machine.execRotSettleExpiry s
  | .pairingTimerExpiry => Sys2Proof.Machine.execPairingTimerExpiry s
  | .staleTimerExpiry => Sys2Proof.Machine.execStaleTimerExpiry s
  | .hallChange input level => Sys2Proof.Machine.execHallChange input level s
  | .settleTimerExpiry => Sys2Proof.Machine.execSettleTimerExpiry s
  | .dockFrameTaken => Sys2Proof.Machine.execDockFrameTaken s
  | .stallTimerExpiry => Sys2Proof.Machine.execStallTimerExpiry s
  | .dockCharacter data mark stop => Sys2Proof.Machine.execDockCharacter data mark stop s
  | .dockFrameArrival node cls restart payload => Sys2Proof.Machine.execDockFrameArrival node cls restart payload s
  | .errorWindowExpiry => Sys2Proof.Machine.execErrorWindowExpiry s
  | .transmissionStart => Sys2Proof.Machine.execTransmissionStart s
  | .transmissionComplete => Sys2Proof.Machine.execTransmissionComplete s
  | .dockSenseLevel s1 s2 s3 => Sys2Proof.Machine.execDockSenseLevel s1 s2 s3 s
  | .senseDebounceComplete => Sys2Proof.Machine.execSenseDebounceComplete s
  | .senseLoss => Sys2Proof.Machine.execSenseLoss s
  | .latchRequest => Sys2Proof.Machine.execLatchRequest s
  | .helloTimerExpiry => Sys2Proof.Machine.execHelloTimerExpiry s
  | .grantTimerExpiry => Sys2Proof.Machine.execGrantTimerExpiry s
  | .quiesceTimerExpiry => Sys2Proof.Machine.execQuiesceTimerExpiry s
  | .releaseWindowExpiry => Sys2Proof.Machine.execReleaseWindowExpiry s
  | .latchDelayExpiry => Sys2Proof.Machine.execLatchDelayExpiry s
  | .latchPeriodExpiry => Sys2Proof.Machine.execLatchPeriodExpiry s
  | .latchOnExpiry => Sys2Proof.Machine.execLatchOnExpiry s
  | .penCycleEnd => Sys2Proof.Machine.execPenCycleEnd s
  | .burstTimerExpiry => Sys2Proof.Machine.execBurstTimerExpiry s
  | .probeStart => Sys2Proof.Machine.execProbeStart s
  | .probeEnd => Sys2Proof.Machine.execProbeEnd s
  | .penRxEdge rising atUs => Sys2Proof.Machine.execPenRxEdge rising atUs s
  | .captureOverflow => Sys2Proof.Machine.execCaptureOverflow s
  | .progressWindowExpiry => Sys2Proof.Machine.execProgressWindowExpiry s
  | .sessionLimit => Sys2Proof.Machine.execSessionLimit s
  | .dimTimerExpiry => Sys2Proof.Machine.execDimTimerExpiry s
  | .sleepTimerExpiry => Sys2Proof.Machine.execSleepTimerExpiry s
  | .gatherTimerExpiry => Sys2Proof.Machine.execGatherTimerExpiry s
  | .holdExpiry slot => Sys2Proof.Machine.execHoldExpiry slot s
  | .flushTimerExpiry => Sys2Proof.Machine.execFlushTimerExpiry s
  | .hallMillisecondLevel l1 l2 l3 f1 f2 f3 => Sys2Proof.Machine.execHallMillisecondLevel l1 l2 l3 f1 f2 f3 s
  | .latchButtonMillisecondLevel s1 s2 s3 => Sys2Proof.Machine.execLatchButtonMillisecondLevel s1 s2 s3 s

end Sys2Proof.Machine
end

