-- ==== Sys2Proof/Safety.lean ====
section
/-! DEFINITION. The terms in which statements about the part are made: an answered request, records lodged in
the URGENT lane, the parts of a block that a command leaves, the conditions that every step keeps, and the
table of dock transitions. Nothing here is read by the model. -/

namespace Sys2Proof.Machine

/-! ## Outcomes -/

/-- A request answered: the response of the response type, tag, status and payload named is pending, and the
two output pins stand at the level of their rules (R86, R176); nothing else differs. -/
def answered (rtype tag : Byte) (status : Status) (payload : List Byte) (s : State) : State :=
  drivePins { s with hlc := { s.hlc with
    response := some { rtype := rtype, tag := tag, status := status, payload := payload } } }

/-- Records as they enter the URGENT lane one after another at one moment: each takes the part time, the
first the gap count and the rest 0, and none the forwarded mark (R165, R166). -/
def stampAll (now : Half) (gap : Nat) : List Record → List Record
  | [] => []
  | r :: rest => { r with stamp := now, gap := gap, forwarded := false } :: stampAll now 0 rest

/-- The state with records at the end of the URGENT lane. -/
def lodge (rs : List Record) (s : State) : State :=
  { s with rqu := { s.rqu with
    urgent := s.rqu.urgent ++ stampAll s.time s.rqu.urgentGap rs
    urgentGap := if rs.isEmpty then s.rqu.urgentGap else 0 } }

/-- Room for `n` more part-generated records in the URGENT lane (R166). -/
def hasRoom (n : Nat) (s : State) : Prop := s.rqu.urgent.length + n ≤ 32

/-- The first record that a command places: with room in the lane it stands right behind the records that
were there. -/
def firstPlaced (r : Record) (s t : State) : Prop :=
  hasRoom 1 s → ∃ more, t.rqu.urgent = s.rqu.urgent ++ stampAll s.time s.rqu.urgentGap [r] ++ more

/-- Records that a command places in this order, others possibly among them. It speaks of a command that leaves the
lane room: no record of it was lost, and they stand so behind the records that were there (R165, R166). -/
def placesAmong (rs : List Record) (s t : State) : Prop :=
  t.rqu.urgent.length < 32 →
    (rs.map fun r => (r.kind, r.payload)).Sublist
      ((t.rqu.urgent.drop s.rqu.urgent.length).map fun r => (r.kind, r.payload))

/-! ## Parts of a block that a command leaves -/

/-- The HLC but for the Fault Summary and the level of ALERT_N. -/
def Hlc.link (h : Hlc) : Option Response × Nat × List Byte × Bool × Transfer :=
  (h.response, h.interval, h.miso, h.frozen, h.transfer)

/-- The DLC but for the Dock Receive Buffer, the notice mark and the level of DHOLD. -/
def Dlc.rest (d : Dlc) : Dlc := { d with buffer := [], noticeMark := false, dhold := false }

/-- The PSE but for what a posture commit or an evaluation may change: the Posture Record, the settle, and
the orientation's candidate with its timer. -/
def Pse.senses (p : Pse) : Pse :=
  { p with record := PostureRecord.reset, settle := none, candidate := .none, rotTimer := none }

/-- The host fields of a route entry (R43). -/
def RouteEntry.hostFields (e : RouteEntry) : RouteEntry :=
  { e with state := .active, hits := 0, errors := 0, overflow := false, effective := .drop }

/-- Nothing differs but what placements, wake reasons, recomputations and allowance can reach: the RQU, the
SDU, the TCL, the PCC, the Fault Summary, the Dock Receive Buffer, the notice mark and the derived pins. -/
structure Beyond (s t : State) : Prop where
  time : t.time = s.time
  params : t.params = s.params
  link : t.hlc.link = s.hlc.link
  pse : t.pse = s.pse
  dock : t.dlc.rest = s.dlc.rest
  choices : t.choices = s.choices
  pending : t.pending = s.pending

/-- The frame of a command that also commits or evaluates: `Beyond` with the PSE's senses for the PSE. -/
structure BeyondCommit (s t : State) : Prop where
  time : t.time = s.time
  params : t.params = s.params
  link : t.hlc.link = s.hlc.link
  senses : t.pse.senses = s.pse.senses
  dock : t.dlc.rest = s.dlc.rest
  choices : t.choices = s.choices
  pending : t.pending = s.pending

/-- The outcome of a command whose last act is to place one record, from the state `s` that its other effects
leave: with room the record stands at the lane's end and nothing else differs; in a full lane it is lost, the
lane stays as it is and the gap count rises, unless it stands at 255 (R166, R167). -/
def placesLast (r : Record) (s t : State) : Prop :=
  if s.rqu.urgent.length < 32 then t = drivePins (lodge [r] s)
  else Beyond s t ∧ t.rqu.urgent = s.rqu.urgent ∧ min 255 (s.rqu.urgentGap + 1) ≤ t.rqu.urgentGap

/-- A kind has been raised: its status is set, its count has risen by 1 unless it stood at 255, and the
first-fault pointer names it if it was NONE and the kind is not masked (R189). -/
def raised (k : FaultKind) (s t : State) : Prop :=
  t.hlc.faults[k.index] = { status := true, count := min 255 (s.hlc.faults[k.index].count + 1) }
  ∧ t.hlc.firstFault = if s.params.masked k then s.hlc.firstFault else s.hlc.firstFault.or (some k)

/-! ## What an event hands to the SDU -/

/-- The idle timer restarted with the parameters (R143). -/
def Sdu.restarted (p : Params) (u : Sdu) : Sdu :=
  { u with
    sleepMark := false
    sleepTimer := some (p.idleSleep.toNat * 1000)
    dimTimer := if p.idleDim.toNat < p.idleSleep.toNat then some (p.idleDim.toNat * 1000) else none }

/-- The SDU after an activity event: the idle timer restarted, and ACTIVE from DROWSY and SLEEP_ADVISED; nothing in
STANDBY and WAKING (R142). -/
def Sdu.stirred (p : Params) (u : Sdu) : Sdu :=
  match u.sleep with
  | .active => u.restarted p
  | .drowsy | .sleepAdvised => { u.restarted p with sleep := .active, advised := .none }
  | .standby | .waking => u

/-- The verdict of an activity event: RESUME, from DROWSY and SLEEP_ADVISED alone (R142, R157). -/
def resumeVerdict (s : State) : List Record :=
  if s.sdu.sleep = .drowsy ∨ s.sdu.sleep = .sleepAdvised then
    [partRecord .verdict [natByte (holdCount s) <<< 4, 2, 0xFF, 0, s.sdu.sleep.code]]
  else []

/-- A wake reason starts a gather: it is taken in STANDBY, or in WAKING with no gather running (R154, R155). -/
def Sdu.startsGather (u : Sdu) : Bool := u.sleep = .standby || (u.sleep = .waking && u.gatherTimer.isNone)

/-- The SDU after a wake reason, by WAKE_GATHER: it starts a gather, which at 0 is over at once, or joins the one that
runs, or is discarded outside STANDBY and WAKING (R153 to R156). -/
def Sdu.told (k : WakeKind) (gather : Nat) (u : Sdu) : Sdu :=
  if u.startsGather then
    { u with
      sleep := .waking
      wakeList := if gather = 0 then [] else [k]
      gatherTimer := if gather = 0 then none else some gather }
  else if u.sleep = .waking ∧ k ∉ u.wakeList then { u with wakeList := u.wakeList ++ [k] }
  else u

/-- The verdict of a wake reason: WAKE with that one reason, where it starts a gather of length 0 (R154, R156). -/
def wakeVerdict (k : WakeKind) (s : State) : List Record :=
  if s.params.wakeGather = 0 ∧ s.sdu.startsGather = true then
    [partRecord .verdict [1 ||| (natByte (holdCount s) <<< 4), k.code]]
  else []

/-! ## The end of a charge cycle -/

/-- A valid reply whose count is `c` (R128). -/
def Capture.valid (c : Nat) (p : Capture) : Prop :=
  p.rise.isSome = true ∧ p.overflow = false ∧ p.count = some c ∧ 20 ≤ c ∧ c ≤ 120

/-- An invalid reply, OVF included (R128). -/
def Capture.invalid (p : Capture) : Prop :=
  p.rise.isSome = true ∧ (p.overflow = true ∨ p.count = none ∨ ∃ k, p.count = some k ∧ (k < 20 ∨ 120 < k))

/-- Charging is allowed for a charger that stands as `q`, with the posture and the sleep state of `s` (R129). -/
def mayCharge (s : State) (q : Pcc) : Prop :=
  maskHas q.active.postures s.posture = true ∧ q.supply ≠ .batteryLow
    ∧ (s.sdu.sleep = .standby → ∃ l, q.level = some l ∧ l < q.active.keep)

/-- Allowance leaves FAULT, CHARGING, PAUSED or FULL of a charger that stands as `q` as it is (R130). -/
def chargeRests (s : State) (q : Pcc) : Prop :=
  q.state = .fault ∨ (q.state = .charging ∧ mayCharge s q) ∨ (q.state = .paused ∧ ¬ mayCharge s q)
    ∨ (q.state = .full ∧ (¬ mayCharge s q ∨ ∀ l, q.level = some l → q.active.resume < l))

/-- The end of the cycle changes nothing before the next cycle starts: the cycle was silent, or its reply is one that
brings nothing, NO_REPLY or an invalid reply in SEARCHING and an invalid reply where allowance leaves the state (R127,
R128, R131, R137). -/
def endsQuietly (s : State) : Prop :=
  s.pcc.probed = false
    ∨ (s.pcc.state = .searching ∧ (s.pcc.capture.rise = none ∨ s.pcc.capture.invalid))
    ∨ (s.pcc.capture.invalid ∧ chargeRests s s.pcc)

/-! ## Runs -/

/-- Commands one after another, from a state. -/
def execAll : List Instr → State → Host.Outcome State Fault Refusal
  | [], s => .next s
  | c :: rest, s => match exec c s with
    | .next t => execAll rest t
    | .fault f => .fault f
    | .refused r => .refused r

/-! ## Changes of dock state -/

/-- The outcome of a change of dock state that leaves the DLC as `d` says (R101): the DLC but for the buffer,
the notice mark and DHOLD; the base vector's marks and the face, which only an attached base keeps (R5, R14);
the forced SLATE (R36) and the forced UNKNOWN, which one immediate commit may follow (R37). -/
structure Transition (s : State) (d : Dlc) (t : State) : Prop where
  time : t.time = s.time
  params : t.params = s.params
  link : t.hlc.link = s.hlc.link
  choices : t.choices = s.choices
  pending : t.pending = s.pending
  dock : t.dlc.rest = d.rest
  senses : t.pse.senses = (if d.state.inUse then s.pse
    else { s.pse with baseValid := false, pairTimer := none, face := .none }).senses
  slate : d.state.forcesSlate = true → s.dlc.state.forcesSlate = false →
    t.pse.settle = none ∧ t.pse.record =
      { posture := .slate, previous := s.pse.record.posture, sequence := s.pse.record.sequence + 1,
        stamp := s.time, hf := s.pse.hf, hinge := s.pse.hinge, cause := .dockForced, row := none }
  kept : d.state.forcesSlate = true → s.dlc.state.forcesSlate = true → t.pse.record = s.pse.record
  unknown : d.state = .attached → s.dlc.state ≠ .attached →
    t.pse.record.posture = .unknown ∧ t.pse.record.sequence = s.pse.record.sequence + 1
      ∧ t.pse.record.cause = .dockForced
    ∨ t.pse.record.previous = .unknown ∧ t.pse.record.sequence = s.pse.record.sequence + 2
      ∧ t.pse.record.cause = .immediate

/-- A node 0 restart takes a base out of an attached state: IDENTIFYING with its entry actions, the timer of the state
left cancelled and out of RELEASING the latch drive off, the quiesce mark and the waiting slots gone (R96, R101, R103,
R112, R116). -/
def Dlc.toIdentifying (p : Params) (d : Dlc) : Dlc :=
  { d with
    state := .identifying, queries := 1, identifyMark := true, helloTimer := some p.helloTimeout.toNat
    quiesceMark := none, slots := d.slots.filter (fun y => y.sending)
    grantTimer := if d.state = .detachRequested then none else d.grantTimer
    quiesceTimer := if d.state = .quiescing then none else d.quiesceTimer
    window := if d.state = .releasing then none else d.window
    latchPhase := if d.state = .releasing then .off else d.latchPhase
    latchDrv := if d.state = .releasing then false else d.latchDrv
    latchDelay := if d.state = .releasing then none else d.latchDelay
    latchPeriod := if d.state = .releasing then none else d.latchPeriod
    latchOn := if d.state = .releasing then none else d.latchOn }

/-- A node 0 restart re-enables the route entry: it is valid, DISABLED and of a dock source (R52). -/
def dormant (s : State) (i : Fin 64) : Bool :=
  s.tcl.routes[i].valid && s.tcl.routes[i].state = .disabled && decide (s.tcl.routes[i].source.toNat ≤ 7)

/-- The transitions of the dock state machine (R99, R103 to R116), from and to. -/
def dockMoves : List (DockState × DockState) :=
  [ (.absent, .sensed), (.sensed, .absent), (.sensed, .identifying),
    (.identifying, .attached), (.identifying, .faulted), (.identifying, .absent),
    (.attached, .detachRequested), (.attached, .identifying), (.attached, .faulted), (.attached, .absent),
    (.detachRequested, .quiescing), (.detachRequested, .attached), (.detachRequested, .identifying),
    (.detachRequested, .faulted), (.detachRequested, .absent),
    (.quiescing, .releasing), (.quiescing, .identifying), (.quiescing, .absent),
    (.releasing, .attached), (.releasing, .identifying), (.releasing, .absent),
    (.faulted, .identifying), (.faulted, .absent) ]

/-! ## Conditions that every step keeps -/

/-- The Report Queue and the sleep state: the bounds of the lanes, the stage and the gap counts (R166, R168,
R170, R171); suppression in STANDBY and WAKING (R172); the flush timer running exactly while the stage holds
records outside suppression (R168, R169, R172); the gather and its list only in WAKING, no kind twice (R154,
R155); the idle timer stopped in STANDBY and WAKING (R143); an advised reason exactly in SLEEP_ADVISED. -/
abbrev queueInv (s : State) : Prop :=
  s.rqu.urgent.length ≤ 32 ∧ forwardedCount s.rqu.urgent ≤ 24 ∧ s.rqu.bulk.length ≤ 96
  ∧ s.rqu.stage.length ≤ 8 ∧ s.rqu.urgentGap ≤ 255 ∧ s.rqu.bulkGap ≤ 255
  ∧ s.rqu.suppressed = s.sdu.sleep.asleep
  ∧ s.rqu.flushTimer.isSome = (!s.rqu.stage.isEmpty && !s.rqu.suppressed)
  ∧ s.sdu.wakeList.Nodup ∧ (s.sdu.wakeList ≠ [] → s.sdu.gatherTimer.isSome = true)
  ∧ (s.sdu.gatherTimer.isSome = true → s.sdu.sleep = .waking)
  ∧ (s.sdu.sleep.asleep = true →
      s.sdu.dimTimer = none ∧ s.sdu.sleepTimer = none ∧ s.sdu.sleepMark = false)
  ∧ (s.sdu.advised ≠ .none ↔ s.sdu.sleep = .sleepAdvised)

/-- The dock state: each of its timers runs exactly in its state and the latch drive only in RELEASING (R101,
R112); SLATE exactly in the four states that force it, with no settle there (R36); the base vector valid only
with an attached base (R5); the error window only where it counts (R84); ABSENT with the link cleared (R97);
the bounds of the buffer and of the transmit slots (R85, R87). -/
abbrev dockInv (s : State) : Prop :=
  (s.dlc.helloTimer.isSome = true ↔ s.dlc.state = .identifying)
  ∧ (s.dlc.grantTimer.isSome = true ↔ s.dlc.state = .detachRequested)
  ∧ (s.dlc.quiesceTimer.isSome = true ↔ s.dlc.state = .quiescing)
  ∧ (s.dlc.window.isSome = true ↔ s.dlc.state = .releasing)
  ∧ (s.dlc.state ≠ .releasing → s.dlc.latchPhase = .off ∧ s.dlc.latchDrv = false ∧ s.dlc.latchDelay = none
      ∧ s.dlc.latchPeriod = none ∧ s.dlc.latchOn = none)
  ∧ s.dlc.latchCount ≤ 500
  ∧ (s.dlc.state.forcesSlate = true ↔ s.pse.record.posture = .slate)
  ∧ (s.dlc.state.forcesSlate = true → s.pse.settle = none)
  ∧ (s.pse.baseValid = true → s.dlc.state.inUse = true)
  ∧ (s.dlc.state.countsErrors = false → s.dlc.errors = 0 ∧ s.dlc.errTimer = none)
  ∧ (s.dlc.state = .absent → s.dlc.slots = [] ∧ s.dlc.sending = none ∧ s.dlc.rx = .hunt
      ∧ s.dlc.identity = Identity.absent)
  ∧ (s.dlc.noticeMark = true → s.dlc.state.inUse = true)
  ∧ (s.dlc.identifyMark = true → s.dlc.state = .identifying)
  ∧ s.dlc.buffer.length ≤ 4 ∧ s.dlc.slots.length ≤ 4

/-- The Pen Charge Controller: in CHARGING a session is open, the progress window runs and charging is
allowed, so that a burst runs only where the posture is in the active mask (R126, R129, R132, R134); elsewhere
neither burst nor progress window runs; a session is open only in CHARGING and PAUSED; a cycle runs exactly
outside OFF (R124); the millisecond that reaches the limit is due only in CHARGING (R135); the bounds of level,
millisecond part and silent counts. -/
abbrev penInv (s : State) : Prop :=
  (s.pcc.state = .charging →
    s.pcc.sessionOpen = true ∧ s.pcc.progressTimer.isSome = true ∧ allowed s = true)
  ∧ (s.pcc.state ≠ .charging → s.pcc.burstTimer = none ∧ s.pcc.progressTimer = none)
  ∧ (s.pcc.sessionOpen = true → s.pcc.state = .charging ∨ s.pcc.state = .paused)
  ∧ (s.pcc.cycleTimer.isSome = true ↔ s.pcc.state ≠ .off)
  ∧ (s.pcc.limitDue = true → s.pcc.state = .charging)
  ∧ (∀ l, s.pcc.level = some l → l ≤ 100) ∧ s.pcc.millis ≤ 999 ∧ s.pcc.silentCycles ≤ 7
  ∧ s.pcc.silentProbes ≤ 15

/-- The Traffic Classifier: no two valid entries share a key (R43); every stored effective action is the one
that R54 gives at that moment (R55); the pool holds at most 32 slots, none twice, and only for entries that
forward (R65); an overflow mark stands only on an entry that forwards (R71); a stalled frame is the head of
the Dock Receive Buffer and its entry forwards (R60 to R62); the bounds of hits and errors (R44). -/
abbrev trafficInv (s : State) : Prop :=
  (∀ i j : Fin 64, s.tcl.routes[i].valid = true → s.tcl.routes[j].valid = true →
    s.tcl.routes[i].source = s.tcl.routes[j].source → s.tcl.routes[i].cls = s.tcl.routes[j].cls → i = j)
  ∧ (∀ i : Fin 64, s.tcl.routes[i].effective = effectiveAction s s.tcl.routes[i])
  ∧ s.tcl.pool.length ≤ 32 ∧ s.tcl.pool.Nodup
  ∧ (∀ x ∈ s.tcl.pool, s.tcl.routes[x.entry].effective = .forward)
  ∧ (∀ i : Fin 64, s.tcl.routes[i].overflow = true → s.tcl.routes[i].effective = .forward)
  ∧ (∀ st, s.tcl.stall = some st → s.dlc.buffer ≠ [] ∧ s.tcl.routes[st.entry].effective = .forward)
  ∧ (∀ i : Fin 64, s.tcl.routes[i].hits ≤ 65535 ∧ s.tcl.routes[i].errors ≤ 15)

end Sys2Proof.Machine
end

