-- ==== Sys2Proof/WellFormed.lean ====
section
/-! DEFINITION. Which commands the wires can carry. A command outside this check cannot arise at the
part; its meaning is total all the same and says at its definition what it does then. -/

namespace Sys2Proof

/-- The operands lie within what the part's links can carry: a DOCK_SEND's frame bytes fit a request
payload of 64 bytes beside its three header bytes (R179, R193), a character's start bit is low (R79), an
arriving dock frame holds at most 32 payload bytes (R81), and an edge of PEN_RX named within the listen
interval lies within its 5 ms (R127).
Every other operand is held to its width by its type. -/
def Instr.wellFormed : Instr → Bool
  | .dockSend _ _ _ _ payload => payload.length + 3 ≤ Config.requestPayload
  | .dockCharacter data _ _ => !data.getLsbD 0
  | .dockFrameArrival _ _ _ payload => payload.length ≤ Config.framePayload
  | .penRxEdge _ atUs => atUs < Config.listenUs
  | _ => true

end Sys2Proof
end

