-- ==== Sys2Proof/Certificates/Slice0/Obligations.lean ====
section
/-! DEFINITION. The statements for the provers. Every statement about a command holds in every state that
meets its hypotheses, reached or not; `drivePins` puts the two derived output pins at the level of R86 and
R176 and changes nothing else (log entry 16). An expiry is stated while its timer runs, whatever is left of it
(log entry 2). Tests/Slice0.lean holds a witness for each statement with hypotheses. -/

open Sys2Proof Sys2Proof.Machine

/-! ## The part as a machine -/

/-- A step with a command at the front of the queue executes that command with the queue's rest. The
queue is the model's form of the order in which events reach the part (log entry 19). -/
def Obligations.StepRunsFrontCommand : Prop :=
  ∀ (c : Instr) (rest : List Instr) (s : State),
    step { s with pending := c :: rest } = exec c { s with pending := rest }

/-- On an empty queue the event that is due happens, and with none due one millisecond of part time passes:
part time rises by 1, modulo 65536, and no record is placed (the model's choice, log entry 1). -/
def Obligations.EmptyQueueStep : Prop :=
  ∀ s : State, s.pending = [] →
    (∀ c, due s = some c → step s = exec c s) ∧
    (due s = none → ∃ t, step s = .next t ∧ t.time = s.time + 1 ∧ t.params = s.params ∧ t.pending = []
      ∧ t.rqu.urgent = s.rqu.urgent ∧ t.rqu.bulk = s.rqu.bulk ∧ t.rqu.stage = s.rqu.stage)

/-- Every command leaves a next state, whatever the state and the operands. It changes neither the queue of
the commands that wait nor the choice of the orders that the spec leaves open; part time stands still within
it, or is 0 after a reset; the parameter store changes only by CONFIG_SET, by a transaction that may carry one,
and by a cold reset (R185, R188). -/
def Obligations.EveryCommandAnswers : Prop :=
  ∀ (c : Instr) (s : State), ∃ t, exec c s = .next t ∧ t.pending = s.pending ∧ t.choices = s.choices
    ∧ (t.time = s.time ∨ t.time = 0)
    ∧ ((∀ tag number value, c ≠ .configSet tag number value) →
      (∀ waited mosi, c ≠ .hostTransaction waited mosi) → c ≠ .coldReset → t.params = s.params)

/-- After every command ALERT_N stands as the table of R176 says for the sleep state and the notify condition
(R175), and DHOLD is asserted exactly while the Dock Receive Buffer holds 3 or more frames or a frame is
stalled (R86). -/
def Obligations.PinsFollowTheirRules : Prop :=
  ∀ (c : Instr) (s t : State), exec c s = .next t →
    t.hlc.alert = (match t.sdu.sleep with
      | .standby => false
      | .waking => true
      | .active | .drowsy | .sleepAdvised =>
        decide (t.rqu.urgent ≠ [] ∨ 2 ^ t.params.notifyShift.toNat ≤ t.rqu.bulk.length)) ∧
    t.dlc.dhold = decide (3 ≤ t.dlc.buffer.length ∨ t.tcl.stall.isSome = true)

/-- Records leave the lanes from the front by DRAIN alone: any command but DRAIN, a transaction that may carry
one, and the resets leaves both lanes with their records in place and adds only behind them (R166, R170). -/
def Obligations.LanesLoseRecordsOnlyByDrain : Prop :=
  ∀ (c : Instr) (s t : State), exec c s = .next t →
    (∀ tag count lane, c ≠ .drain tag count lane) → (∀ waited mosi, c ≠ .hostTransaction waited mosi) →
    (∀ tag, c ≠ .reset tag) → c ≠ .coldReset → c ≠ .warmResetPin →
    s.rqu.urgent <+: t.rqu.urgent ∧ s.rqu.bulk <+: t.rqu.bulk

/-- Under the freeze lock no command but a cold reset clears the lock, changes a row of the Posture Table or a
host field of the Route Table, or stores CAL_OFFSET, POSTURE_HYST, DEFAULT_ROUTE, FAULT_MASK or
FAULT_SEVERITY (R187). -/
def Obligations.FrozenConfigurationHolds : Prop :=
  ∀ (c : Instr) (s t : State), s.hlc.frozen = true → c ≠ .coldReset → exec c s = .next t →
    t.hlc.frozen = true ∧ t.pse.rows = s.pse.rows
    ∧ (∀ i : Fin 64, t.tcl.routes[i].hostFields = s.tcl.routes[i].hostFields)
    ∧ t.params.calOffset = s.params.calOffset ∧ t.params.postureHyst = s.params.postureHyst
    ∧ t.params.defaultRoute = s.params.defaultRoute ∧ t.params.faultMask = s.params.faultMask
    ∧ t.params.faultSeverity = s.params.faultSeverity

/-- An expiry, completion or event whose timer is stopped or whose condition does not hold changes nothing but
the level of the derived pins (the model's choice, log entries 2 and 17). So does a lid sample or a lid read failure
with no read in progress, as after the warm reset that abandoned it (R1; log entry 7), and a character whose start
bit is high (R79; log entry 25). -/
def Obligations.StoppedTimersDoNothing : Prop :=
  ∀ (s : State),
    let idle := fun (c : Instr) => exec c s = .next (drivePins s)
    (s.pse.readBusy = none → idle .lidReadFailure ∧
      ∀ x0 x1 y0 y1 z0 z1, idle (.lidSampleArrival (x0, x1) (y0, y1) (z0, z1))) ∧
    (∀ (line : BitVec 9) (mark stop : Bool), line.getLsbD 0 = true → idle (.dockCharacter line mark stop)) ∧
    (s.pse.readTimer = none → idle .lidReadTimerExpiry) ∧ (s.pse.rotTimer = none → idle .rotSettleExpiry) ∧
    (s.pse.staleTimer = none → idle .staleTimerExpiry) ∧ (s.pse.settle = none → idle .settleTimerExpiry) ∧
    (s.tcl.stall = none → idle .stallTimerExpiry) ∧
    (s.tcl.stall.isSome = true ∨ s.dlc.buffer = [] → idle .dockFrameTaken) ∧
    (s.dlc.errTimer = none → idle .errorWindowExpiry) ∧
    (s.dlc.sending.isSome = true ∨ s.dlc.state = .absent → idle .transmissionStart) ∧
    (s.dlc.sending = none → idle .transmissionComplete) ∧
    (s.dlc.state ≠ .sensed ∨ s.dlc.senseTimer = none ∨ s.dlc.sense = true → idle .senseDebounceComplete) ∧
    (s.dlc.senseTimer = none ∨ s.dlc.sense = false → idle .senseLoss) ∧
    (s.dlc.helloTimer = none → idle .helloTimerExpiry) ∧ (s.dlc.grantTimer = none → idle .grantTimerExpiry) ∧
    (s.dlc.quiesceTimer = none → idle .quiesceTimerExpiry) ∧
    (s.dlc.window = none → idle .releaseWindowExpiry) ∧ (s.dlc.latchDelay = none → idle .latchDelayExpiry) ∧
    (s.dlc.latchPeriod = none → idle .latchPeriodExpiry) ∧ (s.dlc.latchOn = none → idle .latchOnExpiry) ∧
    (s.pcc.cycleTimer = none → idle .penCycleEnd) ∧ (s.pcc.burstTimer = none → idle .burstTimerExpiry) ∧
    (s.pcc.phase ≠ .lead ∨ s.pcc.probed = false → idle .probeStart) ∧
    (s.pcc.phase ≠ .probe → idle .probeEnd) ∧
    (s.pcc.phase ≠ .listen ∨ s.pcc.capture.rise = none ∨ s.pcc.capture.count.isSome = true →
      idle .captureOverflow) ∧
    (s.pcc.progressTimer = none → idle .progressWindowExpiry) ∧
    (s.pcc.state ≠ .charging → idle .sessionLimit) ∧
    (s.sdu.dimTimer = none → idle .dimTimerExpiry) ∧ (s.sdu.sleepTimer = none → idle .sleepTimerExpiry) ∧
    (s.sdu.gatherTimer = none → idle .gatherTimerExpiry) ∧
    (∀ i : Fin 8, (∀ h, s.sdu.holds[i] = some h → h.timer = none) → idle (.holdExpiry i)) ∧
    (s.rqu.flushTimer = none → idle .flushTimerExpiry)

/-! ## Host Link -/

/-- A whole transaction that carries a request's frame, once the 20 µs interval has passed, does what the request's
own command does to the state in which the pending response has been shifted out and cleared. It holds for all
22 requests with every value of every operand that a frame of at most 64 payload bytes carries. -/
def Obligations.RequestFrameRunsItsRequest : Prop :=
  ∀ (s : State) (i : Instr) (waited : Nat) (type tag : Byte) (payload : List Byte),
    requestBytes i = some (type, tag, payload) → i.wellFormed = true → s.hlc.transfer = .idle →
    s.hlc.interval ≤ waited →
    ∃ t, exec (.hostTransaction waited ⟨bitsOfBytes (requestFrame type tag payload), true⟩) s = .next t
      ∧ exec i { s with hlc := { s.hlc with
          interval := 20
          miso := shiftOut ((s.hlc.response.map Response.bytes).getD emptyFrame)
            (requestFrame type tag payload).length
          response := none } } = .next t

/-- A transaction without a request. Within the interval it shifts out NOT_READY, discards its bytes, keeps
the pending response and starts the interval anew; after it, a transaction whose first byte is 0x00 shifts out
the pending response, or EMPTY, and clears it; one that clocks no whole byte lets the interval run on and changes
nothing else. A transaction that comes in two parts does what it does whole, and of one that a reset abandoned
nothing is taken until its CS_N has risen (R178, R181, R188; log entry 24). -/
def Obligations.TransactionWithoutRequest : Prop :=
  ∀ (s : State) (waited : Nat) (b : Byte) (rest : List Byte),
    (s.hlc.transfer = .idle →
      (waited < s.hlc.interval → exec (.hostTransaction waited ⟨bitsOfBytes (b :: rest), true⟩) s
        = .next (drivePins { s with hlc := { s.hlc with
            interval := 20, miso := shiftOut notReadyFrame (rest.length + 1) } })) ∧
      (s.hlc.interval ≤ waited → b = 0 → exec (.hostTransaction waited ⟨bitsOfBytes (b :: rest), true⟩) s
        = .next (drivePins { s with hlc := { s.hlc with
            interval := 20
            miso := shiftOut ((s.hlc.response.map Response.bytes).getD emptyFrame) (rest.length + 1)
            response := none } })) ∧
      (∀ bits : List Bool, bits.length < 8 → exec (.hostTransaction waited ⟨bits, true⟩) s
        = .next (drivePins { s with hlc := { s.hlc with interval := s.hlc.interval - waited, miso := [] } })) ∧
      (∀ (later : Nat) (bits more : List Bool), 8 ≤ (bits ++ more).length →
        ∃ t u, exec (.hostTransaction waited ⟨bits, false⟩) s = .next t ∧ t.hlc.transfer ≠ .idle
          ∧ exec (.hostTransaction later ⟨more, true⟩) t = .next u
          ∧ exec (.hostTransaction waited ⟨bits ++ more, true⟩) s = .next u)) ∧
    (s.hlc.transfer = .abandoned → ∀ (bits : List Bool) (ends : Bool),
      exec (.hostTransaction waited ⟨bits, ends⟩) s = .next (drivePins { s with hlc := { s.hlc with
        interval := s.hlc.interval - waited, transfer := if ends then .idle else .abandoned } }))

/-- The refusals before dispatch. A request cut short, longer than 64 bytes or with a wrong CRC is answered
BAD_FRAME and raises HOST_FRAME; a well-framed request of a type that no request has is answered BAD_TYPE, and
one of a fixed-length type whose payload has another length BAD_ARG. None has any other effect, but for what
the raise of HOST_FRAME brings (R179, R182, R193). -/
def Obligations.RefusedBeforeDispatch : Prop :=
  ∀ (s : State) (waited : Nat) (type tag : Byte) (payload : List Byte),
    type ≠ 0 → s.hlc.transfer = .idle → s.hlc.interval ≤ waited →
    (∀ (bad : List Byte) (t' : Byte),
      (bad.length < 3 ∧ t' = bad.headD 0 ∨ ∃ lo hi body, bad = [t', lo, hi] ++ body
        ∧ (64 < (halfOf lo hi).toNat ∨ body.length < (halfOf lo hi).toNat + 2
          ∨ crc16 ([type, t', lo, hi] ++ body.take (halfOf lo hi).toNat) ≠ halfOf
            ((body.drop (halfOf lo hi).toNat).headD 0) ((body.drop ((halfOf lo hi).toNat + 1)).headD 0))) →
      ∃ t, exec (.hostTransaction waited ⟨bitsOfBytes (type :: bad), true⟩) s = .next t
        ∧ t.hlc.link = (some ⟨responseType type, t', .badFrame, []⟩, 20,
            shiftOut ((s.hlc.response.map Response.bytes).getD emptyFrame) (bad.length + 1), s.hlc.frozen, .idle)
        ∧ raised .hostFrame s t ∧ t.pse = s.pse ∧ t.params = s.params ∧ t.time = s.time
        ∧ t.dlc.rest = s.dlc.rest) ∧
    (payload.length ≤ 64 →
      (type.toNat ∉ [1, 2, 3, 4, 5, 6, 7, 16, 17, 18, 24, 25, 26, 32, 33, 34, 40, 41, 48, 49, 50, 56] →
        exec (.hostTransaction waited ⟨bitsOfBytes (requestFrame type tag payload), true⟩) s
          = .next (answered (responseType type) tag .badType [] { s with hlc := { s.hlc with
              interval := 20
              miso := shiftOut ((s.hlc.response.map Response.bytes).getD emptyFrame) (payload.length + 6) } })) ∧
      (∀ n, (type.toNat, n) ∈ [(1, 0), (2, 0), (3, 3), (4, 1), (5, 0), (6, 0), (7, 1), (16, 9), (17, 1), (18, 1),
          (24, 13), (25, 1), (26, 1), (33, 1), (34, 0), (40, 13), (41, 1), (48, 1), (49, 5), (50, 2), (56, 2)] →
        payload.length ≠ n →
        exec (.hostTransaction waited ⟨bitsOfBytes (requestFrame type tag payload), true⟩) s
          = .next (answered (responseType type) tag .badArg [] { s with hlc := { s.hlc with
              interval := 20
              miso := shiftOut ((s.hlc.response.map Response.bytes).getD emptyFrame) (payload.length + 6) } })))

/-- IDENTIFY is answered OK with the part code 0x0420, the revision 1, the capacities 64, 12, 32, 32 of which
24 forwarded, 96, 8, 8, 4 and 4, and the sizes 64 and 512; nothing but the answer changes (R183). -/
def Obligations.IdentifyAnswers : Prop :=
  ∀ (s : State) (tag : Byte), exec (.identify tag) s
    = .next (answered 0x81 tag .ok
        [0x20, 0x04, 1, 64, 12, 32, 32, 24, 96, 8, 8, 4, 4, 64, 0x00, 0x02] s)

/-- STATUS is answered OK with 113 bytes and changes nothing else. They are the Posture Record, hinge,
orientation and base, the dock state with the identity and seven node pairs, zeros behind the last, the Pen Record,
sleep state, advice and the eight Hold Slots with their remaining seconds rounded up, lane counts and gaps, notify
condition, freeze lock, and status and count of the eight fault kinds with the first-fault pointer, each at its
offset of R196. -/
def Obligations.StatusReports : Prop :=
  ∀ (s : State) (tag : Byte),
    exec (.status tag) s = .next (answered 0x82 tag .ok (statusPayload s) s) ∧
    let p := statusPayload s
    let r := s.pse.record
    p.length = 113
    ∧ p.take 11 = [r.posture.code, r.previous.code] ++ halfBytes r.sequence ++ halfBytes r.stamp ++ natBytes r.hf
        ++ [r.hinge.code, r.cause.code, match r.row with | some i => natByte i.val | none => 0xFF]
    ∧ (p.drop 11).take 13 = natBytes s.pse.hf ++ [s.pse.hinge.code] ++ halfBytes s.pse.hingeStamp
        ++ [s.pse.orient.code, boolByte s.pse.flat, s.pse.candidate.code, s.pse.candidate.mark,
          boolByte s.pse.lock, s.pse.face.code] ++ halfBytes s.pse.baseStamp
    ∧ (p.drop 24).take 7 = [s.dlc.state.code, boolByte s.dlc.identity.present] ++ halfBytes s.dlc.identity.kind
        ++ [s.dlc.identity.revision, s.dlc.identity.flags, natByte s.dlc.identity.nodes.length]
    ∧ (∀ j : Fin 7, (p.drop (31 + 2 * j)).take 2 = match s.dlc.identity.nodes[j.val]? with
        | some n => [n.node, n.kind]
        | none => [0, 0])
    ∧ (p.drop 45).take 9 = [s.pcc.state.code, optByte s.pcc.level] ++ natBytes s.pcc.seconds
        ++ halfBytes s.pcc.sessions ++ [s.pcc.lastEnd.code, boolByte s.pcc.collision, boolByte s.pcc.staged.isSome]
    ∧ (p.drop 54).take 2 = [s.sdu.sleep.code, s.sdu.advised.code]
    ∧ (∀ i : Fin 8, (p.drop (56 + 4 * i)).take 4 = match s.sdu.holds[i] with
        | some h => [h.cls.code, h.owner] ++ natBytes (match h.timer with
          | some ms => (ms + 999) / 1000
          | none => 0)
        | none => [0xFF, 0, 0, 0])
    ∧ (p.drop 88).take 8 = [natByte s.rqu.urgent.length, natByte (forwardedCount s.rqu.urgent),
        natByte s.rqu.bulk.length, natByte s.rqu.stage.length, natByte s.rqu.urgentGap, natByte s.rqu.bulkGap,
        boolByte (notify s), boolByte s.hlc.frozen]
    ∧ (∀ k : Fin 8, (p.drop (96 + 2 * k)).take 2
        = [boolByte s.hlc.faults[k].status, natByte s.hlc.faults[k].count])
    ∧ p.drop 112 = [pointerByte s.hlc.firstFault]

/-- CONFIG_SET of a numbered parameter that its checks pass. The value is stored brought into range: the nearer
end for the numbers, the largest allowed rate for LID_RATE, the signed range for CAL_OFFSET, WAKE for a
severity code 3; the answer is OK for a value stored as sent and OK_CLAMPED otherwise; no other parameter
changes, and CONFIG_GET then answers the stored value. Nothing else changes, except that a mask stored in
ORIENT_POSTURES that holds the committed posture starts a blocked orientation candidate's settle anew while the
orientation lock is off (R19, R185, R186; a ROT_SETTLE of 0 then stands due, log entry 20). -/
def Obligations.ConfigSetStores : Prop :=
  ∀ (s : State) (tag tag' number : Byte) (value : Half),
    1 ≤ number.toNat → number.toNat ≤ 31 →
    (s.hlc.frozen = true → number.toNat ∉ [6, 12, 13, 30, 31]) →
    (number.toNat ∈ [13, 19] → value.toNat ≤ 1) →
    ∃ (w : Half) (t : State), exec (.configSet tag number value) s = .next t
      ∧ t.hlc.response = some ⟨0x83, tag, if w = value then .ok else .okClamped, []⟩
      ∧ t.params.get number.toNat = some w
      ∧ (∀ n, n ≠ number.toNat → t.params.get n = s.params.get n)
      ∧ (number.toNat = 1 → w.toNat = if value.toNat < 50 then 25 else if value.toNat < 100 then 50
          else if value.toNat < 200 then 100 else 200)
      ∧ (number.toNat = 6 → w.toInt = max (-300) (min 300 value.toInt))
      ∧ (number.toNat = 31 → ∀ k : Fin 8, w.extractLsb' (2 * k) 2
          = if value.extractLsb' (2 * k) 2 = 3 then 2 else value.extractLsb' (2 * k) 2)
      ∧ (∀ lo hi, paramRange number.toNat = some (lo, hi) → w.toNat = max lo (min hi value.toNat))
      ∧ (number.toNat ≠ 11 ∨ (∀ o, s.pse.candidate ≠ .blocked o) ∨ s.pse.lock = true
            ∨ maskHas (w.setWidth 8) s.posture = false →
          t = answered 0x83 tag (if w = value then .ok else .okClamped) []
            { s with params := s.params.set number.toNat w })
      ∧ (∀ o, number.toNat = 11 → s.pse.candidate = .blocked o → s.pse.lock = false →
          maskHas (w.setWidth 8) s.posture = true →
          t = answered 0x83 tag (if w = value then .ok else .okClamped) [] { s with
            params := s.params.set number.toNat w
            pse := { s.pse with candidate := .settling o, rotTimer := some s.params.rotSettle.toNat } })
      ∧ exec (.configGet tag' number) t = .next (answered 0x84 tag' .ok (halfBytes w) t)

/-- CONFIG_GET: a number outside 1..31 is refused with BAD_ARG, and any other is answered OK with the stored
value, low byte first, frozen or not; nothing but the answer changes (R186). -/
def Obligations.ConfigGetAnswers : Prop :=
  ∀ (s : State) (tag number : Byte),
    exec (.configGet tag number) s = .next (match s.params.get number.toNat with
      | some v => answered 0x84 tag .ok (halfBytes v) s
      | none => answered 0x84 tag .badArg [] s)
    ∧ ((s.params.get number.toNat).isSome = true ↔ 1 ≤ number.toNat ∧ number.toNat ≤ 31)

/-- FREEZE sets the lock and FAULT_CLEAR clears the kinds its mask names, with the pointer re-armed if it
names one of them; both are answered OK and change nothing else (R187, R191). -/
def Obligations.FreezeAndFaultClear : Prop :=
  ∀ (s : State) (tag mask : Byte),
    exec (.freeze tag) s = .next (answered 0x85 tag .ok [] { s with hlc := { s.hlc with frozen := true } }) ∧
    ∃ (f : Vector FaultEntry 8) (p : Option FaultKind),
      exec (.faultClear tag mask) s = .next (answered 0x87 tag .ok []
        { s with hlc := { s.hlc with faults := f, firstFault := p } })
      ∧ (∀ k : Fin 8, f[k] = if mask.getLsbD k then { status := false, count := 0 } else s.hlc.faults[k])
      ∧ (∀ k : FaultKind, p = some k ↔ s.hlc.firstFault = some k ∧ mask.getLsbD k.index = false)

/-- Every refusal of a dispatched request, by its code and its condition, leaves the state as it is but for the
answer; a PEN_CONFIG refused with COLLISION sets the collision mark as well. Where one request has several checks
each condition takes in that the earlier checks pass (R18, R24, R25, R45 to R47, R89, R107, R109, R110, R120, R123,
R149, R159, R160, R173, R185 to R187). -/
def Obligations.RequestsRefuse : Prop :=
  ∀ (s : State) (tag : Byte),
    let refuses := fun (c : Instr) (rtype : Byte) (code : Status) => exec c s = .next (answered rtype tag code [] s)
    (∀ (number : Byte) (value : Half),
      (number.toNat = 0 ∨ 31 < number.toNat → refuses (.configSet tag number value) 0x83 .badArg
        ∧ refuses (.configGet tag number) 0x84 .badArg) ∧
      (s.hlc.frozen = true → number.toNat ∈ [6, 12, 13, 30, 31] →
        refuses (.configSet tag number value) 0x83 .frozen) ∧
      (number.toNat = 19 ∨ (number.toNat = 13 ∧ s.hlc.frozen = false) → 1 < value.toNat →
        refuses (.configSet tag number value) 0x83 .badArg)) ∧
    (∀ (index source cls : Byte) (actions : Half) (flags wakeMask errorLimit length : Byte),
      let badFields := 15 < source.toNat ∨ (cls ≠ 0xFF ∧ (cls = 0 ∨ 15 < cls.toNat))
        ∨ (∃ k : Fin 8, actions.extractLsb' (2 * k) 2 = 3) ∨ 15 < flags.toNat ∨ 15 < errorLimit.toNat
        ∨ (length ≠ 0xFF ∧ 32 < length.toNat) ∨ (flags.getLsbD 2 = true ∧ length.toNat < 2)
      (s.hlc.frozen = true →
        refuses (.routeLoad tag index source cls actions flags wakeMask errorLimit length) 0x90 .frozen
        ∧ refuses (.routeClear tag index) 0x91 .frozen) ∧
      (s.hlc.frozen = false → 64 ≤ index.toNat ∨ badFields →
        refuses (.routeLoad tag index source cls actions flags wakeMask errorLimit length) 0x90 .badArg) ∧
      (s.hlc.frozen = false → index.toNat < 64 → ¬ badFields →
        (∃ j : Fin 64, j.val ≠ index.toNat ∧ s.tcl.routes[j].valid = true
          ∧ s.tcl.routes[j].source.toNat = source.toNat ∧ s.tcl.routes[j].cls.code = cls) →
        refuses (.routeLoad tag index source cls actions flags wakeMask errorLimit length) 0x90 .duplicate) ∧
      (64 ≤ index.toNat → refuses (.routeRead tag index) 0x92 .badArg
        ∧ (s.hlc.frozen = false → refuses (.routeClear tag index) 0x91 .badArg))) ∧
    (∀ (row valid posture angle : Byte) (low high : Half) (face lidHall foldHall : Byte) (settle : Half),
      (s.hlc.frozen = true →
        refuses (.postureLoad tag row valid posture angle low high face lidHall foldHall settle) 0x98 .frozen) ∧
      (s.hlc.frozen = false →
        12 ≤ row.toNat ∨ 1 < valid.toNat ∨ posture = 0 ∨ 6 < posture.toNat ∨ 1 < angle.toNat ∨ 3599 < low.toNat
          ∨ 3599 < high.toNat ∨ 3 < face.toNat ∨ 2 < lidHall.toNat ∨ 2 < foldHall.toNat ∨ 5000 < settle.toNat →
        refuses (.postureLoad tag row valid posture angle low high face lidHall foldHall settle) 0x98 .badArg) ∧
      (12 ≤ row.toNat → refuses (.postureRead tag row) 0x99 .badArg)) ∧
    (∀ (node cls len : Byte) (payload : List Byte),
      let fits := 1 ≤ node.toNat ∧ node.toNat ≤ 7 ∧ 1 ≤ cls.toNat ∧ cls.toNat ≤ 15 ∧ len.toNat ≤ 32
        ∧ payload.length = len.toNat
      let used := s.dlc.state = .attached ∨ s.dlc.state = .detachRequested
      (¬ fits → refuses (.dockSend tag node cls len payload) 0xA0 .badArg) ∧
      (fits → ¬ used → refuses (.dockSend tag node cls len payload) 0xA0 .wrongState) ∧
      (fits → used → 4 ≤ s.dlc.slots.length → refuses (.dockSend tag node cls len payload) 0xA0 .full)) ∧
    (∀ (arg : Byte), (1 < arg.toNat → refuses (.orientLock tag arg) 0x9A .badArg
        ∧ refuses (.detachAnswer tag arg) 0xA1 .badArg ∧ refuses (.hostState tag arg) 0xB0 .badArg) ∧
      (2 < arg.toNat → refuses (.supply tag arg) 0xA9 .badArg) ∧
      (arg.toNat ≤ 1 → s.dlc.state ≠ .detachRequested → refuses (.detachAnswer tag arg) 0xA1 .wrongState)) ∧
    (s.dlc.state ≠ .faulted → refuses (.dockRetry tag) 0xA2 .wrongState) ∧
    (∀ (enable : Byte) (period burst : Half) (taper resume keep absent progress session postures wake : Byte),
      let c := Instr.penConfig tag enable period burst taper resume keep absent progress session postures wake
      (1 < enable.toNat ∨ 1 < wake.toNat → refuses c 0xA8 .badArg) ∧
      (enable.toNat ≤ 1 → wake.toNat ≤ 1 → s.pcc.staged.isSome = true →
        exec c s = .next (answered 0xA8 tag .collision [] { s with pcc := { s.pcc with collision := true } }))) ∧
    (∀ (slot cls owner : Byte) (lifetime : Half),
      (8 ≤ slot.toNat ∨ 1 < cls.toNat ∨ owner = 0 →
        refuses (.holdClaim tag slot cls owner lifetime) 0xB1 .badArg) ∧
      (8 ≤ slot.toNat ∨ owner = 0 → refuses (.holdRelease tag slot owner) 0xB2 .badArg) ∧
      (∀ h : slot.toNat < 8, owner ≠ 0 →
        (cls.toNat ≤ 1 → s.sdu.holds[slot.toNat].isSome = true →
          refuses (.holdClaim tag slot cls owner lifetime) 0xB1 .held) ∧
        (s.sdu.holds[slot.toNat] = none → refuses (.holdRelease tag slot owner) 0xB2 .wrongState) ∧
        (∀ x, s.sdu.holds[slot.toNat] = some x → x.owner ≠ owner →
          refuses (.holdRelease tag slot owner) 0xB2 .notOwner))) ∧
    (∀ (count lane : Byte), count = 0 ∨ 16 < count.toNat ∨ 2 < lane.toNat →
      refuses (.drain tag count lane) 0xB8 .badArg)

/-! ## Resets -/

/-- COLD_RESET leaves the state after power-on, but for the model's own queue and choices; a warm reset, by RESET_N
or by RESET, keeps parameters, freeze lock, Fault Summary, Posture Table, orientation lock, active pen set and the
host fields of the routes, and takes the rest back: part time 0, one START record with its cause and an empty queue,
no lid read in progress, a transaction in progress abandoned, dock ABSENT, posture SLATE, ACTIVE, no holds, no held
item, no stall, supply BATTERY. RESET leaves its own OK pending, RESET_N no response (R1, R177, R178, R188). -/
def Obligations.ResetsReturnTheirState : Prop :=
  ∀ (s : State) (tag : Byte),
    exec .coldReset s = .next { State.reset with pending := s.pending, choices := s.choices } ∧
    ∃ t u, exec .warmResetPin s = .next t ∧ exec (.reset tag) s = .next u
      ∧ t.hlc.response = none
      ∧ u.hlc.response = some { rtype := 0x86, tag := tag, status := .ok, payload := [] }
      ∧ t.rqu.urgent = [{ Record.coldStart with payload := [1, 0] }]
      ∧ u.rqu.urgent = [{ Record.coldStart with payload := [1, 1] }]
      ∧ ∀ v, (v = t ∨ v = u) →
        v.time = 0 ∧ v.params = s.params ∧ v.hlc.frozen = s.hlc.frozen ∧ v.hlc.faults = s.hlc.faults
        ∧ v.hlc.firstFault = s.hlc.firstFault ∧ v.hlc.interval = 0 ∧ v.hlc.alert = true
        ∧ v.hlc.transfer = (if s.hlc.transfer = .idle then .idle else .abandoned)
        ∧ v.pse = { Pse.reset with
            rows := s.pse.rows
            lock := s.pse.lock
            readTimer := some (1000 / s.params.lidRate.toNat) }
        ∧ (∀ i : Fin 64, v.tcl.routes[i].hostFields = s.tcl.routes[i].hostFields
            ∧ v.tcl.routes[i].hits = 0 ∧ v.tcl.routes[i].errors = 0 ∧ v.tcl.routes[i].state = .active
            ∧ v.tcl.routes[i].overflow = false ∧ v.tcl.routes[i].effective = effectiveAction v v.tcl.routes[i])
        ∧ v.tcl.pool = [] ∧ v.tcl.stall = none ∧ v.dlc = Dlc.reset
        ∧ v.pcc.active = s.pcc.active ∧ v.pcc.supply = .battery ∧ v.pcc.staged = none ∧ v.pcc.level = none
        ∧ v.pcc.state = (if s.pcc.state = .off then .off else .searching)
        ∧ v.sdu.sleep = .active ∧ v.sdu.advised = .none ∧ v.sdu.holds = Vector.replicate 8 none
        ∧ v.sdu.wakeList = [] ∧ v.sdu.gatherTimer = none
        ∧ v.rqu.bulk = [] ∧ v.rqu.stage = [] ∧ v.rqu.urgentGap = 0 ∧ v.rqu.bulkGap = 0
        ∧ v.rqu.suppressed = false

/-! ## Posture Engine -/

/-- The sector angle lies in 0..3599, turns by 1800 with its vector, and is exact on the axes and the diagonal
(R8). Smoothing keeps Hf within 0..3599, follows H_raw exactly with SMOOTH_SHIFT 0, stays where the two are
equal, and otherwise always comes nearer to H_raw round the circle (R10). -/
def Obligations.AngleArithmetic : Prop :=
  (∀ u v : Int, sectorAngle u v < 3600 ∧
    ((u ≠ 0 ∨ v ≠ 0) → sectorAngle (-u) (-v) = (sectorAngle u v + 1800) % 3600)) ∧
  (∀ a : Int, 0 < a → sectorAngle a 0 = 0 ∧ sectorAngle 0 a = 900 ∧ sectorAngle (-a) 0 = 1800
    ∧ sectorAngle 0 (-a) = 2700 ∧ sectorAngle a a = 450 ∧ sectorAngle (-a) (-a) = 2250) ∧
  (∀ raw hf shift : Nat, raw < 3600 → hf < 3600 → shift ≤ 3 →
    smoothHinge raw hf shift < 3600 ∧ smoothHinge raw raw shift = raw ∧ smoothHinge raw hf 0 = raw
    ∧ (raw ≠ hf → circularDistance raw (smoothHinge raw hf shift) < circularDistance raw hf))

/-- The lid read timer's expiry starts a read and the timer anew with the LID_RATE then stored; the failure of the
read in progress adds 1 to the run of failures up to 10, and the one that takes it from 9 to 10 raises LID_SENSOR,
with its FAULT record where the kind is neither masked nor set and its severity is not LOG (R1, R2, R189, R190). The
pairing timer's expiry ends only the base vector's being pairable. The stale timer's expiry makes the hinge status
UNKNOWN and keeps Hf; while the dock state forces SLATE nothing else changes (R5, R12, R26). -/
def Obligations.LidReadsAndHingeTimersExpire : Prop :=
  ∀ (s : State) (n m : Nat),
    (s.pse.readTimer = some n → exec .lidReadTimerExpiry s = .next (drivePins { s with pse := { s.pse with
        readTimer := some (1000 / s.params.lidRate.toNat), readBusy := some 2 } })) ∧
    (s.pse.readBusy = some m → s.pse.failures ≤ 10 → s.pse.failures ≠ 9 →
      exec .lidReadFailure s = .next (drivePins { s with pse :=
        { s.pse with failures := min 10 (s.pse.failures + 1), readBusy := none } })) ∧
    (s.pse.readBusy = some m → s.pse.failures = 9 → ∃ t, exec .lidReadFailure s = .next t ∧ raised .lidSensor s t
      ∧ Beyond { s with pse := { s.pse with failures := 10, readBusy := none } } t
      ∧ ((s.params.masked .lidSensor = true ∨ s.hlc.faults[5].status = true) → t.rqu = s.rqu)
      ∧ (s.params.masked .lidSensor = false → s.hlc.faults[5].status = false →
          s.params.severity .lidSensor ≠ .log →
          firstPlaced (partRecord .fault [5, natByte (min 255 (s.hlc.faults[5].count + 1)),
            (s.params.severity .lidSensor).code, pointerByte t.hlc.firstFault]) s t)) ∧
    exec .pairingTimerExpiry s = .next (drivePins { s with pse := { s.pse with pairTimer := none } }) ∧
    (s.pse.staleTimer = some n →
      (∃ t, exec .staleTimerExpiry s = .next t ∧ t.pse.hinge = .unknown ∧ t.pse.hf = s.pse.hf
        ∧ BeyondCommit { s with pse := { s.pse with staleTimer := none, hinge := .unknown } } t) ∧
      (s.dlc.state ∈ [.absent, .sensed, .identifying, .faulted] →
        exec .staleTimerExpiry s = .next (drivePins { s with pse := { s.pse with
          staleTimer := none, hinge := .unknown } })))

/-- A lid sample, the six bytes of the read in progress, replaces the lid vector with its clamped axes, each low
byte first, and ends a run of failures; the orientation
step takes the flat flag from FLAT_LEVEL, ρ from the vector where it is not flat, cancels the candidate when
the lid is flat or ρ lies within the hysteresis limit, and starts the settle of a newly indicated orientation.
The base vector, the halls, the face, the lock, the table and the read timer stay (R1, R3, R15, R16). When the base
vector is valid and pairable and both in-plane magnitudes reach MIN_PLANE, Hf takes H_raw, smoothed unless the
status was UNKNOWN, the status becomes VALID, the stamp is the part time and the stale timer starts; otherwise
VALID becomes HELD and nothing else of the hinge record changes (R9 to R11). -/
def Obligations.LidSampleOrientsAndMovesHinge : Prop :=
  ∀ (s : State) (x0 x1 y0 y1 z0 z1 : Byte), s.pse.readBusy.isSome = true →
    ∃ t, exec (.lidSampleArrival (x0, x1) (y0, y1) (z0, z1)) s = .next t ∧
    let lx := max (-8000) (min 8000 (x1 ++ x0).toInt)
    let ly := max (-8000) (min 8000 (y1 ++ y0).toInt)
    let lz := max (-8000) (min 8000 (z1 ++ z0).toInt)
    let flat := decide (max lx.natAbs ly.natAbs < s.params.flatLevel.toNat)
    let rho := if flat then s.pse.rho else sectorAngle ly lx
    let raw := (((sectorAngle s.pse.base.y s.pse.base.z : Int) - (sectorAngle ly lz : Int) + 3600
      + s.params.calOffset.toInt) % 3600).toNat
    let near := circularDistance rho s.pse.orient.centre ≤ 450 + s.params.rotHyst.toNat
    t.pse = { s.pse with
        lid := ⟨lx, ly, lz⟩, failures := 0, readBusy := none, flat := flat, rho := rho,
        orient := t.pse.orient, candidate := t.pse.candidate, rotTimer := t.pse.rotTimer,
        hf := t.pse.hf, hinge := t.pse.hinge, hingeStamp := t.pse.hingeStamp, staleTimer := t.pse.staleTimer,
        record := t.pse.record, settle := t.pse.settle }
    ∧ (flat = true ∨ near →
        t.pse.orient = s.pse.orient ∧ t.pse.candidate = .none ∧ t.pse.rotTimer = none)
    ∧ (flat = false → ¬ near → s.pse.candidate.orientation ≠ some (sectorOf rho) → s.params.rotSettle ≠ 0 →
        t.pse.orient = s.pse.orient ∧ t.pse.candidate = .settling (sectorOf rho)
          ∧ t.pse.rotTimer = some s.params.rotSettle.toNat)
    ∧ t.time = s.time ∧ t.params = s.params ∧ t.hlc.link = s.hlc.link ∧ t.dlc.rest = s.dlc.rest
    ∧ (if s.pse.baseValid = true ∧ s.pse.pairTimer.isSome = true
            ∧ s.params.minPlane.toNat ≤ max ly.natAbs lz.natAbs
            ∧ s.params.minPlane.toNat ≤ max s.pse.base.y.natAbs s.pse.base.z.natAbs then
          t.pse.hf = (if s.pse.hinge = .unknown then raw else smoothHinge raw s.pse.hf s.params.smoothShift.toNat)
          ∧ t.pse.hinge = .valid ∧ t.pse.hingeStamp = s.time
          ∧ t.pse.staleTimer = some s.params.staleLimit.toNat
        else
          t.pse.hf = s.pse.hf ∧ t.pse.hinge = (if s.pse.hinge = .valid then .held else s.pse.hinge)
          ∧ t.pse.hingeStamp = s.pse.hingeStamp ∧ t.pse.staleTimer = s.pse.staleTimer)

/-- The ROT_SETTLE timer's expiry commits the candidate with an ORIENT record ROTATED when the lock is off and
the posture is in ORIENT_POSTURES, and blocks it otherwise. ORIENT_LOCK sets the lock, and on releasing it
starts a blocked candidate again where the posture is in the mask (R17, R18, R21). A timer started there with
ROT_SETTLE 0 stands at 0, and its expiry is an event of its own (the model's choice, log entry 20). -/
def Obligations.RotationSettlesAndLocks : Prop :=
  ∀ (s : State) (o : Orientation) (n : Nat) (tag : Byte),
    (s.pse.candidate = .settling o → s.pse.rotTimer = some n →
      ((s.pse.lock = false ∧ maskHas s.params.orientMask s.posture = true) →
        ∃ t, exec .rotSettleExpiry s = .next t ∧ placesLast
          (partRecord .orient ([o.code, s.pse.orient.code, boolByte s.pse.flat, 0, 0] ++ natBytes s.pse.rho))
          { s with pse := { s.pse with orient := o, candidate := .none, rotTimer := none } } t) ∧
      ((s.pse.lock = true ∨ maskHas s.params.orientMask s.posture = false) →
        exec .rotSettleExpiry s = .next (drivePins { s with pse := { s.pse with
          candidate := .blocked o, rotTimer := none } }))) ∧
    exec (.orientLock tag 1) s
      = .next (answered 0x9A tag .ok [] { s with pse := { s.pse with lock := true } }) ∧
    (s.pse.lock = true → s.pse.candidate = .blocked o → maskHas s.params.orientMask s.posture = true →
      exec (.orientLock tag 0) s = .next (answered 0x9A tag .ok [] { s with pse := { s.pse with
        lock := false, candidate := .settling o, rotTimer := some s.params.rotSettle.toNat } })) ∧
    ((s.pse.lock = false ∨ (∀ p, s.pse.candidate ≠ .blocked p) ∨ maskHas s.params.orientMask s.posture = false) →
      exec (.orientLock tag 0) s
        = .next (answered 0x9A tag .ok [] { s with pse := { s.pse with lock := false } }))

/-- A millisecond's levels of the two hall inputs, each the majority of three samples with a low pin SET. The
first after a reset is taken as it is; a level equal to the accepted one sets the run to 0; a differing one
adds 1 to it, and a run that reaches HALL_DEBOUNCE accepts the level as HALL_CHANGE does (R6). HALL_CHANGE sets
the input's level with a run of 0, leaves the other input, and counts the hit of the route entry that its frame
of source 9 matches; to the level already accepted it does nothing (R7, R48; log entry 6). -/
def Obligations.HallInputsDebounce : Prop :=
  ∀ (s : State) (l1 l2 l3 f1 f2 f3 : Bool) (l : HallLevel),
    let lid := if majority l1 l2 l3 then HallLevel.clear else .set
    let fold := if majority f1 f2 f3 then HallLevel.clear else .set
    let after := fun (h : Hall) (l : HallLevel) =>
      if h.fresh then (⟨l, 0, false⟩ : Hall) else if l = h.level then { h with run := 0 }
      else { h with run := h.run + 1 }
    let quiet := fun (h : Hall) (l : HallLevel) =>
      h.fresh = true ∨ l = h.level ∨ (h.run + 1 < s.params.hallDebounce.toNat ∧ h.run < 255)
    (quiet s.pse.lidHall lid → quiet s.pse.foldHall fold →
      exec (.hallMillisecondLevel l1 l2 l3 f1 f2 f3) s = .next (drivePins { s with pse := { s.pse with
        lidHall := after s.pse.lidHall lid, foldHall := after s.pse.foldHall fold } })) ∧
    (s.pse.lidHall.fresh = false → lid ≠ s.pse.lidHall.level →
      s.params.hallDebounce.toNat ≤ s.pse.lidHall.run + 1 → s.pse.lidHall.run < 255 →
      s.pse.foldHall.fresh = false → fold = s.pse.foldHall.level →
      ∃ t, exec (.hallMillisecondLevel l1 l2 l3 f1 f2 f3) s = .next t
        ∧ exec (.hallChange .lid lid) { s with pse := { s.pse with
            foldHall := { s.pse.foldHall with run := 0 } } } = .next t
        ∧ t.pse.lidHall = ⟨lid, 0, false⟩) ∧
    (s.pse.foldHall.fresh = false → fold ≠ s.pse.foldHall.level →
      s.params.hallDebounce.toNat ≤ s.pse.foldHall.run + 1 → s.pse.foldHall.run < 255 →
      s.pse.lidHall.fresh = false → lid = s.pse.lidHall.level →
      ∃ t, exec (.hallMillisecondLevel l1 l2 l3 f1 f2 f3) s = .next t
        ∧ exec (.hallChange .fold fold) { s with pse := { s.pse with
            lidHall := { s.pse.lidHall with run := 0 } } } = .next t
        ∧ t.pse.foldHall = ⟨fold, 0, false⟩) ∧
    (s.pse.lidHall.level ≠ l → ∃ t, exec (.hallChange .lid l) s = .next t
      ∧ BeyondCommit { s with pse := { s.pse with lidHall := ⟨l, 0, false⟩ } } t
      ∧ ∀ i, lookupRoute s.tcl.routes 9 1 = some i →
          t.tcl.routes[i].hits = min 65535 (s.tcl.routes[i].hits + 1)) ∧
    (s.pse.foldHall.level ≠ l → ∃ t, exec (.hallChange .fold l) s = .next t
      ∧ BeyondCommit { s with pse := { s.pse with foldHall := ⟨l, 0, false⟩ } } t
      ∧ ∀ i, lookupRoute s.tcl.routes 9 2 = some i →
          t.tcl.routes[i].hits = min 65535 (s.tcl.routes[i].hits + 1)) ∧
    (s.pse.lidHall.level = l → exec (.hallChange .lid l) s = .next (drivePins s)) ∧
    (s.pse.foldHall.level = l → exec (.hallChange .fold l) s = .next (drivePins s))

/-- The settle timer's expiry commits the candidate: the Posture Record with the sequence plus 1, the part time, Hf,
the hinge status, cause SETTLED and the candidate's row; its POSTURE record is the first record placed; the settle is
gone (R32 to R34). To the SDU a commit is an activity event: it restarts the idle timer in ACTIVE and resumes from
DROWSY and SLEEP_ADVISED (R35, R142). A commit to CLOSED with no FULL hold claimed is in these three states lid-close
advice in its place: the idle timer restarted, SLEEP_ADVISED for LID_CLOSED, also where it was advised before, and a
VERDICT SLEEP behind the POSTURE record (R146). In STANDBY and WAKING a commit from CLOSED to another posture is the
wake reason LID_OPENED, which takes STANDBY to WAKING, and every other commit has no effect on the SDU (R142, R146,
R153 to R155). There the SDU is stated for a commit that loses no record, since a lost one may hand over a wake reason
of its own (R167, R189). -/
def Obligations.SettleExpiryCommits : Prop :=
  ∀ (s : State) (c : Settle), s.pse.settle = some c →
    let old := s.pse.record.posture
    let new := c.posture.toPosture
    let record := partRecord .posture ([new.code, old.code] ++ halfBytes (s.pse.record.sequence + 1)
      ++ natBytes s.pse.hf ++ [s.pse.hinge.code, 0, natByte c.row.val])
    let fullHold := ∃ (i : Fin 8) (h : Hold), s.sdu.holds[i] = some h ∧ h.cls = .full
    let opened := old = .closed ∧ new ≠ .closed
    ∃ t, exec .settleTimerExpiry s = .next t
      ∧ t.pse.record = {
          posture := new, previous := old,
          sequence := s.pse.record.sequence + 1, stamp := s.time, hf := s.pse.hf, hinge := s.pse.hinge,
          cause := .settled, row := some c.row }
      ∧ t.pse.settle = none ∧ BeyondCommit s t
      ∧ firstPlaced record s t
      ∧ (s.sdu.sleep.asleep = false → new = .closed → ¬ fullHold →
          t.sdu = { s.sdu.restarted s.params with sleep := .sleepAdvised, advised := .lidClosed }
          ∧ placesAmong [record,
              partRecord .verdict [natByte (holdCount s) <<< 4, 1, 1, 2, s.sdu.sleep.code]] s t)
      ∧ (s.sdu.sleep.asleep = false → new ≠ .closed ∨ fullHold →
          t.sdu = s.sdu.stirred s.params ∧ placesAmong (record :: resumeVerdict s) s t)
      ∧ (s.sdu.sleep.asleep = true → t.rqu.urgent.length < 32 →
          t.sdu = if opened then s.sdu.told .lidOpened s.params.wakeGather.toNat else s.sdu)
      ∧ (s.sdu.sleep.asleep = true → opened →
          t.sdu.sleep = .waking ∧ placesAmong (record :: wakeVerdict .lidOpened s) s t)

/-- An evaluation is skipped while the dock state forces SLATE; elsewhere the first matching row decides:
naming the committed posture it cancels a settle, naming the settling candidate it changes nothing, and naming
another posture with a settle time it starts that settle; with no matching row a settle is cancelled (R26, R30,
R31). The band of a row that names the committed posture is its loaded band widened by POSTURE_HYST on each side:
an angle lies in it exactly when it lies within POSTURE_HYST of an angle of the loaded band (R28, R29). -/
def Obligations.EvaluationTakesFirstRow : Prop :=
  (∀ low high h hf : Nat, low < 3600 → high < 3600 → h ≤ 200 → hf < 3600 →
    (inWideBand low high h hf = true ↔ ∃ a < 3600, inBand low high a = true ∧ circularDistance a hf ≤ h)) ∧
  ∀ (s : State),
    (s.dlc.state ∈ [.absent, .sensed, .identifying, .faulted] → evaluate s = s) ∧
    (s.dlc.state ∉ [.absent, .sensed, .identifying, .faulted] →
      (∀ i : Fin 12, rowMatches s.pse.rows[i] s = true →
        (∀ j : Fin 12, j < i → rowMatches s.pse.rows[j] s = false) →
        (s.pse.rows[i].posture.toPosture = s.posture → evaluate s = { s with pse := { s.pse with settle := none } }) ∧
        (s.pse.rows[i].posture.toPosture ≠ s.posture →
          (∀ c, s.pse.settle = some c → c.posture = s.pse.rows[i].posture → evaluate s = s) ∧
          ((∀ c, s.pse.settle = some c → c.posture ≠ s.pse.rows[i].posture) → s.pse.rows[i].settle ≠ 0 →
            evaluate s = { s with pse := { s.pse with
              settle := some ⟨s.pse.rows[i].posture, i, s.pse.rows[i].settle⟩ } }) ∧
          ((∀ c, s.pse.settle = some c → c.posture ≠ s.pse.rows[i].posture) → s.pse.rows[i].settle = 0 →
            (evaluate s).pse.record.posture = s.pse.rows[i].posture.toPosture
            ∧ (evaluate s).pse.record.cause = .immediate ∧ (evaluate s).pse.record.row = some i))) ∧
      ((∀ j : Fin 12, rowMatches s.pse.rows[j] s = false) →
        evaluate s = { s with pse := { s.pse with settle := none } }))

/-- A row loaded by POSTURE_LOAD with every field in range is answered OK, cancels a settle and changes nothing
else; POSTURE_READ then answers the same thirteen bytes with the row's index, the committed posture and no
settle (R23 to R25, R195). -/
def Obligations.PostureRowReadsBack : Prop :=
  ∀ (s : State) (tag tag' row valid posture angle : Byte) (low high : Half) (face lidHall foldHall : Byte)
    (settle : Half),
    s.hlc.frozen = false → (h : row.toNat < 12) → valid.toNat ≤ 1 → 1 ≤ posture.toNat → posture.toNat ≤ 6 →
    angle.toNat ≤ 1 → low.toNat ≤ 3599 → high.toNat ≤ 3599 → face.toNat ≤ 3 → lidHall.toNat ≤ 2 →
    foldHall.toNat ≤ 2 → settle.toNat ≤ 5000 →
    ∃ (r : PostureRow) (t : State),
      exec (.postureLoad tag row valid posture angle low high face lidHall foldHall settle) s = .next t
      ∧ t = answered 0x98 tag .ok [] { s with pse := { s.pse with
          rows := s.pse.rows.set row.toNat r h, settle := none } }
      ∧ exec (.postureRead tag' row) t = .next (answered 0x99 tag' .ok
          ([row, valid, posture, angle] ++ halfBytes low ++ halfBytes high ++ [face, lidHall, foldHall]
            ++ halfBytes settle ++ [s.pse.record.posture.code, 0xFF, 0xFF, 0, 0]) t)

/-! ## Traffic Classifier -/

/-- A frame is matched to a valid entry with its exact source and class if there is one, else to a valid entry
of its source with class ANY, whatever the indexes, else to none (R48). -/
def Obligations.LookupPrefersExactKey : Prop :=
  ∀ (v : Vector RouteEntry 64) (source cls : BitVec 4),
    let exact := fun (i : Fin 64) => v[i].valid = true ∧ v[i].source = source ∧ v[i].cls = .exact cls
    let any := fun (i : Fin 64) => v[i].valid = true ∧ v[i].source = source ∧ v[i].cls = .any
    ((∃ i, exact i) → ∃ i, lookupRoute v source cls = some i ∧ exact i) ∧
    ((∀ i, ¬ exact i) → (∃ i, any i) → ∃ i, lookupRoute v source cls = some i ∧ any i) ∧
    ((∀ i, ¬ exact i) → (∀ i, ¬ any i) → lookupRoute v source cls = none)

/-- The head of the Dock Receive Buffer, well formed and matched to an ACTIVE unpaired URGENT entry that forwards,
outside standby, is counted as a hit and placed as a FWD record with the forwarded mark, while the lane holds fewer
than 32 records and fewer than 24 with the mark; otherwise it stalls, at the head of the buffer, for STALL_LIMIT.
From an activity source in ACTIVE it restarts the idle timer as well. Nothing else changes (R42, R48, R57 to R60,
R143, R166). A frame with RESTART first re-enables the DISABLED entries of its source in ascending order, each
ACTIVE with errors 0, its action that of R54 and its ROUTE record ENABLED with the errors counted before, and is
then handled as the frame without the flag (R42, R52, R53). -/
def Obligations.DockFrameForwardsOrStalls : Prop :=
  ∀ (s : State) (f : Frame) (rest : List Frame), s.dlc.buffer = f :: rest → s.tcl.stall = none →
    (∀ i : Fin 64, f.restart = false → ¬ (f.source = 3 ∧ f.cls = 1) →
      lookupRoute s.tcl.routes f.source f.cls = some i → s.tcl.routes[i].state = .active →
      malformed s.tcl.routes[i] f = false → s.tcl.routes[i].effective = .forward →
      s.tcl.routes[i].paired = false → (s.tcl.routes[i].activity = true → s.sdu.sleep = .active) →
      s.sdu.sleep.asleep = false → s.tcl.routes[i].lane = .urgent →
      let e := { s.tcl.routes[i] with hits := min 65535 (s.tcl.routes[i].hits + 1) }
      let restarted := { s.sdu with
        sleepMark := false, sleepTimer := some (s.params.idleSleep.toNat * 1000)
        dimTimer := if s.params.idleDim.toNat < s.params.idleSleep.toNat
          then some (s.params.idleDim.toNat * 1000) else none }
      let s1 := { s with
        tcl := { s.tcl with routes := s.tcl.routes.set i e }
        sdu := if e.activity then restarted else s.sdu }
      if s.rqu.urgent.length < 32 ∧ forwardedCount s.rqu.urgent < 24 then
        exec .dockFrameTaken s = .next (drivePins { s1 with
          dlc := { s.dlc with buffer := rest }
          rqu := { s.rqu with
            urgent := s.rqu.urgent ++ [⟨.fwd, .urgent, f.source.setWidth 8, f.cls.setWidth 8, s.time,
              s.rqu.urgentGap, f.payload, true⟩]
            urgentGap := 0 } })
      else
        exec .dockFrameTaken s = .next (drivePins { s1 with tcl := { s1.tcl with
          stall := some ⟨i, s.params.stallLimit.toNat⟩ } })) ∧
    (f.restart = true →
      let back := fun (j : Fin 64) => s.tcl.routes[j].valid = true ∧ s.tcl.routes[j].state = .disabled
        ∧ s.tcl.routes[j].source = f.source
      let found := (List.finRange 64).filter (fun j => decide (back j))
      (∀ j, back j → s.tcl.routes[j].effective = .drop) → hasRoom found.length s →
      let enabled := lodge
        (found.map (fun j => ⟨.route, .urgent, f.source.setWidth 8, s.tcl.routes[j].cls.code, 0, 0,
          [natByte j.val, 1, natByte s.tcl.routes[j].errors] ++ natBytes s.tcl.routes[j].hits, false⟩))
        { s with tcl := { s.tcl with routes := Vector.ofFn (fun j : Fin 64 =>
          let e := { s.tcl.routes[j] with state := .active, errors := 0 }
          if back j then { e with effective := effectiveAction s e } else s.tcl.routes[j]) } }
      ∃ t, exec .dockFrameTaken { enabled with dlc := { s.dlc with
          buffer := { f with restart := false } :: rest } } = .next t
        ∧ exec .dockFrameTaken s = .next { t with dlc := { t.dlc with
            buffer := if t.tcl.stall.isSome = true then f :: rest else t.dlc.buffer } })

/-- Paired frames under FORWARD on an ACTIVE URGENT entry with room. A DOWN of an item not held takes a slot at
the pool's end, or with the pool full sets the entry's overflow mark; a DOWN of a held item changes nothing of
it; an UP of a held item frees its slot; an UP of an item not held is dropped unless the mark is set (R66 to
R69). In each case a forwarded frame's record is placed with the forwarded mark. -/
def Obligations.PairedFramesTrackItems : Prop :=
  ∀ (s : State) (f : Frame) (rest : List Frame) (i : Fin 64) (item : Byte) (down : Bool) (more : List Byte),
    s.dlc.buffer = f :: rest → s.tcl.stall = none → f.restart = false → ¬ (f.source = 3 ∧ f.cls = 1) →
    lookupRoute s.tcl.routes f.source f.cls = some i → s.tcl.routes[i].state = .active →
    malformed s.tcl.routes[i] f = false → s.tcl.routes[i].effective = .forward →
    s.tcl.routes[i].paired = true → s.tcl.routes[i].activity = false → s.sdu.sleep.asleep = false →
    s.tcl.routes[i].lane = .urgent → s.rqu.urgent.length < 32 → forwardedCount s.rqu.urgent < 24 →
    f.payload = item :: (if down then 1 else 2) :: more →
    ∃ t, exec .dockFrameTaken s = .next t ∧ t.dlc.buffer = rest ∧ t.tcl.stall = none
      ∧ BeyondCommit s t ∧ t.pse = s.pse ∧ t.sdu = s.sdu ∧ t.pcc = s.pcc ∧ t.hlc.faults = s.hlc.faults
      ∧ (let held := (⟨i, item⟩ : PoolSlot) ∈ s.tcl.pool
         let mark := s.tcl.routes[i].overflow
         (¬ held → down = false → mark = false → t.rqu = s.rqu) ∧
         (held ∨ down = true ∨ mark = true → t.rqu = { s.rqu with
            urgent := s.rqu.urgent ++ [⟨.fwd, .urgent, f.source.setWidth 8, f.cls.setWidth 8, s.time,
              s.rqu.urgentGap, f.payload, true⟩]
            urgentGap := 0 }) ∧
         t.tcl.pool = (if down then (if held ∨ 32 ≤ s.tcl.pool.length then s.tcl.pool
              else s.tcl.pool ++ [⟨i, item⟩])
            else s.tcl.pool.filter (· ≠ ⟨i, item⟩)) ∧
         t.tcl.routes[i] = { s.tcl.routes[i] with
           hits := min 65535 (s.tcl.routes[i].hits + 1)
           overflow := mark || (down && decide (¬ held) && decide (32 ≤ s.tcl.pool.length)) } ∧
         ∀ j : Fin 64, j ≠ i → t.tcl.routes[j] = s.tcl.routes[j])

/-- Head frames that are not forwarded leave the buffer. On a DISABLED entry, or on an ACTIVE one whose action is
DROP, only the hit is counted. Under WAKE_ONLY an activity source restarts the idle timer in ACTIVE and resumes from
DROWSY and SLEEP_ADVISED, and with the posture in its wake mask a frame hands over ROUTE_WAKE: STANDBY wakes, and
WAKING appends a new reason to a running gather or starts one; a malformed frame below the error limit counts its
error as well; at the limit the entry is DISABLED with action DROP and ROUTE_DISABLED is raised; a frame with no
entry is discarded under DEFAULT_ROUTE DROP with nothing counted (R48 to R51, R57, R142, R153 to R155). -/
def Obligations.DiscardedFramesAreCounted : Prop :=
  ∀ (s : State) (f : Frame) (rest : List Frame),
    s.dlc.buffer = f :: rest → s.tcl.stall = none → f.restart = false → ¬ (f.source = 3 ∧ f.cls = 1) →
    (lookupRoute s.tcl.routes f.source f.cls = none → s.params.defaultRoute = 0 →
      exec .dockFrameTaken s = .next (drivePins { s with dlc := { s.dlc with buffer := rest } })) ∧
    (∀ i, lookupRoute s.tcl.routes f.source f.cls = some i →
      let e := { s.tcl.routes[i] with hits := min 65535 (s.tcl.routes[i].hits + 1) }
      (e.state = .disabled ∨ (malformed e f = false ∧ e.effective = .drop) →
        exec .dockFrameTaken s = .next (drivePins { s with
          dlc := { s.dlc with buffer := rest }
          tcl := { s.tcl with routes := s.tcl.routes.set i e } })) ∧
      (e.state = .active → malformed e f = false → e.effective = .wakeOnly →
        let wakes := maskHas e.wakeMask s.posture = true
        let restarted := { s.sdu with
          sleepMark := false, sleepTimer := some (s.params.idleSleep.toNat * 1000)
          dimTimer := if s.params.idleDim.toNat < s.params.idleSleep.toNat
            then some (s.params.idleDim.toNat * 1000) else none }
        let taken := { s with
          dlc := { s.dlc with buffer := rest }, tcl := { s.tcl with routes := s.tcl.routes.set i e } }
        let leaves := fun (u : Sdu) => exec .dockFrameTaken s = .next (drivePins { taken with sdu := u })
        ((if s.sdu.sleep.asleep then ¬ wakes else e.activity = false) → leaves s.sdu) ∧
        (e.activity = true → s.sdu.sleep = .active → leaves restarted) ∧
        (e.activity = true → s.sdu.sleep ∈ [.drowsy, .sleepAdvised] →
          ∃ t, exec .dockFrameTaken s = .next t ∧ Beyond s t ∧ t.dlc.buffer = rest
            ∧ t.tcl.routes[i].hits = e.hits ∧ t.sdu = { restarted with sleep := .active, advised := .none }
            ∧ firstPlaced (partRecord .verdict [natByte (holdCount s) <<< 4, 2, 0xFF, 0, s.sdu.sleep.code]) s t) ∧
        (wakes → s.sdu.sleep = .standby →
          ∃ t, exec .dockFrameTaken s = .next t ∧ Beyond s t ∧ t.dlc.buffer = rest
            ∧ t.tcl.routes[i].hits = e.hits ∧ t.sdu.sleep = .waking
            ∧ (s.params.wakeGather ≠ 0 → t.sdu.gatherTimer = some s.params.wakeGather.toNat
              ∧ t.sdu.wakeList.head? = some .routeWake)) ∧
        (wakes → s.sdu.sleep = .waking →
          (s.sdu.gatherTimer.isSome = true → leaves { s.sdu with
            wakeList := if .routeWake ∈ s.sdu.wakeList then s.sdu.wakeList else s.sdu.wakeList ++ [.routeWake] }) ∧
          (s.sdu.gatherTimer = none → s.params.wakeGather ≠ 0 → leaves { s.sdu with
            wakeList := [.routeWake], gatherTimer := some s.params.wakeGather.toNat }))) ∧
      (e.state = .active → malformed e f = true →
        (e.errorLimit = 0 ∨ min 15 (e.errors + 1) ≠ e.errorLimit →
          exec .dockFrameTaken s = .next (drivePins { s with
            dlc := { s.dlc with buffer := rest }
            tcl := { s.tcl with routes := s.tcl.routes.set i { e with errors := min 15 (e.errors + 1) } } })) ∧
        (e.errorLimit ≠ 0 → min 15 (e.errors + 1) = e.errorLimit →
          ∃ t, exec .dockFrameTaken s = .next t ∧ BeyondCommit s t ∧ t.pse = s.pse ∧ t.dlc.buffer = rest
            ∧ t.tcl.routes[i].state = .disabled ∧ t.tcl.routes[i].effective = .drop
            ∧ t.tcl.routes[i].errors = e.errorLimit ∧ t.tcl.routes[i].hits = e.hits
            ∧ t.hlc.faults[3] = ⟨true, min 255 (s.hlc.faults[3].count + 1)⟩)))

/-- A frame of node 3, class 1, with six payload bytes is tapped when it is taken, whatever its route entry does
with it: the base vector takes its clamped axes with the part time, is valid if the base is in use and node 3
in the node list, is pairable for PAIR_WINDOW, and the face follows its z axis (R4, R5, R14). -/
def Obligations.BaseSampleIsTapped : Prop :=
  ∀ (s : State) (f : Frame) (rest : List Frame) (x0 x1 y0 y1 z0 z1 : Byte),
    s.dlc.buffer = f :: rest → s.tcl.stall = none → f.restart = false → f.source = 3 → f.cls = 1 →
    f.payload = [x0, x1, y0, y1, z0, z1] →
    let z := max (-8000) (min 8000 (halfOf z0 z1).toInt)
    let ok := decide (s.dlc.state = .attached ∨ s.dlc.state = .detachRequested)
      && s.dlc.identity.nodes.any (fun n => n.node = 3)
    ∃ t, exec .dockFrameTaken s = .next t
      ∧ BeyondCommit { s with pse := { s.pse with
          base := ⟨max (-8000) (min 8000 (halfOf x0 x1).toInt), max (-8000) (min 8000 (halfOf y0 y1).toInt), z⟩
          baseStamp := s.time
          baseValid := ok
          pairTimer := some s.params.pairWindow.toNat
          face := if ok then (if 700 ≤ z then .up else if z ≤ -700 then .down else .edge) else .none } } t
      ∧ (t.dlc.buffer = rest ∨ (t.dlc.buffer = f :: rest ∧ t.tcl.stall.isSome = true))

/-- The stall timer's expiry ends the stall and takes the frame from the buffer. With room in the lane the frame
is placed without the forwarded mark, and nothing else changes but what a placed paired frame does to the pool and
its entry's overflow mark; in a full lane it is lost, the gap count rises and DOCK_STALL is raised, and of a paired
frame only a lost UP of a held item shows: its slot goes and the mark is set (R62, R66 to R69, R167). -/
def Obligations.StallLimitEndsStall : Prop :=
  ∀ (s : State) (st : Stall) (f : Frame) (rest : List Frame),
    s.tcl.stall = some st → s.dlc.buffer = f :: rest →
    let e := s.tcl.routes[st.entry]
    let placed := lodge [⟨.fwd, .urgent, f.source.setWidth 8, f.cls.setWidth 8, 0, 0, f.payload, false⟩]
      { s with tcl := { s.tcl with stall := none }, dlc := { s.dlc with buffer := rest } }
    let lost := fun (t : State) => Beyond s t ∧ t.tcl.stall = none
      ∧ t.dlc.buffer = rest ∧ t.rqu.urgent = s.rqu.urgent ∧ min 255 (s.rqu.urgentGap + 1) ≤ t.rqu.urgentGap
      ∧ t.hlc.faults[2] = ⟨true, min 255 (s.hlc.faults[2].count + 1)⟩
    (e.paired = false →
      (s.rqu.urgent.length < 32 → exec .stallTimerExpiry s = .next (drivePins placed)) ∧
      (32 ≤ s.rqu.urgent.length → ∃ t, exec .stallTimerExpiry s = .next t ∧ lost t
        ∧ t.tcl = { s.tcl with stall := none })) ∧
    (∀ (item : Byte) (down : Bool) (more : List Byte), e.paired = true →
      f.payload = item :: (if down then 1 else 2) :: more →
      let held := (⟨st.entry, item⟩ : PoolSlot) ∈ s.tcl.pool
      (s.rqu.urgent.length < 32 → exec .stallTimerExpiry s = .next (drivePins { placed with tcl := { placed.tcl with
        pool := if down then (if held ∨ 32 ≤ s.tcl.pool.length then s.tcl.pool
            else s.tcl.pool ++ [⟨st.entry, item⟩])
          else s.tcl.pool.filter (· ≠ ⟨st.entry, item⟩)
        routes := s.tcl.routes.set st.entry { e with
          overflow := e.overflow || (down && decide (¬ held) && decide (32 ≤ s.tcl.pool.length)) } } })) ∧
      (32 ≤ s.rqu.urgent.length → ∃ t, exec .stallTimerExpiry s = .next t ∧ lost t
        ∧ t.tcl = { s.tcl with
            stall := none
            pool := if down then s.tcl.pool else s.tcl.pool.filter (· ≠ ⟨st.entry, item⟩)
            routes := s.tcl.routes.set st.entry { e with
              overflow := e.overflow || (!down && decide held) } }))

/-- A coalesced BULK frame enters the stage with the gap count and starts the flush timer in an empty stage; one
that brings the stage to its high-water mark of 6 or above flushes it, and one that finds it full is lost with the
gap count risen. A non-coalesced frame, and under DEFAULT_ROUTE FORWARD_BULK a frame with no entry, first flushes
the stage, and then enters the BULK lane if the stage is empty and the lane has room, and is lost otherwise. Under
suppression a frame is discarded and nothing of the queue changes; in STANDBY it wakes all the same. A flush, also
that of the flush timer's expiry, moves records from the front of the stage to the end of the BULK lane while it
holds fewer than 96, and the timer runs on only while the stage still holds records (R48, R49, R57, R58, R168 to
R172). -/
def Obligations.BulkFramesCoalesce : Prop :=
  ∀ (s : State),
    let flushed := fun (q : Rqu) =>
      let k := min q.stage.length (96 - q.bulk.length)
      { q with
        bulk := q.bulk ++ q.stage.take k, stage := q.stage.drop k
        flushTimer := if k = q.stage.length then none else some s.params.flushTime.toNat }
    let direct := fun (r : Record) =>
      let q := flushed s.rqu
      if q.stage = [] ∧ q.bulk.length < 96 then { q with bulk := q.bulk ++ [r], bulkGap := 0 }
      else { q with bulkGap := min 255 (s.rqu.bulkGap + 1) }
    let coalesced := fun (r : Record) =>
      let q := { s.rqu with
        stage := s.rqu.stage ++ [r], bulkGap := 0
        flushTimer := if s.rqu.stage = [] then some s.params.flushTime.toNat else s.rqu.flushTimer }
      if 8 ≤ s.rqu.stage.length then { s.rqu with bulkGap := min 255 (s.rqu.bulkGap + 1) }
      else if s.rqu.stage.length < 5 then q else flushed q
    (∀ (f : Frame) (rest : List Frame),
      s.dlc.buffer = f :: rest → s.tcl.stall = none → f.restart = false → ¬ (f.source = 3 ∧ f.cls = 1) →
      let r : Record := ⟨.fwd, .bulk, f.source.setWidth 8, f.cls.setWidth 8, s.time, s.rqu.bulkGap, f.payload, false⟩
      (∀ i, lookupRoute s.tcl.routes f.source f.cls = some i → s.tcl.routes[i].state = .active →
        malformed s.tcl.routes[i] f = false → s.tcl.routes[i].effective = .forward →
        s.tcl.routes[i].paired = false → s.tcl.routes[i].lane = .bulk →
        let e := { s.tcl.routes[i] with hits := min 65535 (s.tcl.routes[i].hits + 1) }
        let taken := { s with
          dlc := { s.dlc with buffer := rest }, tcl := { s.tcl with routes := s.tcl.routes.set i e } }
        ((e.activity = false ∧ s.sdu.sleep.asleep = false) ∨ (s.sdu.sleep = .waking
            ∧ s.sdu.gatherTimer.isSome = true ∧ .routeWake ∈ s.sdu.wakeList) →
          exec .dockFrameTaken s = .next (drivePins { taken with
            rqu := if s.rqu.suppressed then s.rqu else if e.coalesce then coalesced r else direct r })) ∧
        (s.sdu.sleep = .standby → s.rqu.suppressed = true → maskHas e.wakeMask s.posture = true →
          ∃ t, exec .dockFrameTaken s = .next t ∧ Beyond s t ∧ t.sdu.sleep = .waking ∧ t.dlc.buffer = rest
            ∧ t.tcl = taken.tcl ∧ t.rqu.bulk = s.rqu.bulk ∧ t.rqu.stage = s.rqu.stage
            ∧ t.rqu.bulkGap = s.rqu.bulkGap ∧ t.rqu.flushTimer = s.rqu.flushTimer)) ∧
      (lookupRoute s.tcl.routes f.source f.cls = none → s.params.defaultRoute = 1 →
        exec .dockFrameTaken s = .next (drivePins { s with
          dlc := { s.dlc with buffer := rest }
          rqu := if s.sdu.sleep.asleep = true ∨ s.rqu.suppressed = true
              ∨ (s.dlc.state ≠ .attached ∧ s.dlc.state ≠ .detachRequested) then s.rqu else direct r }))) ∧
    (∀ n, s.rqu.flushTimer = some n →
      exec .flushTimerExpiry s = .next (drivePins { s with rqu := flushed s.rqu }))

/-- A ROUTE_LOAD with every field in range and its key free at the other indexes writes the entry ACTIVE with its
counts at 0. Over a valid entry, with room for its records, it first places one RELEASE record for each of its
slots in pool order, then ALL_UP if its overflow mark is set, all with cause LOAD and the old key; the slots leave
the pool; a stall of that entry ends, and its frame leaves the buffer. Nothing else changes. ROUTE_READ then answers
the same nine bytes with valid in place of the index, followed by state, hits, errors, overflow mark, effective
action, slots held and stalled flag (R43 to R47, R63, R72 to R74, R195). -/
def Obligations.RouteEntryReadsBack : Prop :=
  ∀ (s : State) (tag tag' index source cls : Byte) (actions : Half) (flags wakeMask errorLimit length : Byte),
    s.hlc.frozen = false → (h : index.toNat < 64) → source.toNat ≤ 15 →
    (cls = 0xFF ∨ (1 ≤ cls.toNat ∧ cls.toNat ≤ 15)) →
    (∀ k : Fin 8, actions.extractLsb' (2 * k) 2 ≠ 3) → flags.toNat ≤ 15 → errorLimit.toNat ≤ 15 →
    (length = 0xFF ∨ length.toNat ≤ 32) → (flags.getLsbD 2 = true → 2 ≤ length.toNat) →
    (∀ j : Fin 64, j.val ≠ index.toNat → s.tcl.routes[j].valid = true →
      s.tcl.routes[j].source.toNat = source.toNat → s.tcl.routes[j].cls.code ≠ cls) →
    let old := s.tcl.routes[index.toNat]
    let mine := s.tcl.pool.filter (fun x => x.entry.val = index.toNat)
    let rel := if old.valid then
        mine.map (fun x => (⟨.release, .urgent, old.source.setWidth 8, old.cls.code, 0, 0, [index, x.item, 4],
          false⟩ : Record))
        ++ (if old.overflow then [⟨.allUp, .urgent, old.source.setWidth 8, old.cls.code, 0, 0, [index, 4], false⟩]
          else [])
      else []
    let stalledHere := s.tcl.stall.map (·.entry.val) = some index.toNat
    (old.valid = false → mine = []) → hasRoom rel.length s →
    ∃ (e : RouteEntry) (t : State),
      exec (.routeLoad tag index source cls actions flags wakeMask errorLimit length) s = .next t
      ∧ t = answered 0x90 tag .ok [] (lodge rel { s with
          tcl := {
            routes := s.tcl.routes.set index.toNat e h
            pool := s.tcl.pool.filter (fun x => x.entry.val ≠ index.toNat)
            stall := if stalledHere then none else s.tcl.stall }
          dlc := { s.dlc with buffer := if stalledHere then s.dlc.buffer.tail else s.dlc.buffer } })
      ∧ e.valid = true ∧ e.effective = effectiveAction s e
      ∧ exec (.routeRead tag' index) t = .next (answered 0x92 tag' .ok
          ([1, source, cls] ++ halfBytes actions ++ [flags, wakeMask, errorLimit, length]
            ++ [0, 0, 0, 0, 0, e.effective.code, 0, 0]) t)

/-- A ROUTE_CLEAR of a valid entry, with room for its records, places one RELEASE record for each of its slots
in pool order, then ALL_UP if its overflow mark is set, all with cause CLEAR and the entry's key; the slots leave
the pool in which the others keep their order, and the entry takes the cleared values (R43, R46, R73, R74). -/
def Obligations.RouteClearReleasesItems : Prop :=
  ∀ (s : State) (tag index : Byte) (h : index.toNat < 64),
    s.hlc.frozen = false → s.tcl.routes[index.toNat].valid = true →
    (∀ st, s.tcl.stall = some st → st.entry.val ≠ index.toNat) →
    let e := s.tcl.routes[index.toNat]
    let mine := s.tcl.pool.filter (fun x => x.entry.val = index.toNat)
    let rel := mine.map (fun x => (⟨.release, .urgent, e.source.setWidth 8, e.cls.code, 0, 0, [index, x.item, 5],
        false⟩ : Record))
      ++ (if e.overflow then [⟨.allUp, .urgent, e.source.setWidth 8, e.cls.code, 0, 0, [index, 5], false⟩] else [])
    hasRoom rel.length s →
    exec (.routeClear tag index) s = .next (answered 0x91 tag .ok [] (lodge rel { s with tcl := { s.tcl with
      routes := s.tcl.routes.set index.toNat RouteEntry.cleared h
      pool := s.tcl.pool.filter (fun x => x.entry.val ≠ index.toNat) } }))

/-! ## Dock Link -/

/-- The eleven bits of a character stand on the line in the order start low, data least significant bit first,
mark, stop. The characters of a frame with a payload of at most 32 bytes, its address with mark 1 and the rest with
mark 0, received one by one from HUNT outside ABSENT, do what the arrival of that frame does. DTX carries the bits of
a transmission's characters one after another, each with a good stop bit, and is high when idle and behind the last
of them (R79 to R81, R197). -/
def Obligations.CharactersMakeTheFrame : Prop :=
  (∀ (data : Byte) (mark stop : Bool), let line := charBits data mark stop
    line.getLsbD 0 = false ∧ (∀ n < 8, line.getLsbD (n + 1) = data.getLsbD n) ∧ line.getLsbD 9 = mark
      ∧ line.getLsbD 10 = stop ∧ ∀ n < 9, (lineBits data).getLsbD n = line.getLsbD n) ∧
  (∀ (s : State) (node : BitVec 3) (cls : BitVec 4) (restart : Bool) (payload : List Byte),
    payload.length ≤ 32 → s.dlc.rx = .hunt → s.dlc.state ≠ .absent →
    let covered := [addressByte node cls restart, natByte payload.length] ++ payload
    ∃ t, execAll (.dockCharacter (lineBits (addressByte node cls restart)) true true ::
        (natByte payload.length :: payload ++ [crc8 covered]).map
          (fun b => .dockCharacter (lineBits b) false true)) s = .next t
      ∧ exec (.dockFrameArrival node cls restart payload) (drivePins s) = .next t) ∧
  ∀ (d : Dlc) (n : Nat), (d.sending = none → d.dtx n = true) ∧
    (∀ x, d.sending = some x →
      (∀ j c, x.chars[j]? = some c → n < 11 → d.dtx (11 * j + n) = (charBits c.data c.mark true).getLsbD n) ∧
      (11 * x.chars.length ≤ n → d.dtx n = true))

/-- An arriving frame. In ABSENT none arrives. Of node 0 none is handled in SENSED, and one without RESTART is
discarded but for HELLO and, in QUIESCING, QUIESCED. One with RESTART, in every other state, re-enables the DISABLED
entries of the dock sources, each with its ROUTE record, in ascending order; in IDENTIFYING and FAULTED it does nothing
else, a HELLO in IDENTIFYING apart. In an attached state it takes the base to IDENTIFYING: DOCK record RESTARTED, with
0 periods (DEDUCED, log entry 31), SLATE, the first query and the HELLO timer, the timer of the state and the latch
drive stopped, the waiting slots discarded; a HELLO in it that is not well formed is then a link error (R36, R52, R92,
R96, R103, R116). A routed frame of a node the identity allows enters the buffer of an attached base as its last frame,
and into a full buffer, a frame stalled or not, it is lost with DOCK_OVERRUN; outside ATTACHED and DETACH_REQUESTED it
is discarded. A node that a held node list lacks is refused as the link error that a broken address character is (R82,
R83, R85, R97). -/
def Obligations.FrameArrivalIsDispatched : Prop :=
  ∀ (s : State) (node : BitVec 3) (cls : BitVec 4) (restart : Bool) (payload : List Byte),
    payload.length ≤ 32 →
    let s0 := { s with dlc := { s.dlc with rx := .hunt } }
    let listed := s.dlc.identity.nodes = [] ∨ s.dlc.identity.nodes.any (fun n => n.node = node.setWidth 8) = true
    let used := s.dlc.state = .attached ∨ s.dlc.state = .detachRequested
    let enabled := (List.finRange 64).filter (dormant s)
    let records := enabled.map (fun i => keyedRecord .route s.tcl.routes[i].source s.tcl.routes[i].cls
      ([natByte i.val, 1, natByte s.tcl.routes[i].errors] ++ natBytes s.tcl.routes[i].hits))
    let restarted := partRecord .dock [12, 2, s.dlc.state.code, 0xFF, 0, 0]
    let begun := { s.dlc.toIdentifying s.params with rx := .hunt }
    let n := if s.dlc.errTimer = none then 1 else s.dlc.errors + 1
    (s.dlc.state = .absent → exec (.dockFrameArrival node cls restart payload) s = .next (drivePins s0)) ∧
    (node = 0 → s.dlc.state = .sensed ∨ (restart = false ∧ cls ≠ 1 ∧ (cls ≠ 2 ∨ s.dlc.state ≠ .quiescing)) →
      exec (.dockFrameArrival node cls restart payload) s = .next (drivePins s0)) ∧
    (s.dlc.state ∉ [.absent, .sensed] → ∃ t, exec (.dockFrameArrival 0 cls true payload) s = .next t
      ∧ (∀ i : Fin 64, if dormant s i then
          t.tcl.routes[i].state = .active ∧ t.tcl.routes[i].errors = 0
            ∧ t.tcl.routes[i].effective = effectiveAction t t.tcl.routes[i]
        else t.tcl.routes[i].state = s.tcl.routes[i].state ∧ t.tcl.routes[i].errors = s.tcl.routes[i].errors)
      ∧ ((∀ i, dormant s i = true → s.tcl.routes[i].effective = .drop) → placesAmong records s t)) ∧
    (s.dlc.state = .faulted ∨ (s.dlc.state = .identifying ∧ cls ≠ 1) →
      (∀ i, dormant s i = true → s.tcl.routes[i].effective = .drop) → hasRoom enabled.length s →
      exec (.dockFrameArrival 0 cls true payload) s = .next (drivePins (lodge records { s0 with tcl := { s.tcl with
        routes := Vector.ofFn (fun i : Fin 64 =>
          if dormant s i then { s.tcl.routes[i] with state := .active, errors := 0 } else s.tcl.routes[i]) } }))) ∧
    (s.dlc.state ∈ [.attached, .detachRequested, .quiescing, .releasing] →
      ∃ t, exec (.dockFrameArrival 0 cls true payload) s = .next t
        ∧ placesAmong [restarted] s t
        ∧ (s.choices.restartTclFirst = false ∨ enabled = [] → firstPlaced restarted s t)
        ∧ (cls ≠ 1 → Transition s begun t)
        ∧ (cls = 1 → helloOf payload = none → n < s.params.linkErrLimit.toNat → Transition s { begun with
            errors := n, errTimer := if s.dlc.errTimer = none then some 1000 else s.dlc.errTimer } t)
        ∧ (cls = 1 → helloOf payload = none → s.params.linkErrLimit.toNat ≤ n → t.dlc.state = .faulted)) ∧
    (node ≠ 0 → listed → used → cls ≠ 0 → s.dlc.buffer.length < 4 →
      exec (.dockFrameArrival node cls restart payload) s = .next (drivePins { s with dlc := { s.dlc with
        rx := .hunt, buffer := s.dlc.buffer ++ [⟨node.setWidth 4, cls, payload, restart⟩] } })) ∧
    (node ≠ 0 → listed → used → cls ≠ 0 → 4 ≤ s.dlc.buffer.length →
      ∃ t, exec (.dockFrameArrival node cls restart payload) s = .next t ∧ raised .dockOverrun s t
        ∧ Beyond s0 t ∧ t.dlc.buffer = s.dlc.buffer ∧ t.tcl = s.tcl) ∧
    (node ≠ 0 → s.dlc.state ≠ .absent → listed → (¬ used ∨ cls = 0) →
      exec (.dockFrameArrival node cls restart payload) s = .next (drivePins s0)) ∧
    (node ≠ 0 → s.dlc.state ≠ .absent → ¬ listed →
      exec (.dockFrameArrival node cls restart payload) s = exec (.dockCharacter (lineBits 0) true false) s0)

/-- A link error, shown on a broken address character. In a counting state below LINK_ERR_LIMIT it opens the
1000 ms window with count 1 or adds 1 to the count; at the limit the window closes with count 0, DOCK_LINK is
raised and the dock state becomes FAULTED; in the other states it is counted nowhere. The window's expiry sets
the count to 0 (R81, R82, R84, R106). -/
def Obligations.LinkErrorsAreCounted : Prop :=
  ∀ (s : State) (data : Byte),
    let n := if s.dlc.errTimer = none then 1 else s.dlc.errors + 1
    let counting := s.dlc.state = .identifying ∨ s.dlc.state = .attached ∨ s.dlc.state = .detachRequested
    (counting → n < s.params.linkErrLimit.toNat →
      exec (.dockCharacter (lineBits data) true false) s = .next (drivePins { s with dlc := { s.dlc with
        rx := .hunt, errors := n
        errTimer := if s.dlc.errTimer = none then some 1000 else s.dlc.errTimer } })) ∧
    (counting → s.params.linkErrLimit.toNat ≤ n →
      ∃ t, exec (.dockCharacter (lineBits data) true false) s = .next t
        ∧ Transition s { s.dlc with
            state := .faulted, rx := .hunt, errors := 0, errTimer := none, identifyMark := false
            helloTimer := if s.dlc.state = .identifying then none else s.dlc.helloTimer
            grantTimer := if s.dlc.state = .detachRequested then none else s.dlc.grantTimer } t
        ∧ t.hlc.faults[0] = ⟨true, min 255 (s.hlc.faults[0].count + 1)⟩) ∧
    (¬ counting → s.dlc.state ≠ .absent →
      exec (.dockCharacter (lineBits data) true false) s
        = .next (drivePins { s with dlc := { s.dlc with rx := .hunt } })) ∧
    (∀ k, s.dlc.errTimer = some k → exec .errorWindowExpiry s = .next (drivePins { s with dlc := { s.dlc with
        errors := 0, errTimer := none } }))

/-- A transmission starts with the line idle outside ABSENT: the identify mark's IDENT_QUERY, else the quiesce
mark's frame by its sense, else the notice with the sleep state of this moment, else the oldest waiting slot;
the chosen mark is cleared, the slot is in transmission. At completion the line is idle and a slot's frame
frees its slot. DOCK_SEND with a good frame and a free slot queues it as the newest (R87 to R89). The start that
follows on an idle line, by DOCK_SEND or a completion, is an event of its own (the model's choice, log entry 18). -/
def Obligations.TransmitterTakesItsTurn : Prop :=
  ∀ (s : State),
    (s.dlc.sending = none → s.dlc.state ≠ .absent →
      (s.dlc.identifyMark = true → exec .transmissionStart s = .next (drivePins { s with dlc := { s.dlc with
        identifyMark := false, sending := some ⟨frameChars 0 1 [], false⟩ } })) ∧
      (s.dlc.identifyMark = false → ∀ q, s.dlc.quiesceMark = some q →
        exec .transmissionStart s = .next (drivePins { s with dlc := { s.dlc with
          quiesceMark := none
          sending := some ⟨frameChars 0 (if q = .quiesce then 2 else 3) [], false⟩ } })) ∧
      (s.dlc.identifyMark = false → s.dlc.quiesceMark = none → s.dlc.noticeMark = true →
        exec .transmissionStart s = .next (drivePins { s with dlc := { s.dlc with
          noticeMark := false
          sending := some ⟨frameChars 0 4 [if s.sdu.sleep = .standby ∨ s.sdu.sleep = .waking then 1 else 0],
            false⟩ } })) ∧
      (s.dlc.identifyMark = false → s.dlc.quiesceMark = none → s.dlc.noticeMark = false →
        ∀ (before after : List TxSlot) (x : TxSlot), s.dlc.slots = before ++ x :: after →
          (∀ y ∈ before, y.sending = true) → x.sending = false →
          exec .transmissionStart s = .next (drivePins { s with dlc := { s.dlc with
            slots := before ++ { x with sending := true } :: after
            sending := some ⟨frameChars (x.node.setWidth 3) (x.cls.setWidth 4) x.payload, true⟩ } }))) ∧
    (∀ x, s.dlc.sending = some x → exec .transmissionComplete s = .next (drivePins { s with dlc := { s.dlc with
        sending := none
        slots := if x.fromSlot then s.dlc.slots.filter (fun y => !y.sending) else s.dlc.slots } })) ∧
    (∀ (tag node cls : Byte) (payload : List Byte), 1 ≤ node.toNat → node.toNat ≤ 7 → 1 ≤ cls.toNat →
      cls.toNat ≤ 15 → payload.length ≤ 32 → (s.dlc.state = .attached ∨ s.dlc.state = .detachRequested) →
      s.dlc.slots.length < 4 →
      exec (.dockSend tag node cls (natByte payload.length) payload) s
        = .next (answered 0xA0 tag .ok [] { s with dlc := { s.dlc with
            slots := s.dlc.slots ++ [⟨node, cls, payload, false⟩] } }))

/-! ## Attach and detach -/

/-- Sensing. The first millisecond that differs from the accepted level starts the sense timer, in ABSENT with a
change to SENSED; a running timer runs on; an equal millisecond cancels it, in SENSED with a return to ABSENT.
The debounce's completion in SENSED accepts PRESENT and enters IDENTIFYING with the first query and the HELLO
timer (R99, R101, R103). -/
def Obligations.SensingFindsTheBase : Prop :=
  ∀ (s : State) (s1 s2 s3 : Bool) (n : Nat),
    let present := !majority s1 s2 s3
    (present ≠ s.dlc.sense → s.dlc.senseTimer = none → s.dlc.state = .absent →
      ∃ t, exec (.dockSenseLevel s1 s2 s3) s = .next t ∧ Transition s { s.dlc with
        state := .sensed, senseTimer := some s.params.senseDebounce.toNat, errors := 0, errTimer := none
        identifyMark := false } t) ∧
    (present ≠ s.dlc.sense → s.dlc.senseTimer = none → s.dlc.state ≠ .absent →
      exec (.dockSenseLevel s1 s2 s3) s = .next (drivePins { s with dlc := { s.dlc with
        senseTimer := some s.params.senseDebounce.toNat } })) ∧
    (present ≠ s.dlc.sense → s.dlc.senseTimer = some n →
      exec (.dockSenseLevel s1 s2 s3) s = .next (drivePins s)) ∧
    (present = s.dlc.sense → s.dlc.state ≠ .sensed →
      exec (.dockSenseLevel s1 s2 s3) s = .next (drivePins { s with dlc := { s.dlc with senseTimer := none } })) ∧
    (present = s.dlc.sense → s.dlc.state = .sensed →
      ∃ t, exec (.dockSenseLevel s1 s2 s3) s = .next t ∧ Transition s { s.dlc with
        state := .absent, senseTimer := none, errors := 0, errTimer := none, identifyMark := false
        quiesceMark := none, slots := [], sending := none, rx := .hunt, identity := Identity.absent } t) ∧
    (s.dlc.state = .sensed → s.dlc.sense = false → s.dlc.senseTimer = some n →
      ∃ t, exec .senseDebounceComplete s = .next t ∧ Transition s { s.dlc with
        state := .identifying, sense := true, senseTimer := none, queries := 1, identifyMark := true
        helloTimer := some s.params.helloTimeout.toNat, quiesceMark := none
        slots := s.dlc.slots.filter (fun y => y.sending) } t)

/-- A sense loss enters ABSENT from every state with the link cleared and the latch drive off. Its record is
DETACHED with the periods from RELEASING, SURPRISE_DETACH from an attached state or QUIESCING, REMOVED from
IDENTIFYING and FAULTED; a surprise detach in STANDBY wakes (R97, R101, R102, R112, R113, R115). -/
def Obligations.SenseLossEndsTheDock : Prop :=
  ∀ (s : State) (n : Nat), s.dlc.sense = true → s.dlc.senseTimer = some n →
    s.dlc.state ≠ .absent → s.dlc.state ≠ .sensed →
    ∃ t, exec .senseLoss s = .next t
      ∧ Transition s { s.dlc with
          state := .absent, sense := false, senseTimer := none, errors := 0, errTimer := none
          identifyMark := false, quiesceMark := none, slots := [], sending := none, rx := .hunt
          identity := Identity.absent
          helloTimer := if s.dlc.state = .identifying then none else s.dlc.helloTimer
          grantTimer := if s.dlc.state = .detachRequested then none else s.dlc.grantTimer
          quiesceTimer := if s.dlc.state = .quiescing then none else s.dlc.quiesceTimer
          window := if s.dlc.state = .releasing then none else s.dlc.window
          latchPhase := if s.dlc.state = .releasing then .off else s.dlc.latchPhase
          latchDrv := if s.dlc.state = .releasing then false else s.dlc.latchDrv
          latchDelay := if s.dlc.state = .releasing then none else s.dlc.latchDelay
          latchPeriod := if s.dlc.state = .releasing then none else s.dlc.latchPeriod
          latchOn := if s.dlc.state = .releasing then none else s.dlc.latchOn } t
      ∧ (match s.dlc.state with
        | .releasing =>
          firstPlaced (partRecord .dock ([8, 0, 6, 0xFF] ++ natBytes s.dlc.latchCount)) s t
        | .identifying | .faulted => firstPlaced (partRecord .dock [10, 0, s.dlc.state.code, 0xFF, 0, 0]) s t
        | _ => firstPlaced (partRecord .dock [9, 0, s.dlc.state.code, 0xFF, 0, 0]) s t
            ∧ (s.sdu.sleep = .standby → t.sdu.sleep = .waking))

/-- A well-formed HELLO in IDENTIFYING replaces the identity, enters ATTACHED with the notice mark set, and places a
DOCK record ATTACHED with the identity, first of its records but for those of the entries that its RESTART re-enables;
in STANDBY it wakes (R91, R93, R94, R105). One with RESTART that arrives while the base is attached goes through
IDENTIFYING and attaches at once: the DOCK records RESTARTED, with 0 periods (DEDUCED, log entry 31), and ATTACHED,
SLATE and then UNKNOWN committed, the state's timer and the latch drive stopped, the waiting slots discarded and no
query owed (R36, R92, R96, R103, R116). A HELLO without RESTART elsewhere changes nothing, and one that is not well
formed is a link error. The HELLO timer's expiry sends a further query up to the third; the expiry after it enters
FAULTED with cause NO_HELLO and raises DOCK_LINK, its DOCK record ahead of the FAULT record (DEDUCED, log entry 23).
DOCK_RETRY enters IDENTIFYING from FAULTED (R104, R107). -/
def Obligations.HelloAttachesOrTimesOut : Prop :=
  ∀ (s : State) (payload : List Byte) (n : Nat) (tag : Byte), payload.length ≤ 32 →
    let attached := fun id : Identity => partRecord .dock ([0, 3, 2, 0xFF, 0, 0] ++ halfBytes id.kind
      ++ [id.revision, id.flags, natByte id.nodes.length] ++ id.nodes.flatMap (fun n => [n.node, n.kind]))
    (∀ id restart, s.dlc.state = .identifying → helloOf payload = some id →
      ∃ t, exec (.dockFrameArrival 0 1 restart payload) s = .next t
        ∧ t.dlc.rest = ({ s.dlc with
            state := .attached, rx := .hunt, identity := id, helloTimer := none, identifyMark := false } : Dlc).rest
        ∧ t.dlc.noticeMark = true ∧ t.time = s.time ∧ t.params = s.params ∧ t.hlc.link = s.hlc.link
        ∧ (t.pse.record.posture = .unknown ∧ t.pse.record.sequence = s.pse.record.sequence + 1
          ∨ t.pse.record.previous = .unknown ∧ t.pse.record.sequence = s.pse.record.sequence + 2)
        ∧ (restart = false ∨ (∀ i, dormant s i = false) → firstPlaced (attached id) s t)
        ∧ placesAmong [attached id] s t
        ∧ (s.sdu.sleep = .standby → t.sdu.sleep = .waking)) ∧
    (∀ id, s.dlc.state ∈ [.attached, .detachRequested, .quiescing, .releasing] → helloOf payload = some id →
      ∃ t, exec (.dockFrameArrival 0 1 true payload) s = .next t
        ∧ t.dlc.rest = ({ s.dlc.toIdentifying s.params with
            state := .attached, rx := .hunt, identity := id, helloTimer := none, identifyMark := false } : Dlc).rest
        ∧ t.dlc.noticeMark = true ∧ t.time = s.time ∧ t.params = s.params ∧ t.hlc.link = s.hlc.link
        ∧ (t.pse.record.posture = .unknown ∧ t.pse.record.previous = .slate
            ∧ t.pse.record.sequence = s.pse.record.sequence + 2
          ∨ t.pse.record.previous = .unknown ∧ t.pse.record.sequence = s.pse.record.sequence + 3)
        ∧ placesAmong [partRecord .dock [12, 2, s.dlc.state.code, 0xFF, 0, 0], attached id] s t
        ∧ (s.choices.restartTclFirst = false ∨ (∀ i, dormant s i = false) →
            firstPlaced (partRecord .dock [12, 2, s.dlc.state.code, 0xFF, 0, 0]) s t)
        ∧ (s.sdu.sleep = .standby → t.sdu.sleep = .waking)) ∧
    (s.dlc.state = .identifying → helloOf payload = none → s.dlc.errors + 1 < s.params.linkErrLimit.toNat →
      s.dlc.errTimer.isSome = true → exec (.dockFrameArrival 0 1 false payload) s
        = .next (drivePins { s with dlc := { s.dlc with rx := .hunt, errors := s.dlc.errors + 1 } })) ∧
    (s.dlc.state ∈ [.sensed, .attached, .detachRequested, .quiescing, .releasing, .faulted] →
      exec (.dockFrameArrival 0 1 false payload) s
        = .next (drivePins { s with dlc := { s.dlc with rx := .hunt } })) ∧
    (s.dlc.helloTimer = some n → s.dlc.queries < 3 →
      exec .helloTimerExpiry s = .next (drivePins { s with dlc := { s.dlc with
        queries := s.dlc.queries + 1, identifyMark := true
        helloTimer := some s.params.helloTimeout.toNat } })) ∧
    (s.dlc.state = .identifying → s.dlc.helloTimer = some n → 3 ≤ s.dlc.queries →
      ∃ t, exec .helloTimerExpiry s = .next t
        ∧ Transition s { s.dlc with
            state := .faulted, helloTimer := none, identifyMark := false, errors := 0, errTimer := none } t
        ∧ firstPlaced (partRecord .dock [11, 7, 2, 0, 0, 0]) s t
        ∧ t.hlc.faults[0] = ⟨true, min 255 (s.hlc.faults[0].count + 1)⟩) ∧
    (s.dlc.state = .faulted → ∃ t, exec (.dockRetry tag) s = .next t
      ∧ t.hlc.response = some ⟨0xA2, tag, .ok, []⟩
      ∧ Transition { s with hlc := { s.hlc with response := some ⟨0xA2, tag, .ok, []⟩ } } { s.dlc with
          state := .identifying, queries := 1, identifyMark := true
          helloTimer := some s.params.helloTimeout.toNat, quiesceMark := none
          slots := s.dlc.slots.filter (fun y => y.sending) } t)

/-- An accepted press of the latch button, counted over 30 ms of LATCH_REQ_N low or told by LATCH_REQUEST, takes
ATTACHED to DETACH_REQUESTED with the grant timer and its DOCK record, wakes in STANDBY, and elsewhere only
notes the button; releases and shorter presses change nothing else (R100, R108; log entry 6). -/
def Obligations.LatchButtonRequestsDetach : Prop :=
  ∀ (s : State) (s1 s2 s3 : Bool),
    let pressed := !majority s1 s2 s3
    (s.dlc.state = .attached → ∃ t, exec .latchRequest s = .next t
      ∧ Transition s { s.dlc with
          state := .detachRequested, button := true, buttonRun := 0, buttonFresh := false
          grantTimer := some s.params.grantTimeout.toNat, identifyMark := false } t
      ∧ firstPlaced (partRecord .dock [1, 4, 3, 0xFF, 0, 0]) s t
      ∧ (s.sdu.sleep = .standby → t.sdu.sleep = .waking)) ∧
    (s.dlc.state ≠ .attached → exec .latchRequest s = .next (drivePins { s with dlc := { s.dlc with
        button := true, buttonRun := 0, buttonFresh := false } })) ∧
    (s.dlc.buttonFresh = true → exec (.latchButtonMillisecondLevel s1 s2 s3) s = .next (drivePins { s with dlc :=
        { s.dlc with button := pressed, buttonRun := 0, buttonFresh := false } })) ∧
    (s.dlc.buttonFresh = false →
      (pressed = s.dlc.button → exec (.latchButtonMillisecondLevel s1 s2 s3) s = .next (drivePins { s with dlc :=
        { s.dlc with buttonRun := 0 } })) ∧
      (pressed ≠ s.dlc.button → s.dlc.buttonRun < 29 →
        exec (.latchButtonMillisecondLevel s1 s2 s3) s = .next (drivePins { s with dlc :=
          { s.dlc with buttonRun := s.dlc.buttonRun + 1 } })) ∧
      (pressed ≠ s.dlc.button → 29 ≤ s.dlc.buttonRun → pressed = true →
        ∃ t, exec (.latchButtonMillisecondLevel s1 s2 s3) s = .next t ∧ exec .latchRequest s = .next t) ∧
      (pressed ≠ s.dlc.button → 29 ≤ s.dlc.buttonRun → pressed = false →
        exec (.latchButtonMillisecondLevel s1 s2 s3) s = .next (drivePins { s with dlc :=
          { s.dlc with button := false, buttonRun := 0 } })))

/-- In DETACH_REQUESTED a grant, by DETACH_ANSWER GRANT or by the grant timer with GRANT_DEFAULT GRANT, enters
QUIESCING with the quiesce mark and timer; a denial, by DETACH_ANSWER DENY or by the timer otherwise, returns to
ATTACHED. Each has its own DOCK record (R109 to R111). -/
def Obligations.GrantDecidesDetach : Prop :=
  ∀ (s : State) (n : Nat) (tag : Byte), s.dlc.state = .detachRequested → s.dlc.grantTimer = some n →
    let granted := { s.dlc with
      state := .quiescing, grantTimer := none, errors := 0, errTimer := none, identifyMark := false
      quiesceMark := some .quiesce, quiesceTimer := some s.params.quiesceTimeout.toNat }
    let denied := { s.dlc with state := .attached, grantTimer := none, identifyMark := false }
    let ok := { s with hlc := { s.hlc with response := some ⟨0xA1, tag, .ok, []⟩ } }
    (∃ t, exec .grantTimerExpiry s = .next t ∧
      if s.params.grantDefault = 1 then
        Transition s granted t ∧ firstPlaced (partRecord .dock [3, 5, 4, 0xFF, 0, 0]) s t
      else Transition s denied t ∧ firstPlaced (partRecord .dock [5, 3, 4, 0xFF, 0, 0]) s t) ∧
    (∃ t, exec (.detachAnswer tag 0) s = .next t ∧ Transition ok granted t
      ∧ firstPlaced (partRecord .dock [2, 5, 4, 0xFF, 0, 0]) s t) ∧
    (∃ t, exec (.detachAnswer tag 1) s = .next t ∧ Transition ok denied t
      ∧ firstPlaced (partRecord .dock [4, 3, 4, 0xFF, 0, 0]) s t)

/-- QUIESCING ends in RELEASING at a QUIESCED frame or at the quiesce timer's expiry, with the release window and
the latch drive in its delay, or with LATCH_DELAY 0 in its first period. RELEASING ends by the window's expiry
in ATTACHED, with the drive off, UNQUIESCE owed and a record RELOCKED with the periods. The latch delay's expiry
starts the first period, and each period's expiry the next, unless the release window expires at that moment:
LATCH_DRV active, the count one more, the period timer, and an on timer where the on time is below the period;
the on timer's expiry ends the pulse (R91, R111, R112, R114). -/
def Obligations.ReleaseAndRelock : Prop :=
  ∀ (s : State) (n : Nat),
    let period := s.params.latchPeriod.toNat
    let on := min s.params.latchOn.toNat period
    let freed := { s.dlc with
      state := .releasing, quiesceTimer := none, errors := 0, errTimer := none, identifyMark := false
      window := some s.params.releaseWindow.toNat }
    let driven := if s.params.latchDelay = 0 then { freed with
        latchPhase := .pulsing, latchCount := 1, latchDrv := true, latchPeriod := some period
        latchOn := if on < period then some on else none }
      else { freed with latchPhase := .delay, latchCount := 0, latchDelay := some s.params.latchDelay.toNat }
    (s.dlc.state = .quiescing → s.dlc.quiesceTimer = some n →
      (∃ t, exec .quiesceTimerExpiry s = .next t ∧ Transition s driven t
        ∧ firstPlaced (partRecord .dock [6, 6, 5, 3, 0, 0]) s t) ∧
      (s.dlc.rx = .hunt → ∃ t, exec (.dockFrameArrival 0 2 false []) s = .next t ∧ Transition s driven t
        ∧ firstPlaced (partRecord .dock [6, 6, 5, 2, 0, 0]) s t)) ∧
    (s.dlc.state = .releasing → s.dlc.window = some n →
      ∃ t, exec .releaseWindowExpiry s = .next t
        ∧ Transition s { s.dlc with
            state := .attached, window := none, latchPhase := .off, latchDrv := false, latchDelay := none
            latchPeriod := none, latchOn := none, identifyMark := false
            quiesceMark := some .unquiesce } t
        ∧ t.dlc.noticeMark = true
        ∧ firstPlaced (partRecord .dock ([7, 3, 6, 0xFF] ++ natBytes s.dlc.latchCount)) s t) ∧
    (s.dlc.latchDelay = some n → s.dlc.latchCount < 500 →
      exec .latchDelayExpiry s = .next (drivePins { s with dlc := { s.dlc with
        latchDelay := none, latchPhase := .pulsing, latchDrv := true, latchCount := s.dlc.latchCount + 1
        latchPeriod := some period, latchOn := if on < period then some on else none } })) ∧
    (s.dlc.latchPeriod = some n → s.dlc.window ≠ some 0 → s.dlc.latchCount < 500 →
      exec .latchPeriodExpiry s = .next (drivePins { s with dlc := { s.dlc with
        latchPhase := .pulsing, latchDrv := true, latchCount := s.dlc.latchCount + 1
        latchPeriod := some period, latchOn := if on < period then some on else none } })) ∧
    (s.dlc.latchPeriod = some n → s.dlc.window = some 0 →
      exec .latchPeriodExpiry s = .next (drivePins { s with dlc := { s.dlc with latchPeriod := none } })) ∧
    (s.dlc.latchOn = some n → exec .latchOnExpiry s = .next (drivePins { s with dlc := { s.dlc with
        latchDrv := false, latchOn := none } }))

/-- The dock state moves only along the transitions of the chapter Attach and Detach: from a state that meets the
dock state's invariant a command that is no reset and may carry none leaves the dock state, or takes one transition,
or, for a node 0 restart with a HELLO, two (R99, R103 to R116). -/
def Obligations.DockStateMovesAlongItsTable : Prop :=
  ∀ (c : Instr) (s t : State), dockInv s → exec c s = .next t →
    (∀ waited mosi, c ≠ .hostTransaction waited mosi) → (∀ tag, c ≠ .reset tag) → c ≠ .coldReset →
    c ≠ .warmResetPin →
    t.dlc.state = s.dlc.state ∨ (s.dlc.state, t.dlc.state) ∈ dockMoves
      ∨ ((∃ cls payload, c = .dockFrameArrival 0 cls true payload) ∨ (∃ b, c = .dockCharacter (lineBits b) false true))
        ∧ (s.dlc.state, DockState.identifying) ∈ dockMoves ∧ (.identifying, t.dlc.state) ∈ dockMoves

/-! ## Pen charging -/

/-- PEN_CONFIG with good codes and no set staged brings each field into its range, PERIOD before BURST, clears the
collision mark and answers OK for a set stored as sent and OK_CLAMPED otherwise. Outside OFF the set is staged;
in OFF it becomes the active set, and with ENABLE on SEARCHING begins with a first cycle, probed, without a burst
(R119 to R121, R124 to R127). -/
def Obligations.PenConfigPlacesSet : Prop :=
  ∀ (s : State) (tag enable : Byte) (period burst : Half)
    (taper resume keep absent progress session postures wake : Byte),
    enable.toNat ≤ 1 → wake.toNat ≤ 1 → s.pcc.staged = none →
    let full := max 50 (min 500 period.toNat)
    let set : PenSet := {
      enable := decide (enable = 1), period := full, burst := min (full - 7) burst.toNat
      taper := max 50 (min 99 taper.toNat), resume := max 50 (min 99 resume.toNat), keep := min 100 keep.toNat
      absent := max 1 (min 15 absent.toNat), progress := max 1 (min 60 progress.toNat)
      session := max 10 (min 240 session.toNat), postures := postures, wake := decide (wake = 1) }
    let asSent := set.period = period.toNat ∧ set.burst = burst.toNat ∧ set.taper = taper.toNat
      ∧ set.resume = resume.toNat ∧ set.keep = keep.toNat ∧ set.absent = absent.toNat
      ∧ set.progress = progress.toNat ∧ set.session = session.toNat
    let widest := if s.pcc.supply = .external ∨ s.dlc.state = .attached then set.burst else set.burst / 2
    let after := fun (p : Pcc) => answered 0xA8 tag (if asSent then .ok else .okClamped) [] { s with pcc := p }
    exec (.penConfig tag enable period burst taper resume keep absent progress session postures wake) s = .next (
      if s.pcc.state ≠ .off then after { s.pcc with staged := some set, collision := false }
      else if set.enable = false then after { s.pcc with active := set, collision := false }
      else after { s.pcc with
        active := set, collision := false, state := .searching, phase := .lead, cycleTimer := some set.period
        probed := true, probeTimer := some (set.period - 6), burstTimer := none, penDrv := false
        capture := Capture.empty
        width := match s.pcc.level with
          | some l => if set.taper ≤ l then widest / 2 else widest
          | none => widest })

/-- SUPPLY sets the class, is answered OK and re-evaluates allowance: a charge that stays allowed and the states
without allowance change nothing else; BATTERY_LOW in CHARGING pauses with its record, the burst and the progress
window stopped; a class that allows charging resumes an open session from PAUSED with its record and a new
progress window (R123, R129, R130). -/
def Obligations.SupplyReevaluatesAllowance : Prop :=
  ∀ (s : State) (tag arg : Byte) (c : Supply),
    (arg = 0 ∧ c = .external ∨ arg = 1 ∧ c = .battery ∨ arg = 2 ∧ c = .batteryLow) →
    let ok := { s with hlc := { s.hlc with response := some ⟨0xA9, tag, .ok, []⟩ } }
    let may := maskHas s.pcc.active.postures s.posture = true ∧ c ≠ .batteryLow
      ∧ (s.sdu.sleep = .standby → ∃ l, s.pcc.level = some l ∧ l < s.pcc.active.keep)
    (s.pcc.state ∈ [.off, .searching, .detected, .fault] ∨ (s.pcc.state = .charging ∧ may)
        ∨ (s.pcc.state ∈ [.paused, .full] ∧ ¬ may) →
      exec (.supply tag arg) s = .next (answered 0xA9 tag .ok [] { s with pcc := { s.pcc with supply := c } })) ∧
    (s.pcc.state = .charging → ¬ may → ∃ t, exec (.supply tag arg) s = .next t ∧ placesLast
      (partRecord .pen ([2, 4, 3, optByte s.pcc.level] ++ natBytes s.pcc.seconds ++ halfBytes s.pcc.sessions
        ++ [0xFF]))
      { ok with pcc := { s.pcc with
          supply := c, state := .paused, burstTimer := none, progressTimer := none, limitDue := false
          penDrv := s.pcc.penDrv && s.pcc.burstTimer.isNone } } t) ∧
    (s.pcc.state = .paused → s.pcc.sessionOpen = true → may → ∃ t, exec (.supply tag arg) s = .next t ∧ placesLast
      (partRecord .pen ([3, 3, 4, optByte s.pcc.level] ++ natBytes s.pcc.seconds ++ halfBytes s.pcc.sessions
        ++ [0xFF]))
      { ok with pcc := { s.pcc with
          supply := c, state := .charging, baseline := s.pcc.level
          progressTimer := some (s.pcc.active.progress * 60000) } } t)

/-- The cycle. At every cycle's end, probed or silent, a staged set becomes active: the charger is OFF, or the next
cycle runs under it. At an end that changes nothing before the next start, by a reply that brings nothing or in a
silent cycle, also one in which allowance made the state CHARGING (the model's choice, log entry 28), this is the whole
effect: with no set staged the next cycle begins with the active PERIOD, in FULL silent but for every eighth, elsewhere
probed, and in CHARGING with a burst of the effective width where that is above 0. A staged set with ENABLE off stops
the charger with its OFF record and keeps the last level (DEDUCED, log entry 22). One with ENABLE on has allowance and
limit judged by it and the next cycle begun under it: a charge that it no longer allows pauses, a paused session that
it allows resumes, a session time at or above its limit fails the charge, and elsewhere no record is placed. The two
statements after this one bring the ends at which a decode changes something to this form, with a set staged or none.
Within a cycle the burst timer ends the burst, the probe pulse lasts 1 ms, and the listen interval takes the first
rising edge and the count of whole 10 µs steps to the first falling edge after it, or the overflow mark; an edge to the
level that the pin has, or named at 5000 µs or later, is not captured (the model's choice, log entry 10) (R122, R124 to
R127, R129, R130, R135). -/
def Obligations.PenCycleRuns : Prop :=
  ∀ (s : State) (n r at_ : Nat) (x : PenSet),
    let p := s.pcc
    let started := fun (q : Pcc) =>
      let widest := if q.supply = .external ∨ s.dlc.state = .attached then q.active.burst else q.active.burst / 2
      let w := match q.level with
        | some l => if q.active.taper ≤ l then widest / 2 else widest
        | none => widest
      let silent := q.state = .full ∧ q.silentCycles < 7
      let bursts := q.state = .charging ∧ 0 < w
      { q with
        phase := .lead, cycleTimer := some q.active.period, probed := decide (¬ silent)
        silentCycles := if q.state = .full then (if q.silentCycles < 7 then q.silentCycles + 1 else 0)
          else q.silentCycles
        probeTimer := if silent then none else some (q.active.period - 6)
        width := w, burstTimer := if bursts then some w else none, penDrv := decide bursts
        capture := Capture.empty }
    let becomes := fun (c : Instr) (q : Pcc) => exec c s = .next (drivePins { s with pcc := q })
    let record := fun (event new cause : Byte) =>
      partRecord .pen ([event, new, p.state.code, optByte p.level] ++ natBytes p.seconds ++ halfBytes p.sessions
        ++ [cause])
    (p.cycleTimer = some n → p.staged = some x → p.state ≠ .off → ∃ t, exec .penCycleEnd s = .next t ∧ Beyond s t
      ∧ t.pcc.active = x ∧ t.pcc.staged = none ∧ t.pcc.collision = p.collision ∧ t.pcc.supply = p.supply
      ∧ (if x.enable then t.pcc.state ≠ .off ∧ t.pcc.cycleTimer = some x.period
        else t.pcc.state = .off ∧ t.pcc.cycleTimer = none ∧ t.pcc.penDrv = false ∧ t.pcc.sessionOpen = false)) ∧
    (p.cycleTimer = some n → endsQuietly s → p.staged = none → p.state ≠ .off →
      becomes .penCycleEnd (started p)) ∧
    (p.cycleTimer = some n → endsQuietly s → p.staged = some x → x.enable = false →
      ∃ t, exec .penCycleEnd s = .next t ∧ placesLast (record 7 0 2)
        { s with pcc := { p with
            active := x, staged := none, state := .off, sessionOpen := false
            lastEnd := if p.sessionOpen then .disabled else p.lastEnd
            millis := 0, limitDue := false, cycleTimer := none, phase := .stopped, probeTimer := none
            burstTimer := none, width := 0, probed := false, silentCycles := 0, silentProbes := 0, baseline := none
            progressTimer := none, capture := Capture.empty, penDrv := false } } t) ∧
    (p.cycleTimer = some n → endsQuietly s → p.staged = some x → x.enable = true → p.limitDue = false →
      let q := { p with active := x, staged := none }
      let may := mayCharge s q
      let spent := x.session * 60000 ≤ p.seconds * 1000 + p.millis
      (p.state ∈ [.searching, .detected, .fault] ∨ (p.state = .charging ∧ may ∧ ¬ spent)
          ∨ (p.state ∈ [.paused, .full] ∧ ¬ may) → becomes .penCycleEnd (started q)) ∧
      (p.state = .charging → ¬ may → ¬ spent → ∃ t, exec .penCycleEnd s = .next t ∧ placesLast (record 2 4 0xFF)
        { s with pcc := started { q with state := .paused, progressTimer := none } } t) ∧
      (p.state = .paused → p.sessionOpen = true → may → ¬ spent →
        ∃ t, exec .penCycleEnd s = .next t ∧ placesLast (record 3 3 0xFF) { s with pcc := started { q with
          state := .charging, baseline := p.level, progressTimer := some (x.progress * 60000) } } t) ∧
      (p.state = .charging → may → spent → ∃ t, exec .penCycleEnd s = .next t ∧ Beyond s t
        ∧ t.pcc = started { q with
            state := .fault, sessionOpen := false, progressTimer := none
            lastEnd := if p.sessionOpen then .sessionLimit else p.lastEnd }
        ∧ t.hlc.faults[4] = ⟨true, min 255 (s.hlc.faults[4].count + 1)⟩ ∧ firstPlaced (record 6 6 1) s t)) ∧
    (p.burstTimer = some n → becomes .burstTimerExpiry { p with burstTimer := none, penDrv := false }) ∧
    (p.phase = .lead → p.probed = true →
      becomes .probeStart { p with phase := .probe, penDrv := true, probeTimer := some 1 }) ∧
    (p.phase = .probe → becomes .probeEnd { p with
      phase := .listen, penDrv := false, probeTimer := none, capture := Capture.empty }) ∧
    (p.penRx = false → p.phase = .listen → at_ < 5000 → p.capture.rise = none →
      becomes (.penRxEdge true at_) { p with penRx := true, capture := { p.capture with rise := some at_ } }) ∧
    (p.penRx = true → p.phase = .listen → at_ < 5000 → p.capture = ⟨some r, none, false⟩ → r ≤ at_ →
      becomes (.penRxEdge false at_) { p with
        penRx := false
        capture := if at_ < r + 2560 then ⟨some r, some ((at_ - r) / 10), false⟩ else ⟨some r, none, true⟩ }) ∧
    (∀ high : Bool,
      (p.penRx = high → becomes (.penRxEdge high at_) p) ∧
      (p.phase ≠ .listen ∨ 5000 ≤ at_ ∨ p.capture.count.isSome = true ∧ p.capture.rise.isSome = true →
        becomes (.penRxEdge high at_) { p with penRx := high })) ∧
    (p.phase = .listen → p.capture.rise.isSome = true → p.capture.count = none →
      becomes .captureOverflow { p with capture := { p.capture with overflow := true } })

/-- The decode at the end of a probed cycle, with a set staged or none: it comes first, and what follows it, the staged
set's becoming active and the next cycle's start, is what follows the end of a silent cycle at which the charger stands
as the decode leaves it. A reply that brings no record changes the level, the pen state and the count of silent probes
as its rule says: a first valid reply in SEARCHING detects the pen; no reply or an invalid one in DETECTED searches
again with the last level NONE (R131; of the invalid one R128 says otherwise: DEDUCED, log entry 29); in SEARCHING both
change nothing. In FAULT, FULL, and below 100 in CHARGING and PAUSED, a valid reply writes its level and ends the count
of silent probes; no reply below ABSENT_LIMIT is only counted, and an invalid one changes nothing, where allowance then
leaves the state. Where a level moves allowance, as KEEP_LEVEL does in STANDBY, a charge pauses and a paused session
resumes, and in FULL a valid reply at or below RESUME_LEVEL with charging allowed opens a new session, each with its
record (R122, R124, R127 to R133, R136, R137). -/
def Obligations.PenDecodesReply : Prop :=
  ∀ (s : State) (n c : Nat), s.pcc.cycleTimer = some n → s.pcc.probed = true →
    let p := s.pcc
    let valid := p.capture.valid c
    let silent := p.capture.rise = none
    let invalid := p.capture.invalid
    let goesOn := fun (q : Pcc) => ∃ t, exec .penCycleEnd s = .next t
      ∧ exec .penCycleEnd { s with pcc := { q with probed := false } } = .next t
    let goesOnWith := fun (r : Record) (q : Pcc) => hasRoom 1 s → ∃ t, exec .penCycleEnd s = .next t
      ∧ exec .penCycleEnd (lodge [r] { s with pcc := { q with probed := false } }) = .next t
    let record := fun (event new : Byte) =>
      partRecord .pen ([event, new, p.state.code, natByte (c - 20)] ++ natBytes p.seconds ++ halfBytes p.sessions
        ++ [0xFF])
    let heard := { p with level := some (c - 20), silentProbes := 0 }
    let counted := { p with silentProbes := p.silentProbes + 1 }
    (p.state = .searching → valid → goesOn { p with level := some (c - 20), state := .detected }) ∧
    (p.state = .searching → silent ∨ invalid → goesOn p) ∧
    (p.state = .detected → silent ∨ invalid → goesOn { p with level := none, state := .searching }) ∧
    (valid → chargeRests s heard → (c < 120 ∨ p.state = .full ∨ p.state = .fault) → goesOn heard) ∧
    (invalid → chargeRests s p → goesOn p) ∧
    (silent → chargeRests s p → p.silentProbes < 15 → p.silentProbes + 1 < p.active.absent → goesOn counted) ∧
    (p.state = .charging → valid → c < 120 → ¬ mayCharge s heard →
      goesOnWith (record 2 4) { heard with
        state := .paused, burstTimer := none, penDrv := p.penDrv && p.burstTimer.isNone, progressTimer := none
        limitDue := false }) ∧
    (p.state = .paused → p.sessionOpen = true → valid → c < 120 → mayCharge s heard →
      goesOnWith (record 3 3) { heard with
        state := .charging, baseline := some (c - 20), progressTimer := some (p.active.progress * 60000) }) ∧
    (p.state = .full → valid → mayCharge s heard → c - 20 ≤ p.active.resume →
      let opened := { heard with
        state := .charging, sessions := p.sessions + 1, seconds := 0, millis := 0, sessionOpen := true
        baseline := some (c - 20), progressTimer := some (p.active.progress * 60000) }
      (∃ t, exec .penCycleEnd s = .next t ∧ Beyond s t ∧ (p.staged = none → t.pcc.state = .charging
        ∧ t.pcc.sessions = p.sessions + 1 ∧ t.pcc.sessionOpen = true ∧ t.pcc.level = some (c - 20)
        ∧ t.pcc.seconds = 0 ∧ t.pcc.millis = 0 ∧ t.pcc.silentProbes = 0)) ∧
      goesOnWith
        (partRecord .pen ([1, 3, 5, natByte (c - 20)] ++ natBytes 0 ++ halfBytes (p.sessions + 1) ++ [0xFF])) opened)

/-- The decodes that dock, fill and remove the pen, where level 100 is met with RESUME_LEVEL below it (R119). The
second valid reply docks the pen: at 100 FULL, else CHARGING with a new session where charging is allowed, else PAUSED,
with DOCKED and, where a session opens, CHARGE_STARTED behind it, and it is activity. A level of 100 in CHARGING or
PAUSED closes the session in FULL. The silence that brings the count to ABSENT_LIMIT removes the pen: SEARCHING without
level, with activity and, with PEN_WAKE, the wake reason for a part that sleeps (R128, R130 to R133, R137, R138, R142,
R153 to R155; log entry 14). With a set staged or none, and with room for the decode's records, what follows is what
follows the end of a silent cycle at which the part stands as the decode leaves it: there the staged set becomes
active, and the next cycle starts (R122, R124). -/
def Obligations.PenDocksFillsAndLeaves : Prop :=
  ∀ (s : State) (n c : Nat), s.pcc.cycleTimer = some n → s.pcc.probed = true →
    let p := s.pcc
    let valid := p.capture.valid c
    let record := fun (event new old level cause : Byte) (sessions : Half) (seconds : Nat) =>
      partRecord .pen ([event, new, old, level] ++ natBytes seconds ++ halfBytes sessions ++ [cause])
    let may := maskHas p.active.postures s.posture = true ∧ p.supply ≠ .batteryLow
    let goesOn := fun (rs : List Record) (q : Pcc) (u : Sdu) => hasRoom rs.length s →
      ∃ t, exec .penCycleEnd s = .next t
        ∧ exec .penCycleEnd (lodge rs { s with pcc := { q with probed := false }, sdu := u }) = .next t
    let docked := { p with level := some (c - 20), silentProbes := 0, silentCycles := 0 }
    let left := { p with
      silentProbes := 0, sessionOpen := false, progressTimer := none, limitDue := false, burstTimer := none
      penDrv := p.penDrv && p.burstTimer.isNone }
    let stirred := s.sdu.stirred s.params
    let level := natByte (c - 20)
    (p.state = .detected → valid → (c = 120 → p.active.resume < 100) →
      (c = 120 →
        goesOn (record 0 5 2 100 0xFF p.sessions p.seconds :: resumeVerdict s) { docked with state := .full } stirred) ∧
      (c < 120 → mayCharge s docked →
        goesOn (record 0 3 2 level 0xFF p.sessions p.seconds :: record 1 3 2 level 0xFF (p.sessions + 1) 0
            :: resumeVerdict s)
          { docked with
            state := .charging, sessions := p.sessions + 1, seconds := 0, millis := 0, sessionOpen := true
            baseline := some (c - 20), progressTimer := some (p.active.progress * 60000) } stirred) ∧
      (c < 120 → ¬ mayCharge s docked →
        goesOn (record 0 4 2 level 0xFF p.sessions p.seconds :: resumeVerdict s) { docked with state := .paused }
          stirred)) ∧
    (p.state = .charging ∨ p.state = .paused → valid → c = 120 → p.active.resume < 100 →
      goesOn [record 4 5 p.state.code 100 0xFF p.sessions p.seconds]
        { left with
          level := some 100, silentCycles := 0, state := .full
          lastEnd := if p.sessionOpen then .full else p.lastEnd } s.sdu) ∧
    (p.state ∈ [.charging, .paused, .full, .fault] → p.capture.rise = none → p.silentProbes < 15 →
      p.active.absent ≤ p.silentProbes + 1 →
      goesOn (record 5 1 p.state.code 0xFF 0xFF p.sessions p.seconds :: resumeVerdict s
          ++ if p.active.wake then wakeVerdict .penRemoved s else [])
        { left with
          level := none, state := .searching, lastEnd := if p.sessionOpen then .removed else p.lastEnd }
        (if p.active.wake then stirred.told .penRemoved s.params.wakeGather.toNat else stirred)) ∧
    (p.staged = none → p.state = .detected → valid → s.sdu.sleep ≠ .standby → (c = 120 → p.active.resume < 100) →
      ∃ t, exec .penCycleEnd s = .next t ∧ Beyond s t ∧ t.pcc.level = some (c - 20) ∧ t.pcc.silentProbes = 0
        ∧ t.pcc.cycleTimer = some p.active.period ∧ t.pcc.active = p.active ∧ t.pcc.supply = p.supply
        ∧ (if c = 120 then
            t.pcc.state = .full ∧ t.pcc.sessions = p.sessions ∧ t.pcc.sessionOpen = p.sessionOpen
              ∧ firstPlaced (record 0 5 2 100 0xFF p.sessions p.seconds) s t
          else if may then
            t.pcc.state = .charging ∧ t.pcc.sessions = p.sessions + 1 ∧ t.pcc.sessionOpen = true
              ∧ t.pcc.seconds = 0 ∧ t.pcc.millis = 0 ∧ t.pcc.baseline = some (c - 20)
              ∧ t.pcc.progressTimer = some (p.active.progress * 60000)
              ∧ (hasRoom 2 s → ∃ more, t.rqu.urgent = s.rqu.urgent ++ stampAll s.time s.rqu.urgentGap
                [record 0 3 2 (natByte (c - 20)) 0xFF p.sessions p.seconds,
                  record 1 3 2 (natByte (c - 20)) 0xFF (p.sessions + 1) 0] ++ more)
          else
            t.pcc.state = .paused ∧ t.pcc.sessions = p.sessions ∧ t.pcc.sessionOpen = p.sessionOpen
              ∧ firstPlaced (record 0 4 2 (natByte (c - 20)) 0xFF p.sessions p.seconds) s t)) ∧
    (p.staged = none → p.state = .charging ∨ p.state = .paused → valid → c = 120 → p.active.resume < 100 →
      ∃ t, exec .penCycleEnd s = .next t ∧ Beyond s t ∧ t.pcc.level = some 100 ∧ t.pcc.state = .full
        ∧ t.pcc.sessionOpen = false ∧ t.pcc.lastEnd = (if p.sessionOpen then .full else p.lastEnd)
        ∧ t.pcc.seconds = p.seconds ∧ t.pcc.sessions = p.sessions ∧ t.pcc.progressTimer = none
        ∧ t.pcc.penDrv = false ∧ firstPlaced (record 4 5 p.state.code 100 0xFF p.sessions p.seconds) s t) ∧
    (p.staged = none → p.state ∈ [.charging, .paused, .full, .fault] → p.capture.rise = none →
      p.silentProbes < 15 → p.active.absent ≤ p.silentProbes + 1 →
      ∃ t, exec .penCycleEnd s = .next t ∧ Beyond s t ∧ t.pcc.level = none ∧ t.pcc.state = .searching
        ∧ t.pcc.silentProbes = 0 ∧ t.pcc.sessionOpen = false
        ∧ t.pcc.lastEnd = (if p.sessionOpen then .removed else p.lastEnd)
        ∧ t.pcc.sessions = p.sessions ∧ t.pcc.progressTimer = none
        ∧ firstPlaced (record 5 1 p.state.code 0xFF 0xFF p.sessions p.seconds) s t
        ∧ (s.sdu.sleep = .standby → p.active.wake = true → t.sdu.sleep = .waking))

/-- The progress window's expiry: a level above the baseline starts the window anew with that level as its
baseline and changes nothing else, any level being above a baseline of NONE (the model's choice, log entry 21);
otherwise the session closes with NO_PROGRESS in FAULT, with its record and PEN_FAULT. In CHARGING the session limit
closes the session in FAULT in the same way with SESSION_LIMIT. A millisecond in CHARGING adds 1 ms to session time;
the one that reaches the limit is due first and counted by the session limit, so that a loss of allowance taken
before it leaves session time just short. Elsewhere session time stands still (R126, R132, R134, R135). -/
def Obligations.ProgressAndLimitEndSessions : Prop :=
  ∀ (s : State) (n : Nat),
    let p := s.pcc
    let progress := ∃ l, p.level = some l ∧ ∀ b, p.baseline = some b → b < l
    let later := if p.millis < 999 then { p with millis := p.millis + 1 }
      else { p with seconds := p.seconds + 1, millis := 0 }
    let fails := fun (p : Pcc) (ended : EndCause) (cause : Byte) (t : State) =>
      t.pcc = { p with
        state := .fault, sessionOpen := false, lastEnd := if p.sessionOpen then ended else p.lastEnd
        progressTimer := none, limitDue := false, burstTimer := none, penDrv := p.penDrv && p.burstTimer.isNone }
      ∧ Beyond s t ∧ t.hlc.faults[4] = ⟨true, min 255 (s.hlc.faults[4].count + 1)⟩
      ∧ firstPlaced (partRecord .pen ([6, 6, p.state.code, optByte p.level] ++ natBytes p.seconds
          ++ halfBytes p.sessions ++ [cause])) s t
    (p.progressTimer = some n → progress → exec .progressWindowExpiry s = .next (drivePins { s with pcc :=
      { p with baseline := p.level, progressTimer := some (p.active.progress * 60000) } })) ∧
    (p.progressTimer = some n → ¬ progress →
      ∃ t, exec .progressWindowExpiry s = .next t ∧ fails p .noProgress 0 t) ∧
    (p.state = .charging → ∃ t, exec .sessionLimit s = .next t
      ∧ fails (if p.limitDue then later else p) .sessionLimit 1 t) ∧
    (s.pending = [] → due s = none → ∃ t, step s = .next t ∧ t.pcc.state = p.state
      ∧ (p.state = .charging → p.seconds * 1000 + p.millis + 1 < p.active.session * 60000 →
          t.pcc.seconds = later.seconds ∧ t.pcc.millis = later.millis ∧ t.pcc.limitDue = p.limitDue)
      ∧ (p.state = .charging → p.active.session * 60000 ≤ p.seconds * 1000 + p.millis + 1 →
          t.pcc.limitDue = true ∧ t.pcc.seconds = p.seconds ∧ t.pcc.millis = p.millis)
      ∧ (p.state ≠ .charging → t.pcc.limitDue = p.limitDue ∧ t.pcc.seconds = p.seconds ∧ t.pcc.millis = p.millis))

/-! ## Sleep decisions -/

/-- HOST_STATE. STANDBY from ACTIVE, DROWSY or SLEEP_ADVISED flushes the stage once, starts suppression, stops the
idle timer, drops the advice, pauses a charge at or above KEEP_LEVEL and owes an attached base a notice; only a
lost record whose fault wakes may carry it on to WAKING at once. From WAKING it ends the gather. RUNNING in
ACTIVE restarts the idle timer and changes nothing else; from DROWSY and SLEEP_ADVISED it resumes with its
verdict; from STANDBY and WAKING it ends gather and suppression (R91, R129, R142, R143, R149 to R152, R172). -/
def Obligations.HostStateSleepsAndWakes : Prop :=
  ∀ (s : State) (tag : Byte),
    let ok := { s with hlc := { s.hlc with response := some ⟨0xB0, tag, .ok, []⟩ } }
    let dim := if s.params.idleDim.toNat < s.params.idleSleep.toNat then some (s.params.idleDim.toNat * 1000) else none
    let restarted := { s.sdu with
      sleepMark := false, sleepTimer := some (s.params.idleSleep.toNat * 1000), dimTimer := dim }
    let k := min s.rqu.stage.length (96 - s.rqu.bulk.length)
    (s.sdu.sleep ∈ [.active, .drowsy, .sleepAdvised] →
      ∃ t, exec (.hostState tag 0) s = .next t ∧ Beyond ok t
        ∧ (t.sdu.sleep = .standby
          ∨ (t.sdu.sleep = .waking ∧ s.params.severity .urgentLoss = .wake ∧ 32 ≤ t.rqu.urgent.length))
        ∧ t.sdu.advised = .none ∧ t.sdu.dimTimer = none ∧ t.sdu.sleepTimer = none ∧ t.sdu.sleepMark = false
        ∧ t.sdu.holds = s.sdu.holds
        ∧ t.rqu.bulk = s.rqu.bulk ++ s.rqu.stage.take k ∧ t.rqu.stage = s.rqu.stage.drop k
        ∧ t.rqu.suppressed = true ∧ t.rqu.flushTimer = none
        ∧ (s.dlc.state = .attached ∨ s.dlc.state = .detachRequested → t.dlc.noticeMark = true)
        ∧ (t.sdu.sleep = .standby → s.pcc.state = .charging →
          (∀ l, s.pcc.level = some l → s.pcc.active.keep ≤ l) → t.pcc.state = .paused)) ∧
    (s.sdu.sleep = .waking → ∃ t, exec (.hostState tag 0) s = .next t ∧ Beyond ok t
      ∧ (t.sdu.sleep = .standby ∧ t.sdu.gatherTimer = none ∧ t.sdu.wakeList = []
        ∨ t.sdu.sleep = .waking ∧ s.params.severity .urgentLoss = .wake ∧ 32 ≤ t.rqu.urgent.length)
      ∧ t.rqu.suppressed = s.rqu.suppressed ∧ t.rqu.stage = s.rqu.stage ∧ t.rqu.bulk = s.rqu.bulk) ∧
    (s.sdu.sleep = .standby → exec (.hostState tag 0) s = .next (answered 0xB0 tag .ok [] s)) ∧
    (s.sdu.sleep = .active → exec (.hostState tag 1) s = .next (answered 0xB0 tag .ok [] { s with sdu := restarted })) ∧
    (s.sdu.sleep ∈ [.drowsy, .sleepAdvised] → ∃ t, exec (.hostState tag 1) s = .next t ∧ Beyond ok t
      ∧ t.sdu = { restarted with sleep := .active, advised := .none }
      ∧ firstPlaced (partRecord .verdict [natByte (holdCount s) <<< 4, 2, 0xFF, 0, s.sdu.sleep.code]) s t) ∧
    (s.sdu.sleep ∈ [.standby, .waking] → ∃ t, exec (.hostState tag 1) s = .next t ∧ Beyond ok t
      ∧ t.sdu = { restarted with sleep := .active, advised := .none, gatherTimer := none, wakeList := [] }
      ∧ t.rqu.suppressed = false ∧ t.rqu.stage = s.rqu.stage ∧ t.rqu.bulk = s.rqu.bulk
      ∧ t.rqu.flushTimer = (if s.rqu.stage = [] then s.rqu.flushTimer else some s.params.flushTime.toNat)
      ∧ (s.dlc.state = .attached ∨ s.dlc.state = .detachRequested → t.dlc.noticeMark = true))

/-- The idle timer and the gather. The dim timer's expiry in ACTIVE gives DIM and DROWSY, and elsewhere only stops
the timer; the sleep timer's expiry sets the sleep mark, and in ACTIVE or DROWSY with no slot claimed advises
SLEEP for IDLE. The gather timer's expiry places the WAKE verdict with the reasons in the order of their arrival
and empties the list (R143 to R145, R156 to R158). -/
def Obligations.IdleTimersAdviseAndGatherEnds : Prop :=
  ∀ (s : State) (n : Nat),
    let free := ∀ i : Fin 8, s.sdu.holds[i] = none
    let held := natByte (holdCount s) <<< 4
    (s.sdu.dimTimer = some n →
      (s.sdu.sleep = .active → ∃ t, exec .dimTimerExpiry s = .next t ∧ Beyond s t
        ∧ t.sdu = { s.sdu with dimTimer := none, sleep := .drowsy }
        ∧ firstPlaced (partRecord .verdict [held, 0, 0xFF, 1, 0]) s t) ∧
      (s.sdu.sleep ≠ .active →
        exec .dimTimerExpiry s = .next (drivePins { s with sdu := { s.sdu with dimTimer := none } }))) ∧
    (s.sdu.sleepTimer = some n →
      (s.sdu.sleep = .active ∨ s.sdu.sleep = .drowsy → free → ∃ t, exec .sleepTimerExpiry s = .next t ∧ Beyond s t
        ∧ t.sdu = { s.sdu with sleepTimer := none, sleepMark := true, sleep := .sleepAdvised, advised := .idle }
        ∧ firstPlaced (partRecord .verdict [0, 1, 0, 2, s.sdu.sleep.code]) s t) ∧
      (s.sdu.sleep ∉ [.active, .drowsy] ∨ ¬ free → exec .sleepTimerExpiry s
        = .next (drivePins { s with sdu := { s.sdu with sleepTimer := none, sleepMark := true } }))) ∧
    (s.sdu.gatherTimer = some n → ∃ t, exec .gatherTimerExpiry s = .next t ∧ placesLast
      (partRecord .verdict ((natByte s.sdu.wakeList.length ||| held) :: s.sdu.wakeList.map (·.code)))
      { s with sdu := { s.sdu with wakeList := [], gatherTimer := none } } t)

/-- The Hold Slots. An accepted claim fills its slot with a timer of its lifetime in seconds, none for 0; in
SLEEP_ADVISED a claim that blocks the advice resumes ACTIVE. A release by its owner and an expiry free the slot,
the expiry with its record; where the slot freed was the last that held back an advice, SLEEP is advised for LID
before IDLE, and where none is held back nothing else changes (R147, R148, R158 to R161). -/
def Obligations.HoldsAreClaimedAndFreed : Prop :=
  ∀ (s : State) (tag slot cls owner : Byte) (lifetime : Half) (h : slot.toNat < 8),
    let x : Hold := {
      cls := if cls = 0 then .idle else .full, owner := owner, lifetime := lifetime
      timer := if lifetime = 0 then none else some (lifetime.toNat * 1000) }
    let claimed := { s.sdu with holds := s.sdu.holds.set slot.toNat (some x) h }
    let freed := { s.sdu with holds := s.sdu.holds.set slot.toNat none h }
    let noneLeft := ∀ i : Fin 8, freed.holds[i] = none
    let noFullLeft := ∀ (i : Fin 8) (y : Hold), freed.holds[i] = some y → y.cls = .idle
    let awake := s.sdu.sleep = .active ∨ s.sdu.sleep = .drowsy
    let lid := awake ∧ noFullLeft ∧ s.posture = .closed
    let idle := awake ∧ ¬ (noFullLeft ∧ s.posture = .closed) ∧ noneLeft ∧ s.sdu.sleepMark = true
    let held := natByte (holdCount { s with sdu := freed }) <<< 4
    (cls.toNat ≤ 1 → owner ≠ 0 → s.sdu.holds[slot.toNat] = none →
      let blocks := s.sdu.sleep = .sleepAdvised ∧ (s.sdu.advised = .idle ∨ (s.sdu.advised = .lidClosed ∧ cls = 1))
      (¬ blocks → exec (.holdClaim tag slot cls owner lifetime) s
        = .next (answered 0xB1 tag .ok [] { s with sdu := claimed })) ∧
      (blocks → ∃ t, exec (.holdClaim tag slot cls owner lifetime) s = .next t
        ∧ t.hlc.response = some ⟨0xB1, tag, .ok, []⟩ ∧ t.time = s.time ∧ t.params = s.params ∧ t.pse = s.pse
        ∧ t.sdu = { claimed with sleep := .active, advised := .none }
        ∧ firstPlaced (partRecord .verdict [natByte (holdCount s + 1) <<< 4, 2, 0xFF, 0, 2]) s t)) ∧
    (∀ y, s.sdu.holds[slot.toNat] = some y → owner ≠ 0 → y.owner = owner →
      (¬ lid → ¬ idle → exec (.holdRelease tag slot owner) s
        = .next (answered 0xB2 tag .ok [] { s with sdu := freed })) ∧
      (lid ∨ idle → ∃ t, exec (.holdRelease tag slot owner) s = .next t
        ∧ t.hlc.response = some ⟨0xB2, tag, .ok, []⟩ ∧ t.time = s.time ∧ t.params = s.params ∧ t.pse = s.pse
        ∧ (lid → t.sdu = { freed with sleep := .sleepAdvised, advised := .lidClosed }
          ∧ firstPlaced (partRecord .verdict [held, 1, 1, 2, s.sdu.sleep.code]) s t)
        ∧ (idle → t.sdu = { freed with sleep := .sleepAdvised, advised := .idle }
          ∧ firstPlaced (partRecord .verdict [0, 1, 0, 2, s.sdu.sleep.code]) s t))) ∧
    (∀ y n, s.sdu.holds[slot.toNat] = some y → y.timer = some n →
      let record := partRecord .hold ([0, slot, y.cls.code, y.owner] ++ halfBytes y.lifetime)
      ∃ t, exec (.holdExpiry ⟨slot.toNat, h⟩) s = .next t
        ∧ (¬ lid → ¬ idle → placesLast record { s with sdu := freed } t)
        ∧ (lid ∨ idle → Beyond s t ∧ firstPlaced record s t)
        ∧ (lid → t.sdu = { freed with sleep := .sleepAdvised, advised := .lidClosed })
        ∧ (idle → t.sdu = { freed with sleep := .sleepAdvised, advised := .idle }))

/-! ## Report queue -/

/-- An accepted DRAIN takes records from the front of the lanes it names, URGENT first, BULK for BOTH only once no
URGENT record is left, up to its count and up to 508 bytes beside the summary, and as many as these allow. The
answer carries their number, what is left in each lane, the notify condition after the removal and the records'
bytes. With no frame stalled nothing else changes; the removal of an URGENT record lets a stalled frame of an
unpaired entry in, behind the records that stay (R173, R174). -/
def Obligations.DrainTakesFromTheFront : Prop :=
  ∀ (s : State) (tag count lane : Byte), 1 ≤ count.toNat → count.toNat ≤ 16 → lane.toNat ≤ 2 →
    ∃ (n m : Nat) (payload : List Byte) (t : State),
      let u := s.rqu.urgent.take n
      let b := s.rqu.bulk.take m
      let left := { s with rqu := { s.rqu with urgent := s.rqu.urgent.drop n, bulk := s.rqu.bulk.drop m } }
      let size := fun (l : List Record) => (l.map (fun r => r.bytes.length)).sum
      exec (.drain tag count lane) s = .next t
      ∧ n ≤ s.rqu.urgent.length ∧ m ≤ s.rqu.bulk.length ∧ n + m ≤ count.toNat ∧ size (u ++ b) ≤ 508
      ∧ (lane = 0 → m = 0) ∧ (lane = 1 → n = 0) ∧ (lane = 2 → m ≠ 0 → n = s.rqu.urgent.length)
      ∧ (lane ≠ 1 → ∀ r rest, s.rqu.urgent.drop n = r :: rest → n + m < count.toNat → 508 < size (u ++ b ++ [r]))
      ∧ (lane ≠ 0 → (lane = 1 ∨ n = s.rqu.urgent.length) → ∀ r rest, s.rqu.bulk.drop m = r :: rest →
          n + m < count.toNat → 508 < size (u ++ b ++ [r]))
      ∧ payload = [natByte (n + m), natByte left.rqu.urgent.length, natByte left.rqu.bulk.length,
          boolByte (notify left)] ++ (u ++ b).flatMap Record.bytes
      ∧ t.hlc.response = some ⟨0xB8, tag, .ok, payload⟩
      ∧ (s.tcl.stall = none ∨ n = 0 → t = answered 0xB8 tag .ok payload left)
      ∧ (∀ st f rest, s.tcl.stall = some st → s.dlc.buffer = f :: rest → n ≠ 0 → s.rqu.urgent.length ≤ 32 →
          s.tcl.routes[st.entry].effective = .forward → s.tcl.routes[st.entry].paired = false →
          (forwardedCount left.rqu.urgent < 24 → t = answered 0xB8 tag .ok payload { left with
            tcl := { s.tcl with stall := none }
            dlc := { s.dlc with buffer := rest }
            rqu := { left.rqu with
              urgent := left.rqu.urgent ++ [⟨.fwd, .urgent, f.source.setWidth 8, f.cls.setWidth 8, s.time,
                s.rqu.urgentGap, f.payload, true⟩]
              urgentGap := 0 } }) ∧
          (24 ≤ forwardedCount left.rqu.urgent → t = answered 0xB8 tag .ok payload left))

/-! ## What every step keeps -/

/-- Every step keeps the Report Queue's and the sleep state's invariant. -/
def Obligations.QueueInvariantKept : Prop :=
  ∀ s t : State, queueInv s → dockInv s → penInv s → trafficInv s → step s = .next t → queueInv t

/-- Every step keeps the dock state's invariant, with SLATE forced exactly in the four states of R36. -/
def Obligations.DockInvariantKept : Prop :=
  ∀ s t : State, queueInv s → dockInv s → penInv s → trafficInv s → step s = .next t → dockInv t

/-- Every step keeps the charger's invariant: no burst without CHARGING, and no CHARGING without allowance, so
that the pen is never charged in a posture outside the active mask (R126, R129). -/
def Obligations.PenInvariantKept : Prop :=
  ∀ s t : State, queueInv s → dockInv s → penInv s → trafficInv s → step s = .next t → penInv t

/-- Every step keeps the classifier's invariant: keys unique, every stored effective action the one that R54 gives
then, and no item held by an entry that does not forward (R43, R54, R55, R65, R72). -/
def Obligations.TrafficInvariantKept : Prop :=
  ∀ s t : State, queueInv s → dockInv s → penInv s → trafficInv s → step s = .next t → trafficInv t

/-- The state after power-on meets all four invariants. -/
def Obligations.ResetMeetsInvariants : Prop :=
  queueInv State.reset ∧ dockInv State.reset ∧ penInv State.reset ∧ trafficInv State.reset
end

