-- ==== Sys2Proof/Laws/State.lean ====
section
/-! SUPPORT. What each block update leaves and what it writes: one lemma per field per update, so that no proof
unfolds a record update. -/

namespace Sys2Proof.Machine

/-! ## onTime -/

@[simp] theorem State.onTime_time (f : Half → Half) (s : State) : (s.onTime f).time = f s.time := rfl
@[simp] theorem State.onTime_params (f : Half → Half) (s : State) : (s.onTime f).params = s.params := rfl
@[simp] theorem State.onTime_hlc (f : Half → Half) (s : State) : (s.onTime f).hlc = s.hlc := rfl
@[simp] theorem State.onTime_pse (f : Half → Half) (s : State) : (s.onTime f).pse = s.pse := rfl
@[simp] theorem State.onTime_tcl (f : Half → Half) (s : State) : (s.onTime f).tcl = s.tcl := rfl
@[simp] theorem State.onTime_dlc (f : Half → Half) (s : State) : (s.onTime f).dlc = s.dlc := rfl
@[simp] theorem State.onTime_pcc (f : Half → Half) (s : State) : (s.onTime f).pcc = s.pcc := rfl
@[simp] theorem State.onTime_sdu (f : Half → Half) (s : State) : (s.onTime f).sdu = s.sdu := rfl
@[simp] theorem State.onTime_rqu (f : Half → Half) (s : State) : (s.onTime f).rqu = s.rqu := rfl
@[simp] theorem State.onTime_choices (f : Half → Half) (s : State) : (s.onTime f).choices = s.choices := rfl
@[simp] theorem State.onTime_pending (f : Half → Half) (s : State) : (s.onTime f).pending = s.pending := rfl

/-! ## onParams -/

@[simp] theorem State.onParams_time (f : Params → Params) (s : State) : (s.onParams f).time = s.time := rfl
@[simp] theorem State.onParams_params (f : Params → Params) (s : State) : (s.onParams f).params = f s.params := rfl
@[simp] theorem State.onParams_hlc (f : Params → Params) (s : State) : (s.onParams f).hlc = s.hlc := rfl
@[simp] theorem State.onParams_pse (f : Params → Params) (s : State) : (s.onParams f).pse = s.pse := rfl
@[simp] theorem State.onParams_tcl (f : Params → Params) (s : State) : (s.onParams f).tcl = s.tcl := rfl
@[simp] theorem State.onParams_dlc (f : Params → Params) (s : State) : (s.onParams f).dlc = s.dlc := rfl
@[simp] theorem State.onParams_pcc (f : Params → Params) (s : State) : (s.onParams f).pcc = s.pcc := rfl
@[simp] theorem State.onParams_sdu (f : Params → Params) (s : State) : (s.onParams f).sdu = s.sdu := rfl
@[simp] theorem State.onParams_rqu (f : Params → Params) (s : State) : (s.onParams f).rqu = s.rqu := rfl
@[simp] theorem State.onParams_choices (f : Params → Params) (s : State) : (s.onParams f).choices = s.choices := rfl
@[simp] theorem State.onParams_pending (f : Params → Params) (s : State) : (s.onParams f).pending = s.pending := rfl

/-! ## onHlc -/

@[simp] theorem State.onHlc_time (f : Hlc → Hlc) (s : State) : (s.onHlc f).time = s.time := rfl
@[simp] theorem State.onHlc_params (f : Hlc → Hlc) (s : State) : (s.onHlc f).params = s.params := rfl
@[simp] theorem State.onHlc_hlc (f : Hlc → Hlc) (s : State) : (s.onHlc f).hlc = f s.hlc := rfl
@[simp] theorem State.onHlc_pse (f : Hlc → Hlc) (s : State) : (s.onHlc f).pse = s.pse := rfl
@[simp] theorem State.onHlc_tcl (f : Hlc → Hlc) (s : State) : (s.onHlc f).tcl = s.tcl := rfl
@[simp] theorem State.onHlc_dlc (f : Hlc → Hlc) (s : State) : (s.onHlc f).dlc = s.dlc := rfl
@[simp] theorem State.onHlc_pcc (f : Hlc → Hlc) (s : State) : (s.onHlc f).pcc = s.pcc := rfl
@[simp] theorem State.onHlc_sdu (f : Hlc → Hlc) (s : State) : (s.onHlc f).sdu = s.sdu := rfl
@[simp] theorem State.onHlc_rqu (f : Hlc → Hlc) (s : State) : (s.onHlc f).rqu = s.rqu := rfl
@[simp] theorem State.onHlc_choices (f : Hlc → Hlc) (s : State) : (s.onHlc f).choices = s.choices := rfl
@[simp] theorem State.onHlc_pending (f : Hlc → Hlc) (s : State) : (s.onHlc f).pending = s.pending := rfl

/-! ## onPse -/

@[simp] theorem State.onPse_time (f : Pse → Pse) (s : State) : (s.onPse f).time = s.time := rfl
@[simp] theorem State.onPse_params (f : Pse → Pse) (s : State) : (s.onPse f).params = s.params := rfl
@[simp] theorem State.onPse_hlc (f : Pse → Pse) (s : State) : (s.onPse f).hlc = s.hlc := rfl
@[simp] theorem State.onPse_pse (f : Pse → Pse) (s : State) : (s.onPse f).pse = f s.pse := rfl
@[simp] theorem State.onPse_tcl (f : Pse → Pse) (s : State) : (s.onPse f).tcl = s.tcl := rfl
@[simp] theorem State.onPse_dlc (f : Pse → Pse) (s : State) : (s.onPse f).dlc = s.dlc := rfl
@[simp] theorem State.onPse_pcc (f : Pse → Pse) (s : State) : (s.onPse f).pcc = s.pcc := rfl
@[simp] theorem State.onPse_sdu (f : Pse → Pse) (s : State) : (s.onPse f).sdu = s.sdu := rfl
@[simp] theorem State.onPse_rqu (f : Pse → Pse) (s : State) : (s.onPse f).rqu = s.rqu := rfl
@[simp] theorem State.onPse_choices (f : Pse → Pse) (s : State) : (s.onPse f).choices = s.choices := rfl
@[simp] theorem State.onPse_pending (f : Pse → Pse) (s : State) : (s.onPse f).pending = s.pending := rfl

/-! ## onTcl -/

@[simp] theorem State.onTcl_time (f : Tcl → Tcl) (s : State) : (s.onTcl f).time = s.time := rfl
@[simp] theorem State.onTcl_params (f : Tcl → Tcl) (s : State) : (s.onTcl f).params = s.params := rfl
@[simp] theorem State.onTcl_hlc (f : Tcl → Tcl) (s : State) : (s.onTcl f).hlc = s.hlc := rfl
@[simp] theorem State.onTcl_pse (f : Tcl → Tcl) (s : State) : (s.onTcl f).pse = s.pse := rfl
@[simp] theorem State.onTcl_tcl (f : Tcl → Tcl) (s : State) : (s.onTcl f).tcl = f s.tcl := rfl
@[simp] theorem State.onTcl_dlc (f : Tcl → Tcl) (s : State) : (s.onTcl f).dlc = s.dlc := rfl
@[simp] theorem State.onTcl_pcc (f : Tcl → Tcl) (s : State) : (s.onTcl f).pcc = s.pcc := rfl
@[simp] theorem State.onTcl_sdu (f : Tcl → Tcl) (s : State) : (s.onTcl f).sdu = s.sdu := rfl
@[simp] theorem State.onTcl_rqu (f : Tcl → Tcl) (s : State) : (s.onTcl f).rqu = s.rqu := rfl
@[simp] theorem State.onTcl_choices (f : Tcl → Tcl) (s : State) : (s.onTcl f).choices = s.choices := rfl
@[simp] theorem State.onTcl_pending (f : Tcl → Tcl) (s : State) : (s.onTcl f).pending = s.pending := rfl

/-! ## onDlc -/

@[simp] theorem State.onDlc_time (f : Dlc → Dlc) (s : State) : (s.onDlc f).time = s.time := rfl
@[simp] theorem State.onDlc_params (f : Dlc → Dlc) (s : State) : (s.onDlc f).params = s.params := rfl
@[simp] theorem State.onDlc_hlc (f : Dlc → Dlc) (s : State) : (s.onDlc f).hlc = s.hlc := rfl
@[simp] theorem State.onDlc_pse (f : Dlc → Dlc) (s : State) : (s.onDlc f).pse = s.pse := rfl
@[simp] theorem State.onDlc_tcl (f : Dlc → Dlc) (s : State) : (s.onDlc f).tcl = s.tcl := rfl
@[simp] theorem State.onDlc_dlc (f : Dlc → Dlc) (s : State) : (s.onDlc f).dlc = f s.dlc := rfl
@[simp] theorem State.onDlc_pcc (f : Dlc → Dlc) (s : State) : (s.onDlc f).pcc = s.pcc := rfl
@[simp] theorem State.onDlc_sdu (f : Dlc → Dlc) (s : State) : (s.onDlc f).sdu = s.sdu := rfl
@[simp] theorem State.onDlc_rqu (f : Dlc → Dlc) (s : State) : (s.onDlc f).rqu = s.rqu := rfl
@[simp] theorem State.onDlc_choices (f : Dlc → Dlc) (s : State) : (s.onDlc f).choices = s.choices := rfl
@[simp] theorem State.onDlc_pending (f : Dlc → Dlc) (s : State) : (s.onDlc f).pending = s.pending := rfl

/-! ## onPcc -/

@[simp] theorem State.onPcc_time (f : Pcc → Pcc) (s : State) : (s.onPcc f).time = s.time := rfl
@[simp] theorem State.onPcc_params (f : Pcc → Pcc) (s : State) : (s.onPcc f).params = s.params := rfl
@[simp] theorem State.onPcc_hlc (f : Pcc → Pcc) (s : State) : (s.onPcc f).hlc = s.hlc := rfl
@[simp] theorem State.onPcc_pse (f : Pcc → Pcc) (s : State) : (s.onPcc f).pse = s.pse := rfl
@[simp] theorem State.onPcc_tcl (f : Pcc → Pcc) (s : State) : (s.onPcc f).tcl = s.tcl := rfl
@[simp] theorem State.onPcc_dlc (f : Pcc → Pcc) (s : State) : (s.onPcc f).dlc = s.dlc := rfl
@[simp] theorem State.onPcc_pcc (f : Pcc → Pcc) (s : State) : (s.onPcc f).pcc = f s.pcc := rfl
@[simp] theorem State.onPcc_sdu (f : Pcc → Pcc) (s : State) : (s.onPcc f).sdu = s.sdu := rfl
@[simp] theorem State.onPcc_rqu (f : Pcc → Pcc) (s : State) : (s.onPcc f).rqu = s.rqu := rfl
@[simp] theorem State.onPcc_choices (f : Pcc → Pcc) (s : State) : (s.onPcc f).choices = s.choices := rfl
@[simp] theorem State.onPcc_pending (f : Pcc → Pcc) (s : State) : (s.onPcc f).pending = s.pending := rfl

/-! ## onSdu -/

@[simp] theorem State.onSdu_time (f : Sdu → Sdu) (s : State) : (s.onSdu f).time = s.time := rfl
@[simp] theorem State.onSdu_params (f : Sdu → Sdu) (s : State) : (s.onSdu f).params = s.params := rfl
@[simp] theorem State.onSdu_hlc (f : Sdu → Sdu) (s : State) : (s.onSdu f).hlc = s.hlc := rfl
@[simp] theorem State.onSdu_pse (f : Sdu → Sdu) (s : State) : (s.onSdu f).pse = s.pse := rfl
@[simp] theorem State.onSdu_tcl (f : Sdu → Sdu) (s : State) : (s.onSdu f).tcl = s.tcl := rfl
@[simp] theorem State.onSdu_dlc (f : Sdu → Sdu) (s : State) : (s.onSdu f).dlc = s.dlc := rfl
@[simp] theorem State.onSdu_pcc (f : Sdu → Sdu) (s : State) : (s.onSdu f).pcc = s.pcc := rfl
@[simp] theorem State.onSdu_sdu (f : Sdu → Sdu) (s : State) : (s.onSdu f).sdu = f s.sdu := rfl
@[simp] theorem State.onSdu_rqu (f : Sdu → Sdu) (s : State) : (s.onSdu f).rqu = s.rqu := rfl
@[simp] theorem State.onSdu_choices (f : Sdu → Sdu) (s : State) : (s.onSdu f).choices = s.choices := rfl
@[simp] theorem State.onSdu_pending (f : Sdu → Sdu) (s : State) : (s.onSdu f).pending = s.pending := rfl

/-! ## onRqu -/

@[simp] theorem State.onRqu_time (f : Rqu → Rqu) (s : State) : (s.onRqu f).time = s.time := rfl
@[simp] theorem State.onRqu_params (f : Rqu → Rqu) (s : State) : (s.onRqu f).params = s.params := rfl
@[simp] theorem State.onRqu_hlc (f : Rqu → Rqu) (s : State) : (s.onRqu f).hlc = s.hlc := rfl
@[simp] theorem State.onRqu_pse (f : Rqu → Rqu) (s : State) : (s.onRqu f).pse = s.pse := rfl
@[simp] theorem State.onRqu_tcl (f : Rqu → Rqu) (s : State) : (s.onRqu f).tcl = s.tcl := rfl
@[simp] theorem State.onRqu_dlc (f : Rqu → Rqu) (s : State) : (s.onRqu f).dlc = s.dlc := rfl
@[simp] theorem State.onRqu_pcc (f : Rqu → Rqu) (s : State) : (s.onRqu f).pcc = s.pcc := rfl
@[simp] theorem State.onRqu_sdu (f : Rqu → Rqu) (s : State) : (s.onRqu f).sdu = s.sdu := rfl
@[simp] theorem State.onRqu_rqu (f : Rqu → Rqu) (s : State) : (s.onRqu f).rqu = f s.rqu := rfl
@[simp] theorem State.onRqu_choices (f : Rqu → Rqu) (s : State) : (s.onRqu f).choices = s.choices := rfl
@[simp] theorem State.onRqu_pending (f : Rqu → Rqu) (s : State) : (s.onRqu f).pending = s.pending := rfl

/-! ## onRoute, respond, drivePins, push -/

@[simp] theorem State.onRoute_time (i : Fin 64) (f : RouteEntry → RouteEntry) (s : State) :
    (s.onRoute i f).time = s.time := rfl
@[simp] theorem State.onRoute_params (i : Fin 64) (f : RouteEntry → RouteEntry) (s : State) :
    (s.onRoute i f).params = s.params := rfl
@[simp] theorem State.onRoute_hlc (i : Fin 64) (f : RouteEntry → RouteEntry) (s : State) :
    (s.onRoute i f).hlc = s.hlc := rfl
@[simp] theorem State.onRoute_pse (i : Fin 64) (f : RouteEntry → RouteEntry) (s : State) :
    (s.onRoute i f).pse = s.pse := rfl
@[simp] theorem State.onRoute_dlc (i : Fin 64) (f : RouteEntry → RouteEntry) (s : State) :
    (s.onRoute i f).dlc = s.dlc := rfl
@[simp] theorem State.onRoute_pcc (i : Fin 64) (f : RouteEntry → RouteEntry) (s : State) :
    (s.onRoute i f).pcc = s.pcc := rfl
@[simp] theorem State.onRoute_sdu (i : Fin 64) (f : RouteEntry → RouteEntry) (s : State) :
    (s.onRoute i f).sdu = s.sdu := rfl
@[simp] theorem State.onRoute_rqu (i : Fin 64) (f : RouteEntry → RouteEntry) (s : State) :
    (s.onRoute i f).rqu = s.rqu := rfl
@[simp] theorem State.onRoute_choices (i : Fin 64) (f : RouteEntry → RouteEntry) (s : State) :
    (s.onRoute i f).choices = s.choices := rfl
@[simp] theorem State.onRoute_pending (i : Fin 64) (f : RouteEntry → RouteEntry) (s : State) :
    (s.onRoute i f).pending = s.pending := rfl
@[simp] theorem respond_time (ty tag : Byte) (st : Status) (p : List Byte) (s : State) :
    (respond ty tag st p s).time = s.time := rfl
@[simp] theorem respond_params (ty tag : Byte) (st : Status) (p : List Byte) (s : State) :
    (respond ty tag st p s).params = s.params := rfl
@[simp] theorem respond_pse (ty tag : Byte) (st : Status) (p : List Byte) (s : State) :
    (respond ty tag st p s).pse = s.pse := rfl
@[simp] theorem respond_tcl (ty tag : Byte) (st : Status) (p : List Byte) (s : State) :
    (respond ty tag st p s).tcl = s.tcl := rfl
@[simp] theorem respond_dlc (ty tag : Byte) (st : Status) (p : List Byte) (s : State) :
    (respond ty tag st p s).dlc = s.dlc := rfl
@[simp] theorem respond_pcc (ty tag : Byte) (st : Status) (p : List Byte) (s : State) :
    (respond ty tag st p s).pcc = s.pcc := rfl
@[simp] theorem respond_sdu (ty tag : Byte) (st : Status) (p : List Byte) (s : State) :
    (respond ty tag st p s).sdu = s.sdu := rfl
@[simp] theorem respond_rqu (ty tag : Byte) (st : Status) (p : List Byte) (s : State) :
    (respond ty tag st p s).rqu = s.rqu := rfl
@[simp] theorem respond_choices (ty tag : Byte) (st : Status) (p : List Byte) (s : State) :
    (respond ty tag st p s).choices = s.choices := rfl
@[simp] theorem respond_pending (ty tag : Byte) (st : Status) (p : List Byte) (s : State) :
    (respond ty tag st p s).pending = s.pending := rfl
@[simp] theorem respond_response (ty tag : Byte) (st : Status) (p : List Byte) (s : State) :
    (respond ty tag st p s).hlc.response
      = some { rtype := responseType ty, tag := tag, status := st, payload := p } := rfl
@[simp] theorem respond_hlc_interval (ty tag : Byte) (st : Status) (p : List Byte) (s : State) :
    (respond ty tag st p s).hlc.interval = s.hlc.interval := rfl
@[simp] theorem respond_hlc_miso (ty tag : Byte) (st : Status) (p : List Byte) (s : State) :
    (respond ty tag st p s).hlc.miso = s.hlc.miso := rfl
@[simp] theorem respond_hlc_transfer (ty tag : Byte) (st : Status) (p : List Byte) (s : State) :
    (respond ty tag st p s).hlc.transfer = s.hlc.transfer := rfl
@[simp] theorem respond_hlc_frozen (ty tag : Byte) (st : Status) (p : List Byte) (s : State) :
    (respond ty tag st p s).hlc.frozen = s.hlc.frozen := rfl
@[simp] theorem respond_hlc_faults (ty tag : Byte) (st : Status) (p : List Byte) (s : State) :
    (respond ty tag st p s).hlc.faults = s.hlc.faults := rfl
@[simp] theorem respond_hlc_firstFault (ty tag : Byte) (st : Status) (p : List Byte) (s : State) :
    (respond ty tag st p s).hlc.firstFault = s.hlc.firstFault := rfl
@[simp] theorem respond_hlc_alert (ty tag : Byte) (st : Status) (p : List Byte) (s : State) :
    (respond ty tag st p s).hlc.alert = s.hlc.alert := rfl
@[simp] theorem drivePins_time (s : State) : (drivePins s).time = s.time := rfl
@[simp] theorem drivePins_params (s : State) : (drivePins s).params = s.params := rfl
@[simp] theorem drivePins_pse (s : State) : (drivePins s).pse = s.pse := rfl
@[simp] theorem drivePins_tcl (s : State) : (drivePins s).tcl = s.tcl := rfl
@[simp] theorem drivePins_pcc (s : State) : (drivePins s).pcc = s.pcc := rfl
@[simp] theorem drivePins_sdu (s : State) : (drivePins s).sdu = s.sdu := rfl
@[simp] theorem drivePins_rqu (s : State) : (drivePins s).rqu = s.rqu := rfl
@[simp] theorem drivePins_choices (s : State) : (drivePins s).choices = s.choices := rfl
@[simp] theorem drivePins_pending (s : State) : (drivePins s).pending = s.pending := rfl
@[simp] theorem drivePins_hlc_response (s : State) : (drivePins s).hlc.response = s.hlc.response := rfl
@[simp] theorem drivePins_hlc_interval (s : State) : (drivePins s).hlc.interval = s.hlc.interval := rfl
@[simp] theorem drivePins_hlc_miso (s : State) : (drivePins s).hlc.miso = s.hlc.miso := rfl
@[simp] theorem drivePins_hlc_frozen (s : State) : (drivePins s).hlc.frozen = s.hlc.frozen := rfl
@[simp] theorem drivePins_hlc_faults (s : State) : (drivePins s).hlc.faults = s.hlc.faults := rfl
@[simp] theorem drivePins_hlc_firstFault (s : State) : (drivePins s).hlc.firstFault = s.hlc.firstFault := rfl
@[simp] theorem drivePins_hlc_transfer (s : State) : (drivePins s).hlc.transfer = s.hlc.transfer := rfl
@[simp] theorem drivePins_dlc_state (s : State) : (drivePins s).dlc.state = s.dlc.state := rfl
@[simp] theorem drivePins_dlc_sense (s : State) : (drivePins s).dlc.sense = s.dlc.sense := rfl
@[simp] theorem drivePins_dlc_senseTimer (s : State) : (drivePins s).dlc.senseTimer = s.dlc.senseTimer := rfl
@[simp] theorem drivePins_dlc_button (s : State) : (drivePins s).dlc.button = s.dlc.button := rfl
@[simp] theorem drivePins_dlc_buttonRun (s : State) : (drivePins s).dlc.buttonRun = s.dlc.buttonRun := rfl
@[simp] theorem drivePins_dlc_buttonFresh (s : State) : (drivePins s).dlc.buttonFresh = s.dlc.buttonFresh := rfl
@[simp] theorem drivePins_dlc_queries (s : State) : (drivePins s).dlc.queries = s.dlc.queries := rfl
@[simp] theorem drivePins_dlc_helloTimer (s : State) : (drivePins s).dlc.helloTimer = s.dlc.helloTimer := rfl
@[simp] theorem drivePins_dlc_grantTimer (s : State) : (drivePins s).dlc.grantTimer = s.dlc.grantTimer := rfl
@[simp] theorem drivePins_dlc_quiesceTimer (s : State) : (drivePins s).dlc.quiesceTimer = s.dlc.quiesceTimer := rfl
@[simp] theorem drivePins_dlc_window (s : State) : (drivePins s).dlc.window = s.dlc.window := rfl
@[simp] theorem drivePins_dlc_latchPhase (s : State) : (drivePins s).dlc.latchPhase = s.dlc.latchPhase := rfl
@[simp] theorem drivePins_dlc_latchCount (s : State) : (drivePins s).dlc.latchCount = s.dlc.latchCount := rfl
@[simp] theorem drivePins_dlc_latchDelay (s : State) : (drivePins s).dlc.latchDelay = s.dlc.latchDelay := rfl
@[simp] theorem drivePins_dlc_latchPeriod (s : State) : (drivePins s).dlc.latchPeriod = s.dlc.latchPeriod := rfl
@[simp] theorem drivePins_dlc_latchOn (s : State) : (drivePins s).dlc.latchOn = s.dlc.latchOn := rfl
@[simp] theorem drivePins_dlc_latchDrv (s : State) : (drivePins s).dlc.latchDrv = s.dlc.latchDrv := rfl
@[simp] theorem drivePins_dlc_identity (s : State) : (drivePins s).dlc.identity = s.dlc.identity := rfl
@[simp] theorem drivePins_dlc_rx (s : State) : (drivePins s).dlc.rx = s.dlc.rx := rfl
@[simp] theorem drivePins_dlc_errors (s : State) : (drivePins s).dlc.errors = s.dlc.errors := rfl
@[simp] theorem drivePins_dlc_errTimer (s : State) : (drivePins s).dlc.errTimer = s.dlc.errTimer := rfl
@[simp] theorem drivePins_dlc_buffer (s : State) : (drivePins s).dlc.buffer = s.dlc.buffer := rfl
@[simp] theorem drivePins_dlc_slots (s : State) : (drivePins s).dlc.slots = s.dlc.slots := rfl
@[simp] theorem drivePins_dlc_identifyMark (s : State) : (drivePins s).dlc.identifyMark = s.dlc.identifyMark := rfl
@[simp] theorem drivePins_dlc_quiesceMark (s : State) : (drivePins s).dlc.quiesceMark = s.dlc.quiesceMark := rfl
@[simp] theorem drivePins_dlc_noticeMark (s : State) : (drivePins s).dlc.noticeMark = s.dlc.noticeMark := rfl
@[simp] theorem drivePins_dlc_sending (s : State) : (drivePins s).dlc.sending = s.dlc.sending := rfl
@[simp] theorem drivePins_alert (s : State) : (drivePins s).hlc.alert = alertLevel s := rfl
@[simp] theorem drivePins_dhold (s : State) : (drivePins s).dlc.dhold = dholdLevel s := rfl
@[simp] theorem push_pending (c : Instr) (s : State) : (s.push c).pending = c :: s.pending := rfl

/-! ## A character's bits, and a transaction in parts -/

@[simp] theorem lineData_lineBits (data : Byte) : lineData (lineBits data) = data := by
  revert data; decide +kernel
@[simp] theorem lineBits_start (data : Byte) : (lineBits data).getLsbD 0 = false := by
  revert data; decide +kernel
@[simp] theorem charBits_start (data : Byte) (mark stop : Bool) : (charBits data mark stop).getLsbD 0 = false := by
  revert data mark stop; decide +kernel

/-- Nine bits with the start bit low are those of the data byte among them. -/
theorem lineBits_of_line (line : BitVec 9) (h : line.getLsbD 0 = false) : lineBits (lineData line) = line := by
  revert line; decide +kernel

@[simp] theorem Transfer.warm_idle : Transfer.idle.warm = .idle := rfl
@[simp] theorem Transfer.warm_abandoned : Transfer.abandoned.warm = .abandoned := rfl
@[simp] theorem Transfer.warm_running (ready : Bool) (frame : Option (List Byte)) (bits : List Bool) :
    (Transfer.running ready frame bits).warm = .abandoned := rfl
@[simp] theorem Hlc.warm_transfer (h : Hlc) : h.warm.transfer = h.transfer.warm := rfl
@[simp] theorem Hlc.warm_response (h : Hlc) : h.warm.response = none := rfl
@[simp] theorem Hlc.warm_interval (h : Hlc) : h.warm.interval = 0 := rfl
@[simp] theorem Hlc.warm_faults (h : Hlc) : h.warm.faults = h.faults := rfl
@[simp] theorem Hlc.warm_firstFault (h : Hlc) : h.warm.firstFault = h.firstFault := rfl
@[simp] theorem Hlc.warm_frozen (h : Hlc) : h.warm.frozen = h.frozen := rfl

/-- A sleep state change whose row of R152's table says that no action changes recomputes nothing. -/
@[simp] theorem recomputeOn_same (pl : Placer) (old new : SleepState) (s : State) (h : old.asleep = new.asleep) :
    recomputeOn pl old new s = s := if_pos h

/-- A sleep state change among ACTIVE, DROWSY and SLEEP_ADVISED leaves allowance as it is. -/
@[simp] theorem allowanceOn_awake (pl : Placer) (old new : SleepState) (s : State) (ho : old.asleep = false)
    (hn : new.asleep = false) : allowanceOn pl old new s = s := by
  simp [allowanceOn, ho, hn]

/-- Outside QUIESCING a synthesis carries the cause of its recomputation. -/
@[simp] theorem synthCause_of_ne (c : SynthCause) (e : RouteEntry) (s : State) (h : s.dlc.state ≠ .quiescing) :
    synthCause c e s = c := by
  simp [synthCause, h]

/-- In QUIESCING a dock entry's synthesis for a commit carries DOCK. -/
@[simp] theorem synthCause_quiescing (e : RouteEntry) (s : State) (he : e.ofDock = true)
    (h : s.dlc.state = .quiescing) : synthCause .posture e s = .dock := by
  simp [synthCause, he, h]

/-- Session time in a millisecond of CHARGING: the one that reaches the limit becomes due, any other is counted. -/
theorem Pcc.sessionTick_cases (p : Pcc) :
    p.sessionTick = p ∧ p.state ≠ .charging
      ∨ p.state = .charging ∧ p.limitWithin 1 = true ∧ p.sessionTick = { p with limitDue := true }
      ∨ p.state = .charging ∧ p.limitWithin 1 = false ∧ p.sessionTick = p.raiseSession := by
  unfold Pcc.sessionTick
  split
  · split <;> simp_all
  · simp_all

end Sys2Proof.Machine
end

