-- ==== Sys2Proof/Laws/Frame.lean ====
section
/-! SUPPORT. What the shared operations leave. A view of the state that is blind to the blocks that placement,
waking, recomputation and allowance may change is kept by each of those operations: one lemma per operation,
for every such view at once. -/

namespace Sys2Proof.Machine

/-- A view of the state that sees nothing of the RQU, the SDU, the TCL, the PCC, the Fault Summary, the Dock
Receive Buffer and the notice mark: all that placement, waking and recomputation can change. -/
structure Blind {α : Type} (π : State → α) : Prop where
  rqu : ∀ f s, π (State.onRqu f s) = π s
  sdu : ∀ f s, π (State.onSdu f s) = π s
  tcl : ∀ f s, π (State.onTcl f s) = π s
  pcc : ∀ f s, π (State.onPcc f s) = π s
  faults : ∀ (a : Hlc → Vector FaultEntry 8) (b : Hlc → Option FaultKind) s,
    π (State.onHlc (fun h => { h with faults := a h, firstFault := b h }) s) = π s
  buffer : ∀ (f : Dlc → List Frame) s, π (State.onDlc (fun d => { d with buffer := f d }) s) = π s
  notice : ∀ (b : Dlc → Bool) s, π (State.onDlc (fun d => { d with noticeMark := b d }) s) = π s

/-- A placer that a view cannot see. -/
abbrev PlacerKeeps {α : Type} (π : State → α) (pl : Placer) : Prop := ∀ r s, π (pl r s) = π s

namespace Blind

variable {α : Type} {π : State → α} (h : Blind π)
include h

theorem onRoute (i f s) : π (State.onRoute i f s) = π s := h.tcl _ _
theorem enterUrgent (b r s) : π (enterUrgent b r s) = π s := h.rqu _ _
theorem countUrgentLoss (s) : π (countUrgentLoss s) = π s := h.rqu _ _
theorem noteFault (k s) : π (noteFault k s) = π s := h.faults _ _ _
theorem flushStage (s) : π (flushStage s) = π s := h.rqu _ _

theorem loseUrgentWith {g : State → State} (hg : ∀ s, π (g s) = π s) (s) :
    π (loseUrgentWith g s) = π s := by
  unfold Machine.loseUrgentWith
  split <;> simp [hg, h.countUrgentLoss]

theorem placeWith {g : State → State} (hg : ∀ s, π (g s) = π s) : PlacerKeeps π (placeWith g) := by
  intro r s
  unfold Machine.placeWith
  split <;> simp [h.enterUrgent, h.loseUrgentWith hg]

theorem placeSilent : PlacerKeeps π placeSilent := by
  intro r s
  unfold Machine.placeSilent
  split <;> simp [h.enterUrgent]

theorem raiseWith {pl : Placer} {w : State → State} (hp : PlacerKeeps π pl) (hw : ∀ s, π (w s) = π s) (k s) :
    π (raiseWith pl w k s) = π s := by
  simp only [Machine.raiseWith]
  split
  · exact h.noteFault k s
  · split <;> simp [hp _ _, hw, h.noteFault]

theorem endStall (s) : π (endStall s) = π s := by
  simp only [Machine.endStall]; rw [h.buffer, h.tcl]

theorem poolEffect (i f b s) : π (poolEffect i f b s) = π s := by
  unfold Machine.poolEffect
  split
  · split
    · split
      · rfl
      · split
        · exact h.tcl _ _
        · exact h.onRoute _ _ _
    · split
      · simp only; split
        · exact h.tcl _ _
        · rw [h.onRoute, h.tcl]
      · rfl
    · rfl
  · rfl

theorem retryStall (s) : π (retryStall s) = π s := by
  unfold Machine.retryStall
  split
  · split
    · split
      · rw [h.poolEffect, h.endStall, h.enterUrgent]
      · rfl
    · exact h.endStall s
  · rfl

theorem releaseSlots {pl : Placer} (hp : PlacerKeeps π pl) (e c) :
    ∀ l s, π (releaseSlots pl e c l s) = π s
  | [], s => rfl
  | x :: rest, s => by
    rw [Machine.releaseSlots, releaseSlots hp e c rest, h.tcl, hp]

theorem synthesize {pl : Placer} (hp : PlacerKeeps π pl) (c i s) : π (synthesize pl c i s) = π s := by
  simp only [Machine.synthesize]
  split
  · rw [h.onRoute, hp, h.releaseSlots hp]
  · exact h.releaseSlots hp _ _ _ _

theorem recomputeEntry {pl : Placer} (hp : PlacerKeeps π pl) (c i s) :
    π (recomputeEntry pl c i s) = π s := by
  simp only [Machine.recomputeEntry]
  split
  · rfl
  · split
    · rw [h.synthesize hp, h.onRoute]
    · exact h.onRoute _ _ _

theorem retryIfChanged (b s) : π (retryIfChanged b s) = π s := by
  unfold Machine.retryIfChanged
  split
  · exact h.retryStall s
  · rfl

omit h in
/-- A fold of steps that a view cannot see. -/
theorem fold {β : Type} (f : State → β → State) (hf : ∀ s b, π (f s b) = π s) :
    ∀ (l : List β) s, π (l.foldl f s) = π s
  | [], _ => rfl
  | b :: l, s => by rw [List.foldl_cons, fold f hf l, hf]

theorem recomputeWith {pl : Placer} (hp : PlacerKeeps π pl) (c s) : π (recomputeWith pl c s) = π s := by
  unfold Machine.recomputeWith
  rw [h.retryIfChanged]
  exact Blind.fold _ (fun s i => h.recomputeEntry hp c i s) _ _

theorem beginSession {pl : Placer} (hp : PlacerKeeps π pl) (o s) : π (beginSession pl o s) = π s := by
  simp only [Machine.beginSession]; rw [hp, h.pcc]

theorem startCharging {pl : Placer} (hp : PlacerKeeps π pl) (s) : π (startCharging pl s) = π s :=
  h.beginSession hp _ s

theorem penAllowance {pl : Placer} (hp : PlacerKeeps π pl) (s) : π (penAllowance pl s) = π s := by
  unfold Machine.penAllowance
  split
  · split
    · rfl
    · rw [hp, h.pcc]
  · split
    · rfl
    · split
      · rw [hp, h.pcc]
      · exact h.startCharging hp s
  · split
    · split
      · exact h.startCharging hp s
      · rfl
    · rfl
  · rfl
  · rfl
  · rfl
  · rfl

theorem idleRestart (s) : π (idleRestart s) = π s := h.sdu _ _
theorem idleStop (s) : π (idleStop s) = π s := h.sdu _ _

theorem suppressOn (o n s) : π (suppressOn o n s) = π s := by
  unfold Machine.suppressOn
  split
  · split
    · rfl
    · rw [h.rqu, h.flushStage]
  · rfl
  all_goals
    split
    · exact h.rqu _ _
    · rfl

theorem noticeOn (o n s) : π (noticeOn o n s) = π s := by
  unfold Machine.noticeOn
  split
  · exact h.notice _ _
  · rfl

theorem recomputeOn {pl : Placer} (hp : PlacerKeeps π pl) (o n s) : π (recomputeOn pl o n s) = π s := by
  unfold Machine.recomputeOn
  split
  · rfl
  · exact h.recomputeWith hp _ s

theorem allowanceOn {pl : Placer} (hp : PlacerKeeps π pl) (o n s) : π (allowanceOn pl o n s) = π s := by
  unfold Machine.allowanceOn
  split
  · exact h.penAllowance hp s
  · rfl

theorem sleepHandOn {pl : Placer} (hp : PlacerKeeps π pl) (o n s) : π (sleepHandOn pl o n s) = π s := by
  simp only [Machine.sleepHandOn]
  rw [h.noticeOn, h.suppressOn]
  split
  · rw [h.recomputeOn hp, h.allowanceOn hp]
  · rw [h.allowanceOn hp, h.recomputeOn hp]

theorem changeSleep {pl : Placer} (hp : PlacerKeeps π pl) {v : State → State} (hv : ∀ s, π (v s) = π s) (n s) :
    π (changeSleep pl n v s) = π s := by
  unfold Machine.changeSleep
  rw [h.sleepHandOn hp, hv, h.sdu]

theorem gatherEnd {pl : Placer} (hp : PlacerKeeps π pl) (s) : π (gatherEnd pl s) = π s := by
  unfold Machine.gatherEnd
  rw [hp, h.sdu]

theorem gatherStart (k s) : π (gatherStart k s) = π s := h.sdu _ _

theorem gatherAtOnce {pl : Placer} (hp : PlacerKeeps π pl) (s) : π (gatherAtOnce pl s) = π s := by
  unfold Machine.gatherAtOnce
  split
  · exact h.gatherEnd hp s
  · rfl

theorem wakeWith {pl : Placer} (hp : PlacerKeeps π pl) (k s) : π (wakeWith pl k s) = π s := by
  unfold Machine.wakeWith
  split
  · simp only; split
    · rw [h.sleepHandOn hp, h.gatherAtOnce hp, h.gatherStart, h.sdu]
    · rw [h.gatherAtOnce hp, h.sleepHandOn hp, h.gatherStart, h.sdu]
  · split
    · split
      · rfl
      · exact h.sdu _ _
    · rw [h.gatherAtOnce hp, h.gatherStart]
  · rfl
  · rfl
  · rfl

theorem placeQuiet : PlacerKeeps π placeQuiet := h.placeWith (h.noteFault _)

theorem raiseUrgentLoss (s) : π (raiseUrgentLoss s) = π s :=
  h.raiseWith h.placeSilent (h.wakeWith h.placeQuiet _) _ _

theorem loseUrgent (s) : π (loseUrgent s) = π s := h.loseUrgentWith h.raiseUrgentLoss s

theorem place : PlacerKeeps π place := h.placeWith h.raiseUrgentLoss

theorem wake (k s) : π (wake k s) = π s := h.wakeWith h.place k s

theorem raiseFault (k s) : π (raiseFault k s) = π s := h.raiseWith h.place (h.wake _) k s

theorem recompute (c s) : π (recompute c s) = π s := h.recomputeWith h.place c s

theorem giveVerdict (v r p s) : π (giveVerdict v r p s) = π s := h.place _ _

theorem resumeActive (s) : π (resumeActive s) = π s := by
  unfold Machine.resumeActive
  rw [h.changeSleep h.place (h.giveVerdict _ _ _), h.sdu]

theorem adviseSleep (r s) : π (adviseSleep r s) = π s := by
  unfold Machine.adviseSleep
  rw [h.changeSleep h.place (h.giveVerdict _ _ _), h.sdu]

theorem activity (s) : π (activity s) = π s := by
  unfold Machine.activity
  split
  · exact h.idleRestart s
  · rw [h.resumeActive, h.idleRestart]
  · rw [h.resumeActive, h.idleRestart]
  · rfl
  · rfl

/-! ## The traffic path -/

theorem placeCoalesced (r s) : π (placeCoalesced r s).1 = π s := by
  unfold Machine.placeCoalesced
  split
  · rfl
  · split
    · simp only [Machine.countBulkLoss]; exact h.rqu _ _
    · simp only; split
      · rw [h.flushStage, h.rqu]
      · exact h.rqu _ _

theorem placeDirect (r s) : π (placeDirect r s).1 = π s := by
  unfold Machine.placeDirect
  split
  · rfl
  · simp only; split
    · rw [h.rqu, h.flushStage]
    · simp only [Machine.countBulkLoss]; rw [h.rqu, h.flushStage]

theorem disableEntry (i s) : π (disableEntry i s) = π s := by
  simp only [Machine.disableEntry]
  rw [h.raiseFault, h.place, h.retryIfChanged, h.recomputeEntry h.place, h.onRoute]

theorem countMalformed (i s) : π (countMalformed i s) = π s := by
  simp only [Machine.countMalformed]
  split
  · rw [h.disableEntry, h.onRoute]
  · exact h.onRoute _ _ _

theorem reenableEntry (i s) : π (reenableEntry i s) = π s := by
  simp only [Machine.reenableEntry]
  rw [h.retryIfChanged, h.recomputeEntry h.place, h.place, h.onRoute]

theorem reenable (n s) : π (reenable n s) = π s := by
  unfold Machine.reenable
  refine Blind.fold _ (fun s i => ?_) _ _
  simp only
  split
  · exact h.reenableEntry i s
  · rfl

theorem signal (i a s) : π (signal i a s) = π s := by
  simp only [Machine.signal]
  split <;> split <;> simp [h.wake, h.activity]

theorem dropHead (s) : π (dropHead s) = π s := h.buffer _ _

theorem endFrame (b s) : π (endFrame b s) = π s := by
  unfold Machine.endFrame
  split
  · exact h.dropHead s
  · rfl

theorem placeFrame (b i f s) : π (placeFrame b i f s) = π s := by
  simp only [Machine.placeFrame]
  split
  · rw [h.endFrame, h.poolEffect]
    split
    · exact h.placeCoalesced _ _
    · exact h.placeDirect _ _
  · split
    · rw [h.poolEffect, h.endFrame, h.enterUrgent]
    · split
      · exact h.tcl _ _
      · rw [h.poolEffect, h.loseUrgent]

theorem handleMatched (b i f s) : π (handleMatched b i f s) = π s := by
  simp only [Machine.handleMatched]
  split
  · exact h.endFrame _ _
  · split
    · rw [h.endFrame, h.countMalformed]
    · split
      · rw [h.placeFrame, h.signal]
      · rw [h.endFrame, h.signal]

theorem classify (b f s) : π (classify b f s) = π s := by
  unfold Machine.classify
  split
  · rw [h.handleMatched, Machine.countHit, h.onRoute]
  · unfold Machine.handleDefault
    split
    · rw [h.endFrame, h.placeDirect]
    · exact h.endFrame _ _

theorem presentLocal (a b p s) : π (presentLocal a b p s) = π s := h.classify _ _ _

theorem loseStalled (s) : π (loseStalled s) = π s := by
  unfold Machine.loseStalled
  split
  · rw [h.loseUrgent, h.raiseFault]
  · rw [h.raiseFault, h.loseUrgent]

theorem escalateStall (s) : π (escalateStall s) = π s := by
  unfold Machine.escalateStall
  split
  · split
    · rw [h.poolEffect, h.endStall, h.enterUrgent]
    · rw [h.poolEffect, h.endStall, h.loseStalled]
  · rfl

end Blind

/-! ## The views that the shared operations leave -/

theorem blind_time : Blind State.time := ⟨fun _ _ => rfl, fun _ _ => rfl, fun _ _ => rfl, fun _ _ => rfl, fun _ _ _ => rfl, fun _ _ => rfl, fun _ _ => rfl⟩
theorem blind_params : Blind State.params := ⟨fun _ _ => rfl, fun _ _ => rfl, fun _ _ => rfl, fun _ _ => rfl, fun _ _ _ => rfl, fun _ _ => rfl, fun _ _ => rfl⟩
theorem blind_pse : Blind State.pse := ⟨fun _ _ => rfl, fun _ _ => rfl, fun _ _ => rfl, fun _ _ => rfl, fun _ _ _ => rfl, fun _ _ => rfl, fun _ _ => rfl⟩
theorem blind_choices : Blind State.choices := ⟨fun _ _ => rfl, fun _ _ => rfl, fun _ _ => rfl, fun _ _ => rfl, fun _ _ _ => rfl, fun _ _ => rfl, fun _ _ => rfl⟩
theorem blind_pending : Blind State.pending := ⟨fun _ _ => rfl, fun _ _ => rfl, fun _ _ => rfl, fun _ _ => rfl, fun _ _ _ => rfl, fun _ _ => rfl, fun _ _ => rfl⟩

theorem blind_link : Blind fun s => s.hlc.link := ⟨fun _ _ => rfl, fun _ _ => rfl, fun _ _ => rfl, fun _ _ => rfl, fun _ _ _ => rfl, fun _ _ => rfl, fun _ _ => rfl⟩

theorem blind_dock : Blind fun s => s.dlc.rest := ⟨fun _ _ => rfl, fun _ _ => rfl, fun _ _ => rfl, fun _ _ => rfl, fun _ _ _ => rfl, fun _ _ => rfl, fun _ _ => rfl⟩

end Sys2Proof.Machine
end

