-- ==== Sys2Proof/Laws/PerInstr.lean ====
section
/-! SUPPORT. The family of lemmas made per command: reading the bytes that spell a request gives that request
back (R193, R195). A command that is no request has no bytes, and its lemma says so. -/

namespace Sys2Proof.Laws

open Sys2Proof Sys2Proof.Machine

/-- Low and high byte of a 16-bit value give the value back. -/
theorem halfOf_halfBytes (v : Half) : halfOf (v.setWidth 8) ((v >>> 8).setWidth 8) = v := by
  refine BitVec.eq_of_getLsbD_eq fun i hi => ?_
  have e : (halfOf (v.setWidth 8) ((v >>> 8).setWidth 8)).getLsbD i
      = if i < 8 then (v.setWidth 8).getLsbD i else ((v >>> 8).setWidth 8).getLsbD (i - 8) :=
    BitVec.getLsbD_append
  rw [e]
  split
  · simp [*]
  · have h8 : i - 8 < 8 := by omega
    have hs : 8 + (i - 8) = i := by omega
    simp [h8, hs]

/-- The length byte of a DOCK_SEND agrees with the frame bytes that follow it; nothing is asked of another
command. -/
def lengthAgrees : Instr → Bool
  | .dockSend _ _ _ len payload => payload.length = len.toNat
  | _ => true

/-- The bytes that spell a request are read as that request. -/
def Spelling.Statement (i : Instr) : Prop :=
  lengthAgrees i = true → ∀ type tag payload, requestBytes i = some (type, tag, payload) →
    requestOf type tag payload = .ok i

theorem Spelling.hostTransaction (waitedUs : Nat) (mosi : Clocked) :
    Spelling.Statement (.hostTransaction waitedUs mosi) := by
  intro _ _ _ _ e
  cases e

theorem Spelling.identify (tag : Byte) :
    Spelling.Statement (.identify tag) := by
  intro _ type tag' payload e
  simp only [requestBytes, Option.some.injEq, Prod.mk.injEq] at e
  obtain ⟨rfl, rfl, rfl⟩ := e
  simp [requestOf]

theorem Spelling.status (tag : Byte) :
    Spelling.Statement (.status tag) := by
  intro _ type tag' payload e
  simp only [requestBytes, Option.some.injEq, Prod.mk.injEq] at e
  obtain ⟨rfl, rfl, rfl⟩ := e
  simp [requestOf]

theorem Spelling.configSet (tag number : Byte) (value : Half) :
    Spelling.Statement (.configSet tag number value) := by
  intro _ type tag' payload e
  simp only [requestBytes, Option.some.injEq, Prod.mk.injEq] at e
  obtain ⟨rfl, rfl, rfl⟩ := e
  simp [requestOf, halfBytes, halfOf_halfBytes]

theorem Spelling.configGet (tag number : Byte) :
    Spelling.Statement (.configGet tag number) := by
  intro _ type tag' payload e
  simp only [requestBytes, Option.some.injEq, Prod.mk.injEq] at e
  obtain ⟨rfl, rfl, rfl⟩ := e
  simp [requestOf]

theorem Spelling.freeze (tag : Byte) :
    Spelling.Statement (.freeze tag) := by
  intro _ type tag' payload e
  simp only [requestBytes, Option.some.injEq, Prod.mk.injEq] at e
  obtain ⟨rfl, rfl, rfl⟩ := e
  simp [requestOf]

theorem Spelling.reset (tag : Byte) :
    Spelling.Statement (.reset tag) := by
  intro _ type tag' payload e
  simp only [requestBytes, Option.some.injEq, Prod.mk.injEq] at e
  obtain ⟨rfl, rfl, rfl⟩ := e
  simp [requestOf]

theorem Spelling.faultClear (tag mask : Byte) :
    Spelling.Statement (.faultClear tag mask) := by
  intro _ type tag' payload e
  simp only [requestBytes, Option.some.injEq, Prod.mk.injEq] at e
  obtain ⟨rfl, rfl, rfl⟩ := e
  simp [requestOf]

theorem Spelling.routeLoad (tag index source cls : Byte) (actions : Half) (flags wakeMask errorLimit length : Byte) :
    Spelling.Statement (.routeLoad tag index source cls actions flags wakeMask errorLimit length) := by
  intro _ type tag' payload e
  simp only [requestBytes, Option.some.injEq, Prod.mk.injEq] at e
  obtain ⟨rfl, rfl, rfl⟩ := e
  simp [requestOf, halfBytes, halfOf_halfBytes]

theorem Spelling.routeClear (tag index : Byte) :
    Spelling.Statement (.routeClear tag index) := by
  intro _ type tag' payload e
  simp only [requestBytes, Option.some.injEq, Prod.mk.injEq] at e
  obtain ⟨rfl, rfl, rfl⟩ := e
  simp [requestOf]

theorem Spelling.routeRead (tag index : Byte) :
    Spelling.Statement (.routeRead tag index) := by
  intro _ type tag' payload e
  simp only [requestBytes, Option.some.injEq, Prod.mk.injEq] at e
  obtain ⟨rfl, rfl, rfl⟩ := e
  simp [requestOf]

theorem Spelling.postureLoad (tag row valid posture angle : Byte) (low high : Half) (face lidHall foldHall : Byte) (settle : Half) :
    Spelling.Statement (.postureLoad tag row valid posture angle low high face lidHall foldHall settle) := by
  intro _ type tag' payload e
  simp only [requestBytes, Option.some.injEq, Prod.mk.injEq] at e
  obtain ⟨rfl, rfl, rfl⟩ := e
  simp [requestOf, halfBytes, halfOf_halfBytes]

theorem Spelling.postureRead (tag row : Byte) :
    Spelling.Statement (.postureRead tag row) := by
  intro _ type tag' payload e
  simp only [requestBytes, Option.some.injEq, Prod.mk.injEq] at e
  obtain ⟨rfl, rfl, rfl⟩ := e
  simp [requestOf]

theorem Spelling.orientLock (tag arg : Byte) :
    Spelling.Statement (.orientLock tag arg) := by
  intro _ type tag' payload e
  simp only [requestBytes, Option.some.injEq, Prod.mk.injEq] at e
  obtain ⟨rfl, rfl, rfl⟩ := e
  simp [requestOf]

theorem Spelling.dockSend (tag node cls len : Byte) (payload : List Byte) :
    Spelling.Statement (.dockSend tag node cls len payload) := by
  intro h type tag' payload' e
  simp only [requestBytes, Option.some.injEq, Prod.mk.injEq] at e
  obtain ⟨rfl, rfl, rfl⟩ := e
  simp only [lengthAgrees, decide_eq_true_eq] at h
  simp [requestOf, h]

theorem Spelling.detachAnswer (tag arg : Byte) :
    Spelling.Statement (.detachAnswer tag arg) := by
  intro _ type tag' payload e
  simp only [requestBytes, Option.some.injEq, Prod.mk.injEq] at e
  obtain ⟨rfl, rfl, rfl⟩ := e
  simp [requestOf]

theorem Spelling.dockRetry (tag : Byte) :
    Spelling.Statement (.dockRetry tag) := by
  intro _ type tag' payload e
  simp only [requestBytes, Option.some.injEq, Prod.mk.injEq] at e
  obtain ⟨rfl, rfl, rfl⟩ := e
  simp [requestOf]

theorem Spelling.penConfig (tag enable : Byte) (period burst : Half) (taper resume keep absent progress session postures wake : Byte) :
    Spelling.Statement (.penConfig tag enable period burst taper resume keep absent progress session postures wake) := by
  intro _ type tag' payload e
  simp only [requestBytes, Option.some.injEq, Prod.mk.injEq] at e
  obtain ⟨rfl, rfl, rfl⟩ := e
  simp [requestOf, halfBytes, halfOf_halfBytes]

theorem Spelling.supply (tag arg : Byte) :
    Spelling.Statement (.supply tag arg) := by
  intro _ type tag' payload e
  simp only [requestBytes, Option.some.injEq, Prod.mk.injEq] at e
  obtain ⟨rfl, rfl, rfl⟩ := e
  simp [requestOf]

theorem Spelling.hostState (tag arg : Byte) :
    Spelling.Statement (.hostState tag arg) := by
  intro _ type tag' payload e
  simp only [requestBytes, Option.some.injEq, Prod.mk.injEq] at e
  obtain ⟨rfl, rfl, rfl⟩ := e
  simp [requestOf]

theorem Spelling.holdClaim (tag slot cls owner : Byte) (lifetime : Half) :
    Spelling.Statement (.holdClaim tag slot cls owner lifetime) := by
  intro _ type tag' payload e
  simp only [requestBytes, Option.some.injEq, Prod.mk.injEq] at e
  obtain ⟨rfl, rfl, rfl⟩ := e
  simp [requestOf, halfBytes, halfOf_halfBytes]

theorem Spelling.holdRelease (tag slot owner : Byte) :
    Spelling.Statement (.holdRelease tag slot owner) := by
  intro _ type tag' payload e
  simp only [requestBytes, Option.some.injEq, Prod.mk.injEq] at e
  obtain ⟨rfl, rfl, rfl⟩ := e
  simp [requestOf]

theorem Spelling.drain (tag count lane : Byte) :
    Spelling.Statement (.drain tag count lane) := by
  intro _ type tag' payload e
  simp only [requestBytes, Option.some.injEq, Prod.mk.injEq] at e
  obtain ⟨rfl, rfl, rfl⟩ := e
  simp [requestOf]

theorem Spelling.coldReset :
    Spelling.Statement (.coldReset) := by
  intro _ _ _ _ e
  cases e

theorem Spelling.warmResetPin :
    Spelling.Statement (.warmResetPin) := by
  intro _ _ _ _ e
  cases e

theorem Spelling.lidReadTimerExpiry :
    Spelling.Statement (.lidReadTimerExpiry) := by
  intro _ _ _ _ e
  cases e

theorem Spelling.lidSampleArrival (x y z : Byte × Byte) :
    Spelling.Statement (.lidSampleArrival x y z) := by
  intro _ _ _ _ e
  cases e

theorem Spelling.lidReadFailure :
    Spelling.Statement (.lidReadFailure) := by
  intro _ _ _ _ e
  cases e

theorem Spelling.rotSettleExpiry :
    Spelling.Statement (.rotSettleExpiry) := by
  intro _ _ _ _ e
  cases e

theorem Spelling.pairingTimerExpiry :
    Spelling.Statement (.pairingTimerExpiry) := by
  intro _ _ _ _ e
  cases e

theorem Spelling.staleTimerExpiry :
    Spelling.Statement (.staleTimerExpiry) := by
  intro _ _ _ _ e
  cases e

theorem Spelling.hallChange (input : HallInput) (level : HallLevel) :
    Spelling.Statement (.hallChange input level) := by
  intro _ _ _ _ e
  cases e

theorem Spelling.settleTimerExpiry :
    Spelling.Statement (.settleTimerExpiry) := by
  intro _ _ _ _ e
  cases e

theorem Spelling.dockFrameTaken :
    Spelling.Statement (.dockFrameTaken) := by
  intro _ _ _ _ e
  cases e

theorem Spelling.stallTimerExpiry :
    Spelling.Statement (.stallTimerExpiry) := by
  intro _ _ _ _ e
  cases e

theorem Spelling.dockCharacter (data : BitVec 9) (mark stop : Bool) :
    Spelling.Statement (.dockCharacter data mark stop) := by
  intro _ _ _ _ e
  cases e

theorem Spelling.dockFrameArrival (node : BitVec 3) (cls : BitVec 4) (restart : Bool) (payload : List Byte) :
    Spelling.Statement (.dockFrameArrival node cls restart payload) := by
  intro _ _ _ _ e
  cases e

theorem Spelling.errorWindowExpiry :
    Spelling.Statement (.errorWindowExpiry) := by
  intro _ _ _ _ e
  cases e

theorem Spelling.transmissionStart :
    Spelling.Statement (.transmissionStart) := by
  intro _ _ _ _ e
  cases e

theorem Spelling.transmissionComplete :
    Spelling.Statement (.transmissionComplete) := by
  intro _ _ _ _ e
  cases e

theorem Spelling.dockSenseLevel (s1 s2 s3 : Bool) :
    Spelling.Statement (.dockSenseLevel s1 s2 s3) := by
  intro _ _ _ _ e
  cases e

theorem Spelling.senseDebounceComplete :
    Spelling.Statement (.senseDebounceComplete) := by
  intro _ _ _ _ e
  cases e

theorem Spelling.senseLoss :
    Spelling.Statement (.senseLoss) := by
  intro _ _ _ _ e
  cases e

theorem Spelling.latchRequest :
    Spelling.Statement (.latchRequest) := by
  intro _ _ _ _ e
  cases e

theorem Spelling.helloTimerExpiry :
    Spelling.Statement (.helloTimerExpiry) := by
  intro _ _ _ _ e
  cases e

theorem Spelling.grantTimerExpiry :
    Spelling.Statement (.grantTimerExpiry) := by
  intro _ _ _ _ e
  cases e

theorem Spelling.quiesceTimerExpiry :
    Spelling.Statement (.quiesceTimerExpiry) := by
  intro _ _ _ _ e
  cases e

theorem Spelling.releaseWindowExpiry :
    Spelling.Statement (.releaseWindowExpiry) := by
  intro _ _ _ _ e
  cases e

theorem Spelling.latchDelayExpiry :
    Spelling.Statement (.latchDelayExpiry) := by
  intro _ _ _ _ e
  cases e

theorem Spelling.latchPeriodExpiry :
    Spelling.Statement (.latchPeriodExpiry) := by
  intro _ _ _ _ e
  cases e

theorem Spelling.latchOnExpiry :
    Spelling.Statement (.latchOnExpiry) := by
  intro _ _ _ _ e
  cases e

theorem Spelling.penCycleEnd :
    Spelling.Statement (.penCycleEnd) := by
  intro _ _ _ _ e
  cases e

theorem Spelling.burstTimerExpiry :
    Spelling.Statement (.burstTimerExpiry) := by
  intro _ _ _ _ e
  cases e

theorem Spelling.probeStart :
    Spelling.Statement (.probeStart) := by
  intro _ _ _ _ e
  cases e

theorem Spelling.probeEnd :
    Spelling.Statement (.probeEnd) := by
  intro _ _ _ _ e
  cases e

theorem Spelling.penRxEdge (rising : Bool) (atUs : Nat) :
    Spelling.Statement (.penRxEdge rising atUs) := by
  intro _ _ _ _ e
  cases e

theorem Spelling.captureOverflow :
    Spelling.Statement (.captureOverflow) := by
  intro _ _ _ _ e
  cases e

theorem Spelling.progressWindowExpiry :
    Spelling.Statement (.progressWindowExpiry) := by
  intro _ _ _ _ e
  cases e

theorem Spelling.sessionLimit :
    Spelling.Statement (.sessionLimit) := by
  intro _ _ _ _ e
  cases e

theorem Spelling.dimTimerExpiry :
    Spelling.Statement (.dimTimerExpiry) := by
  intro _ _ _ _ e
  cases e

theorem Spelling.sleepTimerExpiry :
    Spelling.Statement (.sleepTimerExpiry) := by
  intro _ _ _ _ e
  cases e

theorem Spelling.gatherTimerExpiry :
    Spelling.Statement (.gatherTimerExpiry) := by
  intro _ _ _ _ e
  cases e

theorem Spelling.holdExpiry (slot : Fin 8) :
    Spelling.Statement (.holdExpiry slot) := by
  intro _ _ _ _ e
  cases e

theorem Spelling.flushTimerExpiry :
    Spelling.Statement (.flushTimerExpiry) := by
  intro _ _ _ _ e
  cases e

theorem Spelling.hallMillisecondLevel (l1 l2 l3 f1 f2 f3 : Bool) :
    Spelling.Statement (.hallMillisecondLevel l1 l2 l3 f1 f2 f3) := by
  intro _ _ _ _ e
  cases e

theorem Spelling.latchButtonMillisecondLevel (s1 s2 s3 : Bool) :
    Spelling.Statement (.latchButtonMillisecondLevel s1 s2 s3) := by
  intro _ _ _ _ e
  cases e

end Sys2Proof.Laws
end

