-- ==== Sys2Proof/Laws/Wide.lean ====
section
/-! SUPPORT. What the larger operations leave: pen and sleep operations for every view of Laws/Frame.lean, and
posture, dock state and link operations for the views that see nothing of the PSE and the DLC either. -/

namespace Sys2Proof.Machine

namespace Blind

variable {α : Type} {π : State → α} (h : Blind π)
include h

/-! ## Pen -/

theorem runCycle (s) : π (runCycle s) = π s := by
  unfold Machine.runCycle; split
  · rfl
  · exact h.pcc _ _

theorem penFails (e c s) : π (penFails e c s) = π s := by
  simp only [Machine.penFails]; rw [h.raiseFault, h.place, h.pcc]

theorem sessionLimit (s) : π (sessionLimit s) = π s := by
  unfold Machine.sessionLimit; split
  · rw [h.penFails, h.pcc]
  · rfl

theorem checkLimit (s) : π (checkLimit s) = π s := by
  unfold Machine.checkLimit; split
  · exact h.sessionLimit s
  · exact h.pcc _ _

theorem penFull (s) : π (penFull s) = π s := by
  simp only [Machine.penFull]; rw [h.place, h.pcc]

theorem penDocked (l s) : π (penDocked l s) = π s := by
  simp only [Machine.penDocked]
  rw [h.activity]
  split
  · rw [h.beginSession h.place, h.place, h.pcc, h.pcc]
  · rw [h.place, h.pcc, h.pcc]

theorem penRemoved (s) : π (penRemoved s) = π s := by
  simp only [Machine.penRemoved]
  split
  · rw [h.wake, h.activity, h.place, h.pcc]
  · rw [h.activity, h.place, h.pcc]

theorem countSilent (s) : π (countSilent s) = π s := by
  simp only [Machine.countSilent]; split
  · rw [h.penRemoved, h.pcc]
  · exact h.pcc _ _

theorem decodeChange (r s) : π (decodeChange r s) = π s := by
  unfold Machine.decodeChange
  split
  · exact h.pcc _ _
  · exact h.penDocked _ _
  · exact h.pcc _ _
  · exact h.pcc _ _
  · simp only; split
    · rw [h.penFull, h.pcc]
    · exact h.pcc _ _
  · simp only; split
    · rw [h.penFull, h.pcc]
    · exact h.pcc _ _
  · exact h.pcc _ _
  · exact h.pcc _ _
  · exact h.countSilent s
  · exact h.countSilent s
  · exact h.countSilent s
  · exact h.countSilent s
  all_goals rfl

theorem decode (s) : π (decode s) = π s := by
  unfold Machine.decode; rw [h.penAllowance h.place, h.decodeChange]

theorem penOff (s) : π (penOff s) = π s := by
  simp only [Machine.penOff]; rw [h.place, h.pcc]

theorem applyStaged (s) : π (applyStaged s) = π s := by
  unfold Machine.applyStaged; split
  · rfl
  · simp only; split
    · rw [h.penOff, h.pcc]
    · split
      · rw [h.penAllowance h.place, h.checkLimit, h.pcc]
      · rw [h.checkLimit, h.penAllowance h.place, h.pcc]

theorem cycleEnd (s) : π (cycleEnd s) = π s := by
  unfold Machine.cycleEnd; split
  · rw [h.runCycle, h.applyStaged]; split
    · exact h.decode s
    · rfl
  · rfl

theorem progressExpired (s) : π (progressExpired s) = π s := by
  unfold Machine.progressExpired; split
  · split
    · exact h.pcc _ _
    · exact h.penFails _ _ _
  · rfl

theorem placeSet (p s) : π (placeSet p s) = π s := by
  unfold Machine.placeSet; split
  · simp only; split
    · rw [h.runCycle, h.pcc, h.pcc]
    · exact h.pcc _ _
  · exact h.pcc _ _

/-! ## Sleep -/

theorem dimExpired (s) : π (dimExpired s) = π s := by
  unfold Machine.dimExpired; split
  · simp only; split
    · rw [h.changeSleep h.place (h.giveVerdict _ _ _), h.sdu]
    · exact h.sdu _ _
  · rfl

theorem sleepExpired (s) : π (sleepExpired s) = π s := by
  unfold Machine.sleepExpired
  split
  · simp only; split
    · split
      · exact h.sdu _ _
      · rw [h.adviseSleep, h.sdu]
    · split
      · exact h.sdu _ _
      · rw [h.adviseSleep, h.sdu]
    all_goals exact h.sdu _ _
  · rfl

theorem hostStandby (s) : π (hostStandby s) = π s := by
  unfold Machine.hostStandby
  split
  all_goals first
    | rfl
    | rw [h.changeSleep h.place (v := noVerdict) (fun _ => rfl), h.sdu, h.idleStop]

theorem hostRunning (s) : π (hostRunning s) = π s := by
  unfold Machine.hostRunning
  split
  all_goals first
    | exact h.activity s
    | rw [h.changeSleep h.place (v := noVerdict) (fun _ => rfl), h.sdu, h.idleRestart]

theorem setHold (i x s) : π (setHold i x s) = π s := h.sdu _ _

theorem claimHold (i c o l s) : π (claimHold i c o l s) = π s := by
  simp only [Machine.claimHold]; split
  · rw [h.resumeActive, h.setHold]
  · exact h.setHold _ _ _

theorem deferredAdvice (s) : π (deferredAdvice s) = π s := by
  unfold Machine.deferredAdvice
  split
  · split
    · exact h.adviseSleep _ _
    · split
      · exact h.adviseSleep _ _
      · rfl
  · split
    · exact h.adviseSleep _ _
    · split
      · exact h.adviseSleep _ _
      · rfl
  all_goals rfl

theorem holdExpired (i s) : π (holdExpired i s) = π s := by
  unfold Machine.holdExpired; split
  · split
    · rw [h.deferredAdvice, h.place, h.setHold]
    · rfl
  · rfl

theorem lidClosed (s) : π (lidClosed s) = π s := by
  unfold Machine.lidClosed
  split
  · split
    · exact h.activity s
    · rw [h.adviseSleep, h.idleRestart]
  · split
    · exact h.activity s
    · rw [h.adviseSleep, h.idleRestart]
  · split
    · exact h.activity s
    · rw [h.giveVerdict, h.sdu, h.idleRestart]
  all_goals rfl

theorem sleepOnCommit (a b s) : π (sleepOnCommit a b s) = π s := by
  simp only [Machine.sleepOnCommit]
  split <;> split <;> simp [h.wake, h.lidClosed, h.activity]

/-! ## Routes -/

theorem vacateRoute (c i s) : π (vacateRoute c i s) = π s := by
  simp only [Machine.vacateRoute]
  split <;> split <;> simp [h.endStall, h.synthesize h.place]

theorem writeRoute (i e s) : π (writeRoute i e s) = π s := by
  simp only [Machine.writeRoute]; rw [h.onRoute, h.vacateRoute]

end Blind

/-- A view that sees nothing of the PSE and the DLC either: all that a commit, a dock state change and an
arriving frame can change. -/
structure BlindDock {α : Type} (π : State → α) : Prop extends Blind π where
  pse : ∀ f s, π (State.onPse f s) = π s
  dlc : ∀ f s, π (State.onDlc f s) = π s

namespace BlindDock

variable {α : Type} {π : State → α} (h : BlindDock π)
include h

/-! ## Orientation -/

theorem rotExpire (q s) : π (rotExpire q s) = π s := by
  unfold Machine.rotExpire
  split
  · split
    · simp only; split
      · exact h.pse _ _
      · rw [h.place, h.pse]
    · exact h.pse _ _
  all_goals rfl

theorem startRotSettle (o s) : π (startRotSettle o s) = π s := h.pse _ _

theorem compareRho (q r s) : π (compareRho q r s) = π s := by
  unfold Machine.compareRho
  split
  · exact h.pse _ _
  · split
    · rfl
    · simp only; split
      · rw [h.rotExpire, h.startRotSettle]
      · exact h.startRotSettle _ _

theorem orientStep (s) : π (orientStep s) = π s := by
  simp only [Machine.orientStep]
  split
  · split
    · exact h.pse _ _
    · rw [h.place, h.pse]
  · split
    · rw [h.place, h.compareRho, h.pse]
    · rw [h.compareRho, h.pse]

theorem recheckBlocked (s) : π (recheckBlocked s) = π s := by
  unfold Machine.recheckBlocked
  split
  · split
    · exact h.startRotSettle _ _
    · rfl
  all_goals rfl

/-! ## Commits and evaluation -/

omit h in
/-- Three readers that a view cannot see, in any order. -/
theorem readers {a b c : State → State} (ha : ∀ s, π (a s) = π s) (hb : ∀ s, π (b s) = π s)
    (hc : ∀ s, π (c s) = π s) (o : ReaderOrder) (s) : π (o.run a b c s) = π s := by
  cases o <;> simp [ReaderOrder.run, ha, hb, hc]

theorem commitPosture (p c r s) : π (commitPosture p c r s) = π s := by
  simp only [Machine.commitPosture]
  rw [h.recheckBlocked, readers (h.recompute _) (h.penAllowance h.place) (h.sleepOnCommit _ _), h.place,
    Machine.writeCommit, h.pse]

theorem cancelSettle (s) : π (cancelSettle s) = π s := h.pse _ _

theorem settleRow (i s) : π (settleRow i s) = π s := by
  simp only [Machine.settleRow]
  split
  · exact h.cancelSettle s
  · split
    · rfl
    · split
      · rw [h.commitPosture, h.cancelSettle]
      · exact h.pse _ _

theorem evaluate (s) : π (evaluate s) = π s := by
  unfold Machine.evaluate
  split
  · rfl
  · split
    · exact h.settleRow _ _
    · exact h.cancelSettle s

theorem setFace (f s) : π (setFace f s) = π s := by
  unfold Machine.setFace; split
  · rfl
  · rw [h.evaluate, h.pse]

theorem invalidateBase (s) : π (invalidateBase s) = π s := by
  unfold Machine.invalidateBase; rw [h.setFace, h.pse]

theorem baseSample (v s) : π (baseSample v s) = π s := by
  simp only [Machine.baseSample]; rw [h.setFace, h.pse]

theorem postureOnDock (o s) : π (postureOnDock o s) = π s := by
  simp only [Machine.postureOnDock]
  have h1 : ∀ b : Bool, π (if b = true then s else Machine.invalidateBase s) = π s := by
    intro b; split
    · rfl
    · exact h.invalidateBase s
  split
  · split
    · exact h1 _
    · rw [h.commitPosture, h.cancelSettle, h1]
  · split
    · rw [h.evaluate, h.commitPosture, h.cancelSettle, h1]
    · exact h1 _

theorem hingeStepOf (s) : π (hingeStepOf s) = π s := by
  unfold Machine.hingeStepOf
  split
  · simp only [Machine.hingeUpdate]; rw [h.evaluate, h.pse]
  · unfold Machine.gateFailure; split
    · rw [h.evaluate, h.pse]
    · rfl

theorem lidSample (v s) : π (lidSample v s) = π s := by
  unfold Machine.lidSample; rw [h.hingeStepOf, h.orientStep, h.pse]

theorem lidFailure (s) : π (lidFailure s) = π s := by
  simp only [Machine.lidFailure]; split
  · rw [h.raiseFault, h.pse]
  · exact h.pse _ _

theorem setHall (i x s) : π (setHall i x s) = π s := by
  unfold Machine.setHall; split <;> exact h.pse _ _

theorem acceptHall (i l s) : π (acceptHall i l s) = π s := by
  unfold Machine.acceptHall; rw [h.presentLocal, h.evaluate, h.setHall]

theorem settleHall (i l s) : π (settleHall i l s) = π s := by
  unfold Machine.settleHall; split
  · exact h.acceptHall _ _ _
  · rfl

theorem hallMillisecond (a b s) : π (hallMillisecond a b s) = π s := by
  simp only [Machine.hallMillisecond, Machine.countHall]
  split
  · rw [h.settleHall, h.settleHall, h.setHall, h.setHall]
  · rw [h.settleHall, h.settleHall, h.setHall, h.setHall]

theorem setLock (b s) : π (setLock b s) = π s := by
  unfold Machine.setLock; split
  · rfl
  · simp only; split
    · exact h.pse _ _
    · rw [h.recheckBlocked, h.pse]

/-! ## Dock state -/

theorem changeDock {u : State → State} (hu : ∀ s, π (u s) = π s) (n e c s) :
    π (changeDock n e c u s) = π s := by
  simp only [Machine.changeDock]
  rw [readers (h.postureOnDock _) (h.recompute _) hu, h.dlc]
  split
  · rw [h.place, h.dlc]
  · exact h.dlc _ _

omit h in
theorem nothing (s) : π (nothing s) = π s := rfl

theorem acceptHello (i s) : π (acceptHello i s) = π s := by
  simp only [Machine.acceptHello]
  rw [h.changeDock (fun s => by rw [h.activity, h.wake])]
  split
  · exact h.dlc _ _
  · rw [h.invalidateBase, h.dlc]

theorem latchRequested (s) : π (latchRequested s) = π s := by
  unfold Machine.latchRequested; split
  · exact h.changeDock (h.wake _) _ _ _ _
  · rfl

theorem plainChange (n e c s) : π (Machine.changeDock n e c Machine.nothing s) = π s :=
  h.changeDock nothing n e c s

theorem restartDock (s) : π (restartDock s) = π s := by
  unfold Machine.restartDock
  split
  all_goals first
    | rfl
    | exact h.plainChange _ _ _ _

theorem loseBase (s) : π (loseBase s) = π s := by
  unfold Machine.loseBase
  split
  · exact h.changeDock h.activity _ _ _ _
  · exact h.changeDock (fun s => by rw [h.activity, h.wake]) _ _ _ _
  · exact h.changeDock (fun s => by rw [h.activity, h.wake]) _ _ _ _
  · exact h.changeDock (fun s => by rw [h.activity, h.wake]) _ _ _ _
  · exact h.plainChange _ _ _ _
  · exact h.plainChange _ _ _ _
  · exact h.plainChange _ _ _ _
  · rfl

theorem senseMillisecond (b s) : π (senseMillisecond b s) = π s := by
  unfold Machine.senseMillisecond
  split
  · simp only; split
    · rw [h.plainChange, h.dlc]
    · exact h.dlc _ _
  · split
    · rfl
    · simp only; split
      · rw [h.plainChange, h.dlc]
      · exact h.dlc _ _

theorem senseComplete (s) : π (senseComplete s) = π s := by
  unfold Machine.senseComplete; split
  · rw [h.plainChange, h.dlc]
  · rfl

theorem senseLost (s) : π (senseLost s) = π s := by
  unfold Machine.senseLost; split
  · rw [h.loseBase, h.dlc]
  · rfl

theorem acceptPress (s) : π (acceptPress s) = π s := by
  unfold Machine.acceptPress; rw [h.latchRequested, h.dlc]

theorem buttonMillisecond (b s) : π (buttonMillisecond b s) = π s := by
  unfold Machine.buttonMillisecond
  split
  · exact h.dlc _ _
  · split
    · exact h.dlc _ _
    · split
      · exact h.dlc _ _
      · split
        · exact h.acceptPress s
        · exact h.dlc _ _

theorem helloExpired (s) : π (helloExpired s) = π s := by
  unfold Machine.helloExpired; split
  · split
    · exact h.dlc _ _
    · rw [h.raiseFault, h.plainChange]
  · rfl

/-! ## Link -/

theorem linkError (s) : π (linkError s) = π s := by
  unfold Machine.linkError; split
  · simp only; split
    · rw [h.plainChange, h.raiseFault, h.dlc, h.dlc]
    · exact h.dlc _ _
  · rfl

theorem nodeZeroRestart (s) : π (nodeZeroRestart s) = π s := by
  unfold Machine.nodeZeroRestart Machine.reenableDock; split
  · rw [h.restartDock, h.reenable]
  · rw [h.reenable, h.restartDock]

theorem managementClass (c p s) : π (managementClass c p s) = π s := by
  unfold Machine.managementClass; split
  · split
    · exact h.acceptHello _ _
    · exact h.linkError s
  · split
    · exact h.plainChange _ _ _ _
    · rfl

theorem management (c b p s) : π (management c b p s) = π s := by
  unfold Machine.management; rw [h.managementClass]; split
  · exact h.nodeZeroRestart s
  · rfl

theorem bufferFrame (f s) : π (bufferFrame f s) = π s := by
  unfold Machine.bufferFrame; split
  · exact h.dlc _ _
  · exact h.raiseFault _ _

theorem frameArrives (n c b p s) : π (frameArrives n c b p s) = π s := by
  unfold Machine.frameArrives
  split
  · rfl
  · split
    · exact h.linkError s
    · split
      · split
        · rfl
        · exact h.management _ _ _ _
      · split
        · exact h.bufferFrame _ _
        · rfl

theorem setRx (r s) : π (setRx r s) = π s := h.dlc _ _

theorem dataCharacter (b s) : π (dataCharacter b s) = π s := by
  unfold Machine.dataCharacter
  split
  · rfl
  · split
    · rw [h.linkError, h.setRx]
    · split <;> exact h.setRx _ _
  · split <;> exact h.setRx _ _
  · split
    · rw [h.frameArrives, h.setRx]
    · rw [h.linkError, h.setRx]

theorem receive (a b c s) : π (receive a b c s) = π s := by
  unfold Machine.receive
  split
  · rfl
  · split
    · split
      · rw [h.linkError, h.setRx]
      · rfl
    · split
      · simp only; split
        · rw [h.linkError, h.setRx]
        · exact h.setRx _ _
      · exact h.dataCharacter _ _

theorem tap (f s) : π (tap f s) = π s := by
  unfold Machine.tap; split
  · split
    · exact h.baseSample _ _
    · rfl
  · rfl

theorem takeDock (f s) : π (takeDock f s) = π s := by
  simp only [Machine.takeDock]; rw [h.classify, h.tap]; split
  · exact h.reenable _ _
  · rfl

theorem takeHead (s) : π (takeHead s) = π s := by
  unfold Machine.takeHead; split
  · exact h.takeDock _ _
  · rfl

end BlindDock

theorem blindDock_time : BlindDock State.time := { blind_time with pse := fun _ _ => rfl, dlc := fun _ _ => rfl }
theorem blindDock_params : BlindDock State.params := { blind_params with pse := fun _ _ => rfl, dlc := fun _ _ => rfl }
theorem blindDock_choices : BlindDock State.choices := { blind_choices with pse := fun _ _ => rfl, dlc := fun _ _ => rfl }
theorem blindDock_pending : BlindDock State.pending := { blind_pending with pse := fun _ _ => rfl, dlc := fun _ _ => rfl }
theorem blindDock_link : BlindDock fun s => s.hlc.link := { blind_link with pse := fun _ _ => rfl, dlc := fun _ _ => rfl }

end Sys2Proof.Machine
end

