-- ==== Sys2Proof/Tests/Slice0.lean ====
section
/-! SUPPORT. Tests and witnesses. The tests take their expected values from the worked examples and the tables of
spec/, one step each. The witnesses show for each statement with hypotheses a concrete state and operands that
meet them, clause by clause, at boundary values where a clause has a range. -/

namespace Sys2Proof.Tests

open Sys2Proof Sys2Proof.Machine

-- One theorem after another: a hundred kernel evaluations at once would each take a thread's stack.
set_option Elab.async false

/-! ## Helpers -/

/-- The state that a command leaves. -/
abbrev after (c : Instr) (s : State) : State :=
  match exec c s with
  | .next t => t
  | .fault f => nomatch f
  | .refused _ => s

/-- The state after power-on. -/
abbrev z : State := State.reset

/-- An attached base in LAPTOP, with nodes 1, 2 and 3. -/
abbrev docked : State :=
  (z.onDlc fun d => { d with
    state := .attached, sense := true
    identity := { present := true, kind := 1, revision := 1, flags := 0, nodes := [⟨1, 1⟩, ⟨2, 2⟩, ⟨3, 3⟩] } }).onPse
  fun p => { p with record := { p.record with posture := .laptop } }

/-- A state with its dock state replaced. -/
abbrev inDock (k : DockState) (s : State) : State := s.onDlc fun d => { d with state := k }

/-- A state with its sleep state replaced. -/
abbrev inSleep (k : SleepState) (s : State) : State := s.onSdu fun u => { u with sleep := k }

/-- A state with its pen state replaced. -/
abbrev inPen (k : PenState) (s : State) : State := s.onPcc fun p => { p with state := k }

/-- The freeze lock set. -/
abbrev frozen : State := z.onHlc fun h => { h with frozen := true }

/-- A forwarding URGENT entry for source 1. -/
abbrev entry : RouteEntry :=
  { RouteEntry.cleared with
    valid := true, source := 1, actions := Vector.replicate 8 .forward, lane := .urgent, effective := .forward }

/-- The attached base with one route entry and one frame of source 1. -/
abbrev routed (e : RouteEntry) (payload : List Byte) : State :=
  ((docked.onRoute 0 fun _ => e).onDlc fun d => { d with buffer := [⟨1, 1, payload, false⟩] })

/-- `n` records of a lane with a payload of `k` zero bytes. -/
abbrev records (lane : Lane) (forwarded : Bool) (n k : Nat) : List Record :=
  List.replicate n ⟨.fwd, lane, 1, 1, 0, 0, List.replicate k 0, forwarded⟩

/-- The answer pending, as type, status and payload length. -/
abbrev answer (s : State) : Option (Byte × Status × Nat) :=
  s.hlc.response.map fun r => (r.rtype, r.status, r.payload.length)

/-! ## WellFormed: each check refuses an ill-formed command -/

theorem test_wf_refuses_long_dock_send : (Instr.dockSend 0 1 1 62 (List.replicate 62 0)).wellFormed = false := by
  decide +kernel

theorem test_wf_takes_longest_dock_send : (Instr.dockSend 0 1 1 61 (List.replicate 61 0)).wellFormed = true := by
  decide +kernel

theorem test_wf_refuses_long_dock_frame :
    (Instr.dockFrameArrival 1 1 false (List.replicate 33 0)).wellFormed = false := by
  decide +kernel

theorem test_wf_takes_longest_dock_frame :
    (Instr.dockFrameArrival 1 1 false (List.replicate 32 0)).wellFormed = true := by
  decide +kernel

theorem test_wf_refuses_edge_after_listen : (Instr.penRxEdge true 5000).wellFormed = false := by decide

theorem test_wf_takes_last_edge : (Instr.penRxEdge true 4999).wellFormed = true := by decide

theorem test_wf_refuses_high_start_bit : (Instr.dockCharacter 3 true true).wellFormed = false := by decide

/-- R79: the eleven bits of the address character 0x01, start bit first. -/
theorem test_wf_takes_character :
    (Instr.dockCharacter 2 true true).wellFormed = true ∧ lineBits 0x01 = 2 ∧ charBits 0x01 true true = 0x602 := by
  decide

/-! ## Worked examples of chapters 1 and 2 -/

/-- 1.6: αL and αB of the worked lid sample. -/
theorem test_sector_angles : sectorAngle 940 (-342) = 3400 ∧ sectorAngle 12 1003 = 893 ∧ sectorAngle 940 15 = 9 := by
  decide +kernel

/-- 1.5: the table of wrap and minimum step. -/
theorem test_smoothing : smoothHinge 1093 1080 2 = 1083 ∧ smoothHinge 5 3590 2 = 3593
    ∧ smoothHinge 3591 3593 2 = 3592 := by
  decide +kernel

/-- The state before the worked lid sample. -/
abbrev laptopSample : State := docked.onPse fun p => { p with
  hf := 1080, hinge := .valid, base := ⟨-8, 12, 1003⟩, baseValid := true, pairTimer := some 28, face := .up
  readBusy := some 1 }

/-- 1.5: the worked lid sample, its axes low byte first, gives Hf 1083 and keeps the orientation. -/
theorem test_lid_sample :
    let t := after (.lidSampleArrival (0x0F, 0) (0xAC, 0x03) (0xAA, 0xFE)) laptopSample
    t.pse.hf = 1083 ∧ t.pse.hinge = .valid ∧ t.pse.rho = 9 ∧ t.pse.candidate = .none
      ∧ t.pse.staleTimer = some 1000 := by
  decide +kernel

/-- 1.5: HELD at an arrival with the base not pairable. -/
theorem test_lid_sample_held :
    (after (.lidSampleArrival (0x0F, 0) (0xAC, 0x03) (0xAA, 0xFE))
      (laptopSample.onPse fun p => { p with pairTimer := none })).pse.hinge
      = .held := by
  decide +kernel

/-- The recommended table of 2.2 with a committed posture and a hinge angle, face UP and both halls CLEAR. -/
abbrev tableState (posture : Posture) (hf : Nat) : State :=
  docked.onPse fun p => { p with
    hf := hf, hinge := .valid, face := .up, record := { p.record with posture := posture }
    rows := (((((p.rows.set 0 ⟨true, .closed, false, 0, 0, .any, .set, .any, 0⟩).set 1
      ⟨true, .tablet, false, 0, 0, .any, .any, .set, 500⟩).set 2
      ⟨true, .laptop, true, 300, 1500, .up, .any, .any, 300⟩).set 3
      ⟨true, .flat, true, 1500, 2100, .any, .any, .any, 500⟩).set 4
      ⟨true, .stand, true, 2100, 3300, .down, .any, .any, 500⟩).set 5
      ⟨true, .tent, true, 2100, 3450, .edge, .any, .any, 500⟩ }

/-- 2.2: the five lines of the row order and hysteresis table. -/
theorem test_row_order :
    (evaluate (tableState .laptop 1520)).pse.settle = none
      ∧ (evaluate (tableState .laptop 1560)).pse.settle = some ⟨.flat, 3, 500⟩
      ∧ (evaluate (tableState .flat 1480)).pse.settle = some ⟨.laptop, 2, 300⟩
      ∧ (evaluate (tableState .flat 2120)).pse.settle = none
      ∧ firstMatch (tableState .flat 2120) = some 3 ∧ firstMatch (tableState .flat 2160) = none := by
  decide +kernel

/-! ## Worked examples of chapters 3 and 4 -/

/-- The keyboard entry of 3.4: FORWARD in LAPTOP and FLAT, WAKE_ONLY in CLOSED, wake mask CLOSED and LAPTOP. -/
abbrev keyboard : RouteEntry :=
  { entry with
    actions := #v[.drop, .wakeOnly, .forward, .forward, .drop, .drop, .drop, .drop]
    paired := true, activity := true, wakeMask := 0x06 }

/-- The battery entry of 3.4. -/
abbrev battery : RouteEntry :=
  { entry with source := 4, lane := .bulk, actions := (Vector.replicate 8 RouteAction.forward).set 7 .drop }

/-- The hall entry of 3.4: wake mask CLOSED and TABLET. -/
abbrev halls : RouteEntry := { entry with source := 9, wakeMask := 0x42 }

/-- A dock state, posture and sleep state. -/
abbrev situation (k : DockState) (p : Posture) (u : SleepState) : State :=
  (inSleep u (inDock k docked)).onPse fun q => { q with record := { q.record with posture := p } }

/-- 3.4: the effective actions in the six situations. -/
theorem test_six_situations :
    let acts := fun s => [keyboard, battery, halls].map (effectiveAction s)
    acts (situation .attached .laptop .active) = [.forward, .forward, .forward]
      ∧ acts (situation .attached .tablet .active) = [.drop, .forward, .forward]
      ∧ acts (situation .attached .closed .standby) = [.wakeOnly, .drop, .forward]
      ∧ acts (situation .attached .laptop .standby) = [.forward, .drop, .drop]
      ∧ acts (situation .quiescing .laptop .active) = [.drop, .drop, .forward]
      ∧ acts (situation .absent .slate .active) = [.drop, .drop, .forward] := by
  decide +kernel

/-- Chapter 4: a fold to TABLET releases 225 before 4, behind the POSTURE record, and empties the pool. -/
theorem test_fold_releases :
    let s := (docked.onRoute 0 fun _ => { keyboard with activity := false }).onTcl fun t => { t with
      pool := [⟨0, 225⟩, ⟨0, 4⟩] }
    let t := after .settleTimerExpiry (s.onPse fun p => { p with settle := some ⟨.tablet, 1, 0⟩ })
    (t.rqu.urgent.map (·.kind)).drop 1 = [.posture, .release, .release]
      ∧ (t.rqu.urgent.drop 2).map (·.payload) = [[0, 225, 0], [0, 4, 0]] ∧ t.tcl.pool = [] := by
  decide +kernel

/-- Chapter 4: a DOWN with the pool full sets the mark; the FWD record is placed. -/
theorem test_full_pool_sets_mark :
    let s := (routed { entry with paired := true } [21, 1]).onTcl fun t => { t with
      pool := (List.range 32).map fun n => ⟨1, BitVec.ofNat 8 (n + 1)⟩ }
    let t := after .dockFrameTaken s
    t.tcl.routes[0].overflow = true ∧ t.tcl.pool.length = 32 ∧ t.rqu.urgent.length = 2 := by
  decide +kernel

/-- R35, R76, R152: a commit that the SDU reads first resumes ACTIVE, and the release still carries POSTURE. -/
theorem test_commit_read_by_sdu_first :
    let s := (inSleep .sleepAdvised (docked.onRoute 0 fun _ => { entry with
      actions := (Vector.replicate 8 .forward).set 6 .drop, paired := true })).onPse fun p => { p with
        record := { p.record with posture := .closed }, settle := some ⟨.tablet, 1, 0⟩ }
    let t := after .settleTimerExpiry { (s.onSdu fun u => { u with advised := .lidClosed }).onTcl fun t => { t with
      pool := [⟨0, 4⟩] } with choices := { s.choices with commit := .cab } }
    t.sdu.sleep = .active ∧ (t.rqu.urgent.drop 1).map (·.kind) = [.posture, .verdict, .release]
      ∧ (t.rqu.urgent.drop 3).map (·.payload) = [[0, 4, 0]] := by
  decide +kernel

/-! ## Worked examples of chapters 5 and 6 -/

/-- R80: the CRC-8 of the two bytes of the example. -/
theorem test_crc8 : crc8 [0x01, 0x00] = 0x15 := by decide +kernel

/-- Chapter 6: a granted detach, at 1400 (the grant, with the item released behind it). -/
theorem test_grant_releases_held_item :
    let s := ((inDock .detachRequested docked).onDlc fun d => { d with grantTimer := some 2600 }).onRoute 0
      fun _ => { keyboard with activity := false }
    let t := after (.detachAnswer 1 0) (s.onTcl fun t => { t with pool := [⟨0, 42⟩] })
    t.dlc.state = .quiescing ∧ t.dlc.quiesceTimer = some 100 ∧ answer t = some (0xA1, .ok, 0)
      ∧ (t.rqu.urgent.drop 1).map (·.kind) = [.dock, .release] ∧ t.tcl.pool = [] := by
  decide +kernel

/-- R111, R101: where the PSE reads a grant first, an immediate commit stands before the releases, which carry DOCK. -/
theorem test_grant_read_by_pse_first :
    let s := (((inDock .detachRequested docked).onDlc fun d => { d with grantTimer := some 2600 }).onRoute 0
      fun _ => { keyboard with activity := false }).onPse fun p => { p with
        face := .up, rows := p.rows.set 0 ⟨true, .flat, false, 0, 0, .any, .any, .any, 0⟩ }
    let t := after (.detachAnswer 1 0) { (s.onTcl fun t => { t with pool := [⟨0, 42⟩] }) with
      choices := { s.choices with dock := .abc } }
    (t.rqu.urgent.drop 1).map (·.kind) = [.dock, .posture, .release]
      ∧ (t.rqu.urgent.drop 3).map (·.payload) = [[0, 42, SynthCause.dock.code]] ∧ t.tcl.pool = [] := by
  decide +kernel

/-- R102, R116: RESTARTED out of RELEASING carries no period count. -/
theorem test_restart_in_releasing :
    let s := (inDock .releasing docked).onDlc fun d => { d with window := some 9, latchCount := 3 }
    let t := after (.dockFrameArrival 0 9 true []) s
    t.dlc.state = .identifying
      ∧ ((t.rqu.urgent.drop 1).headD Record.coldStart).payload = [DockEvent.restarted.code, 2, 6, 0xFF, 0, 0] := by
  decide +kernel

/-- Chapter 6: the sense loss at 1651 (DETACHED with three periods, then POSTURE SLATE). -/
theorem test_sense_loss_in_releasing :
    let s := (inDock .releasing docked).onDlc fun d => { d with
      senseTimer := some 0, window := some 3751, latchPhase := .pulsing, latchCount := 3, latchDrv := true
      latchPeriod := some 71, latchOn := some 31 }
    let t := after .senseLoss s
    t.dlc.state = .absent ∧ t.dlc.latchDrv = false ∧ t.pse.record.posture = .slate
      ∧ (t.rqu.urgent.drop 1).map (·.kind) = [.dock, .posture]
      ∧ ((t.rqu.urgent.drop 1).headD Record.coldStart).payload.drop 4 = [3, 0] := by
  decide +kernel

/-- Chapter 6: the relock at 5402 (RELOCKED with 40 periods, then POSTURE UNKNOWN, UNQUIESCE and notice owed). -/
theorem test_relock :
    let s := (inDock .releasing docked).onDlc fun d => { d with
      window := some 0, latchPhase := .pulsing, latchCount := 40, latchPeriod := some 20 }
    let t := after .releaseWindowExpiry s
    t.dlc.state = .attached ∧ t.dlc.quiesceMark = some .unquiesce ∧ t.dlc.noticeMark = true
      ∧ (t.rqu.urgent.drop 1).map (·.kind) = [.dock, .posture]
      ∧ ((t.rqu.urgent.drop 1).headD Record.coldStart).payload.drop 4 = [40, 0]
      ∧ t.pse.record.posture = .unknown := by
  decide +kernel

/-! ## Worked examples of chapter 7 -/

/-- A pen state with the end of a probed cycle due and a capture. -/
abbrev penAt (k : PenState) (c : Capture) : State :=
  (inPen k docked).onPcc fun p => { p with
    active := { PenSet.default with enable := true }, cycleTimer := some 0, probed := true, capture := c, sessions := 6 }

/-- Chapter 7: count 64 in SEARCHING is 44 % and DETECTED. -/
theorem test_pen_detected :
    let t := after .penCycleEnd (penAt .searching ⟨some 100, some 64, false⟩)
    t.pcc.state = .detected ∧ t.pcc.level = some 44 ∧ t.rqu.urgent.length = 1 := by
  decide +kernel

/-- Chapter 7: the second valid reply docks the pen, opens session 7 and starts a burst of 60 ms. -/
theorem test_pen_docked :
    let t := after .penCycleEnd (penAt .detected ⟨some 100, some 64, false⟩)
    t.pcc.state = .charging ∧ t.pcc.sessions = 7 ∧ t.pcc.burstTimer = some 60 ∧ t.pcc.penDrv = true
      ∧ t.pcc.progressTimer = some 600000 ∧ t.pcc.baseline = some 44
      ∧ (t.rqu.urgent.drop 1).map (fun r => r.payload.take 1) = [[0], [1]] := by
  decide +kernel

/-- Chapter 7: a set with BURST 200 and PERIOD 100 is stored with BURST 93 and answered OK_CLAMPED. -/
theorem test_pen_config_clamps :
    let t := after (.penConfig 1 1 100 200 80 95 50 3 10 120 0xFC 1) (penAt .charging Capture.empty)
    t.pcc.staged.map (·.burst) = some 93 ∧ answer t = some (0xA8, .okClamped, 0) := by
  decide +kernel

/-- Chapter 7: the third silent probe of a full pen in standby removes it and wakes. -/
theorem test_full_pen_removed :
    let s := (inSleep .standby (penAt .full Capture.empty)).onPcc fun p => { p with
      silentProbes := 2, level := some 100, lastEnd := .full }
    let t := after .penCycleEnd s
    t.pcc.state = .searching ∧ t.pcc.level = none ∧ t.pcc.lastEnd = .full ∧ t.sdu.sleep = .waking
      ∧ t.sdu.wakeList = [.penRemoved] := by
  decide +kernel

/-- R135: the supply lost in the millisecond that reaches the limit pauses the session just short of it. -/
theorem test_limit_loses_tie :
    let s := (penAt .charging Capture.empty).onPcc fun p => { p with
      cycleTimer := some 50, progressTimer := some 600000, sessionOpen := true, seconds := 7199, millis := 999 }
    let due := after .captureOverflow (match step s with
      | .next t => t
      | .fault f => nomatch f
      | .refused _ => s)
    let t := after (.supply 1 2) due
    limitReached due = true ∧ t.pcc.state = .paused ∧ (t.pcc.seconds, t.pcc.millis) = (7199, 999)
      ∧ (after .sessionLimit due).pcc.seconds = 7200 := by
  decide +kernel

/-! ## Worked examples of chapters 8 and 9 -/

/-- Chapter 8: at 420 the release of the last hold with the sleep mark set advises SLEEP for IDLE. -/
theorem test_release_gives_deferred_advice :
    let s := (inSleep .drowsy docked).onSdu fun u => { u with
      sleepMark := true, holds := u.holds.set 2 (some ⟨.idle, 7, 0, none⟩) }
    let t := after (.holdRelease 1 2 7) s
    t.sdu.sleep = .sleepAdvised ∧ t.sdu.advised = .idle
      ∧ answer (after (.holdRelease 1 2 9) s) = some (0xB2, .notOwner, 0) := by
  decide +kernel

/-- Chapter 8: a FULL hold claimed against LID_CLOSED resumes; an IDLE hold does not. -/
theorem test_claim_against_lid_advice :
    let s := (inSleep .sleepAdvised docked).onSdu fun u => { u with advised := .lidClosed }
    (after (.holdClaim 1 0 0 3 0) s).sdu.sleep = .sleepAdvised ∧ (after (.holdClaim 1 1 1 4 600) s).sdu.sleep = .active := by
  decide +kernel

/-- Chapter 8: the gather's expiry places WAKE with ROUTE_WAKE and PEN_REMOVED in that order. -/
theorem test_gather :
    let s := (inSleep .waking docked).onSdu fun u => { u with
      gatherTimer := some 0, wakeList := [.routeWake, .penRemoved] }
    let t := after .gatherTimerExpiry s
    t.sdu.sleep = .waking ∧ t.sdu.wakeList = [] ∧ t.sdu.gatherTimer = none
      ∧ (t.rqu.urgent.drop 1).map (·.payload) = [[2, WakeKind.routeWake.code, WakeKind.penRemoved.code]] := by
  decide +kernel

/-- R156: the gather's own record, lost in a full lane, starts a new gather where URGENT_LOSS is a reason to wake. -/
theorem test_gather_lost_starts_anew :
    let s := ((inSleep .waking docked).onSdu fun u => { u with
      gatherTimer := some 0, wakeList := [.penRemoved] }).onRqu fun q => { q with urgent := records .urgent false 32 0 }
    let t := after .gatherTimerExpiry (s.onParams fun p => { p with faultSeverity := 0x8000 })
    t.sdu.wakeList = [.fault] ∧ t.sdu.gatherTimer = some s.params.wakeGather.toNat := by
  decide +kernel

/-- Chapter 9: one DRAIN of both lanes against the byte limit takes 14 records, 494 bytes, and leaves 9. -/
theorem test_drain_byte_limit :
    let s := docked.onRqu fun q => { q with
      urgent := records .urgent false 1 8 ++ records .urgent false 1 12 ++ records .urgent false 1 6
      bulk := records .bulk false 20 32 }
    let t := after (.drain 1 16 2) s
    t.rqu.urgent = [] ∧ t.rqu.bulk.length = 9 ∧ answer t = some (0xB8, .ok, 494)
      ∧ (t.hlc.response.map fun r => r.payload.take 4) = some [14, 0, 9, 1] ∧ t.hlc.alert = true := by
  decide +kernel

/-- Chapter 9: at 114 the sixth coalesced record flushes two into the last room of the BULK lane. -/
theorem test_coalescing_at_114 :
    let s := (routed { entry with lane := .bulk, coalesce := true } [1]).onRqu fun q => { q with
      bulk := records .bulk false 94 0, stage := records .bulk false 5 0, flushTimer := some 6 }
    let t := after .dockFrameTaken s
    t.rqu.stage.length = 4 ∧ t.rqu.bulk.length = 96 ∧ t.rqu.flushTimer = some 20 ∧ t.rqu.bulkGap = 0 := by
  decide +kernel

/-- Chapter 9: a forwarded hall record lost with 24 marks held raises URGENT_LOSS, whose FAULT record carries the
gap. -/
theorem test_urgent_loss :
    let s := (docked.onRoute 2 fun _ => { halls with wakeMask := 0 }).onRqu fun q => { q with
      urgent := records .urgent true 24 0 ++ records .urgent false 7 0 }
    let t := after (.hallChange .lid .set) s
    t.rqu.urgent.length = 32 ∧ forwardedCount t.rqu.urgent = 24 ∧ t.rqu.urgentGap = 0
      ∧ t.hlc.faults[7] = ⟨true, 1⟩ ∧ (t.rqu.urgent.drop 31).map (fun r => (r.kind, r.gap)) = [(.fault, 1)] := by
  decide +kernel

/-! ## Chapter 10 -/

/-- R180: the CRC-16 of the nine ASCII digits, the generator's check value. -/
theorem test_crc16 : crc16 [0x31, 0x32, 0x33, 0x34, 0x35, 0x36, 0x37, 0x38, 0x39] = 0x29B1 := by decide +kernel

/-- R185: LID_RATE 120 is stored as 100, CAL_OFFSET 1000 as 300, and a severity code 3 as WAKE. -/
theorem test_clamping :
    clampParam 1 120 = 100 ∧ clampParam 6 1000 = 300 ∧ clampParam 6 (-1000) = -300
      ∧ clampParam 31 0xC003 = 0x8002 ∧ clampParam 2 99 = 100 := by
  decide +kernel

/-- The frame of an IDENTIFY reaches its request, and the next transaction shifts its answer out. -/
theorem test_identify_by_transaction :
    let s := after (.hostTransaction 0 ⟨bitsOfBytes (requestFrame 0x01 7 []), true⟩) z
    answer s = some (0x81, .ok, 16)
      ∧ (after (.hostTransaction 20 ⟨bitsOfBytes (List.replicate 7 0), true⟩) s).hlc.miso
        = [0x81, 7, 0, 16, 0, 0x20, 0x04] := by
  decide +kernel

/-- R178, R188: RESET_N within a transaction abandons it; its request is lost, and the next is taken. -/
theorem test_reset_abandons_transaction :
    let bits := bitsOfBytes (requestFrame 0x01 7 [])
    let cut := after .warmResetPin (after (.hostTransaction 0 ⟨bits.take 20, false⟩) z)
    let s := after (.hostTransaction 0 ⟨bits.drop 20, true⟩) cut
    cut.hlc.transfer = .abandoned ∧ answer s = none ∧ s.hlc.transfer = .idle
      ∧ answer (after (.hostTransaction 0 ⟨bits, true⟩) s) = some (0x81, .ok, 16) := by
  decide +kernel

/-! ## The table's words -/

/-- No row of the opcode table gives bits, so no word spells a command. -/
theorem test_no_words (nbits w : Nat) : decodeTableWord nbits w = none ∧ z.withFetchWord nbits w = z := by
  constructor <;> rfl

/-! ## Witnesses: the part as a machine and the Host Link -/

theorem witness_EmptyQueueStep :
    (z.pending = [] ∧ due z = none)
      ∧ (z.onPse fun p => { p with readTimer := some 0 }).pending = []
      ∧ due (z.onPse fun p => { p with readTimer := some 0 }) = some .lidReadTimerExpiry := by
  decide +kernel

theorem witness_EveryCommandAnswers :
    (∀ tag number value, Instr.identify 1 ≠ .configSet tag number value)
      ∧ (∀ waited mosi, Instr.identify 1 ≠ .hostTransaction waited mosi) ∧ Instr.identify 1 ≠ .coldReset := by
  simp

theorem witness_PinsFollowTheirRules : ∃ t, exec (.identify 1) z = .next t := ⟨_, rfl⟩

theorem witness_LanesLoseRecordsOnlyByDrain :
    (∃ t, exec (.identify 1) z = .next t) ∧ (∀ tag count lane, Instr.identify 1 ≠ .drain tag count lane)
      ∧ (∀ waited mosi, Instr.identify 1 ≠ .hostTransaction waited mosi)
      ∧ (∀ tag, Instr.identify 1 ≠ .reset tag)
      ∧ Instr.identify 1 ≠ .coldReset ∧ Instr.identify 1 ≠ .warmResetPin := by
  refine ⟨⟨_, rfl⟩, ?_⟩
  simp

theorem witness_FrozenConfigurationHolds :
    frozen.hlc.frozen = true ∧ Instr.identify 1 ≠ .coldReset ∧ ∃ t, exec (.identify 1) frozen = .next t := by
  exact ⟨rfl, by simp, _, rfl⟩

/-- A state in which the 20 µs interval has all of its length left. -/
abbrev busy : State := z.onHlc fun h => { h with interval := 20 }

theorem witness_RequestFrameRunsItsRequest :
    (requestBytes (.configSet 1 7 100) = some (3, 1, [7, 100, 0]) ∧ (Instr.configSet 1 7 100).wellFormed = true
      ∧ busy.hlc.transfer = .idle ∧ busy.hlc.interval ≤ 20)
      ∧ (requestBytes (.dockSend 1 1 1 61 (List.replicate 61 0)) = some (0x20, 1, [1, 1, 61] ++ List.replicate 61 0)
      ∧ (Instr.dockSend 1 1 1 61 (List.replicate 61 0)).wellFormed = true ∧ z.hlc.transfer = .idle
      ∧ z.hlc.interval ≤ 0) := by
  decide +kernel

theorem witness_TransactionWithoutRequest :
    busy.hlc.transfer = .idle ∧ 19 < busy.hlc.interval ∧ (busy.hlc.interval ≤ 20 ∧ (0 : Byte) = 0)
      ∧ (List.replicate 7 true).length < 8 ∧ 8 ≤ ([] ++ List.replicate 8 true).length
      ∧ (z.onHlc fun h => { h with transfer := .abandoned }).hlc.transfer = .abandoned := by
  decide +kernel

theorem witness_RefusedBeforeDispatch :
    ((0x01 : Byte) ≠ 0 ∧ busy.hlc.transfer = .idle ∧ busy.hlc.interval ≤ 20)
      ∧ (([] : List Byte).length < 3 ∧ (0 : Byte) = ([] : List Byte).headD 0)
      ∧ (([5, 1] : List Byte).length < 3 ∧ (5 : Byte) = ([5, 1] : List Byte).headD 0)
      ∧ 64 < (halfOf 65 0).toNat
      ∧ ([7, 1] : List Byte).length < (halfOf 1 0).toNat + 2
      ∧ crc16 ([0x01, 5, 0, 0] ++ ([0, 0] : List Byte).take (halfOf 0 0).toNat) ≠ halfOf
          ((([0, 0] : List Byte).drop (halfOf 0 0).toNat).headD 0)
          ((([0, 0] : List Byte).drop ((halfOf 0 0).toNat + 1)).headD 0)
      ∧ (List.replicate 64 (0 : Byte)).length ≤ 64
      ∧ (0x08 : Byte).toNat ∉ [1, 2, 3, 4, 5, 6, 7, 16, 17, 18, 24, 25, 26, 32, 33, 34, 40, 41, 48, 49, 50, 56]
      ∧ ((0x01 : Byte).toNat, 0) ∈ [(1, 0), (2, 0), (3, 3), (4, 1), (5, 0), (6, 0), (7, 1), (16, 9), (17, 1), (18, 1),
          (24, 13), (25, 1), (26, 1), (33, 1), (34, 0), (40, 13), (41, 1), (48, 1), (49, 5), (50, 2), (56, 2)]
      ∧ ([9] : List Byte).length ≠ 0 := by
  decide +kernel

theorem witness_ConfigSetStores :
    (1 ≤ (1 : Byte).toNat ∧ (31 : Byte).toNat ≤ 31)
      ∧ (frozen.hlc.frozen = true → (5 : Byte).toNat ∉ [6, 12, 13, 30, 31])
      ∧ (z.hlc.frozen = true → (31 : Byte).toNat ∉ [6, 12, 13, 30, 31])
      ∧ ((13 : Byte).toNat ∈ [13, 19] → (1 : Half).toNat ≤ 1) ∧ ((19 : Byte).toNat ∈ [13, 19] → (0 : Half).toNat ≤ 1)
      ∧ (6 : Byte).toNat = 6 ∧ (31 : Byte).toNat = 31 ∧ paramRange (2 : Byte).toNat = some (100, 1000)
      ∧ paramRange (30 : Byte).toNat = some (0, 255) ∧ (11 : Byte).toNat = 11 ∧ (12 : Byte).toNat ≠ 11
      ∧ (let s := docked.onPse fun p => { p with candidate := .blocked .portrait }
         s.pse.candidate = .blocked .portrait ∧ s.pse.lock = false
          ∧ maskHas ((0x04 : Half).setWidth 8) s.posture = true ∧ maskHas ((0xFB : Half).setWidth 8) s.posture = false) := by
  decide +kernel

/-- A route entry at index 0 whose key a load at index 1 may repeat. -/
abbrev keyHeld : State := z.onRoute 0 fun _ => entry

/-- An attached base with all four frame slots taken. -/
abbrev slotsFull : State := docked.onDlc fun d => { d with slots := List.replicate 4 ⟨1, 1, [], false⟩ }

/-- Slot 7 held by owner 9. -/
abbrev held7 : State := z.onSdu fun u => { u with holds := u.holds.set 7 (some ⟨.idle, 9, 5, some 5000⟩) }

theorem witness_RequestsRefuse_config :
    ((0 : Byte).toNat = 0 ∧ 31 < (32 : Byte).toNat) ∧ (frozen.hlc.frozen = true
      ∧ (6 : Byte).toNat ∈ [6, 12, 13, 30, 31] ∧ (31 : Byte).toNat ∈ [6, 12, 13, 30, 31])
      ∧ ((19 : Byte).toNat = 19 ∧ ((13 : Byte).toNat = 13 ∧ z.hlc.frozen = false) ∧ 1 < (2 : Half).toNat) := by
  decide +kernel

theorem witness_RequestsRefuse_route :
    frozen.hlc.frozen = true ∧ z.hlc.frozen = false ∧ 64 ≤ (64 : Byte).toNat ∧ (63 : Byte).toNat < 64
      ∧ (15 < (16 : Byte).toNat) ∧ ((0 : Byte) ≠ 0xFF ∧ (0 : Byte) = 0) ∧ ((16 : Byte) ≠ 0xFF ∧ 15 < (16 : Byte).toNat)
      ∧ (∃ k : Fin 8, (0xC000 : Half).extractLsb' (2 * k) 2 = 3) ∧ 15 < (16 : Byte).toNat
      ∧ ((33 : Byte) ≠ 0xFF ∧ 32 < (33 : Byte).toNat) ∧ ((4 : Byte).getLsbD 2 = true ∧ (1 : Byte).toNat < 2)
      ∧ ¬ (15 < (1 : Byte).toNat ∨ ((0xFF : Byte) ≠ 0xFF ∧ ((0xFF : Byte) = 0 ∨ 15 < (0xFF : Byte).toNat))
        ∨ (∃ k : Fin 8, (0x5555 : Half).extractLsb' (2 * k) 2 = 3) ∨ 15 < (15 : Byte).toNat ∨ 15 < (15 : Byte).toNat
        ∨ ((0xFF : Byte) ≠ 0xFF ∧ 32 < (0xFF : Byte).toNat) ∨ ((15 : Byte).getLsbD 2 = true ∧ (0xFF : Byte).toNat < 2))
      ∧ (∃ j : Fin 64, j.val ≠ (63 : Byte).toNat ∧ keyHeld.tcl.routes[j].valid = true
        ∧ keyHeld.tcl.routes[j].source.toNat = (1 : Byte).toNat ∧ keyHeld.tcl.routes[j].cls.code = 0xFF) := by
  decide +kernel

theorem witness_RequestsRefuse_others :
    (12 ≤ (12 : Byte).toNat ∧ 1 < (2 : Byte).toNat ∧ (0 : Byte) = 0 ∧ 6 < (7 : Byte).toNat ∧ 3599 < (3600 : Half).toNat
      ∧ 3 < (4 : Byte).toNat ∧ 2 < (3 : Byte).toNat ∧ 5000 < (5001 : Half).toNat)
      ∧ ¬ (1 ≤ (8 : Byte).toNat ∧ (8 : Byte).toNat ≤ 7)
      ∧ (1 ≤ (7 : Byte).toNat ∧ (7 : Byte).toNat ≤ 7 ∧ 1 ≤ (15 : Byte).toNat ∧ (15 : Byte).toNat ≤ 15
        ∧ (0 : Byte).toNat ≤ 32 ∧ ([] : List Byte).length = (0 : Byte).toNat)
      ∧ ¬ (z.dlc.state = .attached ∨ z.dlc.state = .detachRequested)
      ∧ ((slotsFull.dlc.state = .attached ∨ slotsFull.dlc.state = .detachRequested) ∧ 4 ≤ slotsFull.dlc.slots.length)
      ∧ ((1 : Byte).toNat ≤ 1 ∧ z.dlc.state ≠ .detachRequested) ∧ z.dlc.state ≠ .faulted
      ∧ ((1 : Byte).toNat ≤ 1 ∧ (z.onPcc fun p => { p with staged := some PenSet.default }).pcc.staged.isSome = true)
      ∧ (8 ≤ (8 : Byte).toNat ∧ (9 : Byte) ≠ 0 ∧ held7.sdu.holds[(7 : Byte).toNat].isSome = true
        ∧ z.sdu.holds[(7 : Byte).toNat] = none
        ∧ held7.sdu.holds[(7 : Byte).toNat] = some ⟨.idle, 9, 5, some 5000⟩ ∧ (9 : Byte) ≠ 8)
      ∧ ((0 : Byte) = 0 ∧ 16 < (17 : Byte).toNat ∧ 2 < (3 : Byte).toNat) := by
  decide +kernel

theorem witness_StoppedTimersDoNothing :
    let s := { z with
      pse := { z.pse with readTimer := none }, sdu := { z.sdu with dimTimer := none, sleepTimer := none } }
    (s.pse.readBusy = none ∧ (1 : BitVec 9).getLsbD 0 = true
      ∧ s.pse.readTimer = none ∧ s.pse.rotTimer = none ∧ s.pse.staleTimer = none ∧ s.pse.settle = none
      ∧ s.tcl.stall = none ∧ s.dlc.buffer = [] ∧ s.dlc.errTimer = none ∧ s.dlc.state = .absent
      ∧ s.dlc.sending = none ∧ s.dlc.senseTimer = none ∧ s.dlc.helloTimer = none ∧ s.dlc.grantTimer = none
      ∧ s.dlc.quiesceTimer = none ∧ s.dlc.window = none ∧ s.dlc.latchDelay = none ∧ s.dlc.latchPeriod = none
      ∧ s.dlc.latchOn = none ∧ s.pcc.cycleTimer = none ∧ s.pcc.burstTimer = none ∧ s.pcc.probed = false
      ∧ s.pcc.phase ≠ .probe ∧ s.pcc.capture.rise = none ∧ s.pcc.progressTimer = none ∧ s.pcc.state ≠ .charging
      ∧ s.sdu.dimTimer = none ∧ s.sdu.sleepTimer = none ∧ s.sdu.gatherTimer = none ∧ s.sdu.holds[0] = none
      ∧ s.rqu.flushTimer = none) := by
  decide +kernel

/-! ## Witnesses: the Posture Engine -/

theorem witness_AngleArithmetic :
    ((1 : Int) ≠ 0 ∨ (0 : Int) ≠ 0) ∧ (0 : Int) < 1 ∧ (3599 < 3600 ∧ 0 < 3600 ∧ 3 ≤ 3 ∧ 3599 ≠ 0) := by
  decide

theorem witness_LidReadsAndHingeTimersExpire :
    let fails := fun n => z.onPse fun p => { p with failures := n, readBusy := some 0 }
    let stale := z.onPse fun p => { p with staleTimer := some 0 }
    z.pse.readTimer = some 10
      ∧ (fails 8).pse.readBusy = some 0
      ∧ ((fails 8).pse.failures ≤ 10 ∧ (fails 8).pse.failures ≠ 9 ∧ (fails 10).pse.failures ≤ 10
        ∧ (fails 10).pse.failures ≠ 9)
      ∧ ((fails 9).pse.failures = 9 ∧ (fails 9).params.masked .lidSensor = false
        ∧ (fails 9).hlc.faults[5].status = false ∧ (fails 9).params.severity .lidSensor ≠ .log)
      ∧ ((fails 9).onParams fun p => { p with faultMask := 0x20 }).params.masked .lidSensor = true
      ∧ stale.pse.staleTimer = some 0
      ∧ stale.dlc.state ∈ [.absent, .sensed, .identifying, .faulted] := by
  decide +kernel

theorem witness_LidSampleOrientsAndMovesHinge :
    laptopSample.pse.readBusy.isSome = true
      ∧ max (0 : Int).natAbs (499 : Int).natAbs < z.params.flatLevel.toNat
      ∧ ¬ max (0 : Int).natAbs (500 : Int).natAbs < z.params.flatLevel.toNat
      ∧ circularDistance (sectorAngle 500 0) z.pse.orient.centre ≤ 450 + z.params.rotHyst.toNat
      ∧ ¬ circularDistance (sectorAngle 0 500) z.pse.orient.centre ≤ 450 + z.params.rotHyst.toNat
      ∧ z.pse.candidate.orientation ≠ some (sectorOf (sectorAngle 0 500)) ∧ z.params.rotSettle ≠ 0
      ∧ (laptopSample.pse.baseValid = true ∧ laptopSample.pse.pairTimer.isSome = true
        ∧ laptopSample.params.minPlane.toNat ≤ max (350 : Int).natAbs (0 : Int).natAbs
        ∧ laptopSample.params.minPlane.toNat ≤ max laptopSample.pse.base.y.natAbs laptopSample.pse.base.z.natAbs)
      ∧ ¬ laptopSample.params.minPlane.toNat ≤ max (349 : Int).natAbs (0 : Int).natAbs := by
  decide +kernel

theorem witness_RotationSettlesAndLocks :
    let s := z.onPse fun p => { p with candidate := .settling .portrait, rotTimer := some 0 }
    let locked := s.onPse fun p => { p with lock := true }
    let blocked := z.onPse fun p => { p with lock := true, candidate := .blocked .portrait }
    (s.pse.candidate = .settling .portrait ∧ s.pse.rotTimer = some 0)
      ∧ (s.pse.lock = false ∧ maskHas s.params.orientMask s.posture = true) ∧ locked.pse.lock = true
      ∧ maskHas docked.params.orientMask docked.posture = false
      ∧ (blocked.pse.lock = true ∧ blocked.pse.candidate = .blocked .portrait
        ∧ maskHas blocked.params.orientMask blocked.posture = true)
      ∧ z.pse.lock = false := by
  decide +kernel

theorem witness_HallInputsDebounce :
    let lidRun := fun n => (⟨.clear, n, false⟩ : Hall)
    let s := z.onPse fun p => { p with lidHall := lidRun 19, foldHall := lidRun 18 }
    let u := z.onPse fun p => { p with lidHall := lidRun 18, foldHall := lidRun 19 }
    z.pse.lidHall.fresh = true ∧ HallLevel.clear = s.pse.lidHall.level
      ∧ (s.pse.foldHall.run + 1 < s.params.hallDebounce.toNat ∧ s.pse.foldHall.run < 255)
      ∧ (s.pse.lidHall.fresh = false ∧ (if majority false false true then HallLevel.clear else .set) ≠ s.pse.lidHall.level
        ∧ s.params.hallDebounce.toNat ≤ s.pse.lidHall.run + 1 ∧ s.pse.lidHall.run < 255 ∧ s.pse.foldHall.fresh = false
        ∧ (if majority true true false then HallLevel.clear else .set) = s.pse.foldHall.level)
      ∧ (u.pse.foldHall.fresh = false ∧ (if majority false false true then HallLevel.clear else .set) ≠ u.pse.foldHall.level
        ∧ u.params.hallDebounce.toNat ≤ u.pse.foldHall.run + 1 ∧ u.pse.foldHall.run < 255 ∧ u.pse.lidHall.fresh = false
        ∧ (if majority true true false then HallLevel.clear else .set) = u.pse.lidHall.level)
      ∧ z.pse.lidHall.level ≠ .set ∧ z.pse.foldHall.level ≠ .set ∧ z.pse.lidHall.level = .clear
      ∧ lookupRoute (z.onRoute 2 fun _ => halls).tcl.routes 9 1 = some 2
      ∧ lookupRoute (z.onRoute 2 fun _ => halls).tcl.routes 9 2 = some 2 := by
  decide +kernel

theorem witness_SettleExpiryCommits :
    (docked.onPse fun p => { p with settle := some ⟨.tablet, 1, 0⟩ }).pse.settle = some ⟨.tablet, 1, 0⟩ := by
  decide +kernel

/-- The lid closes in DROWSY, with no hold, an IDLE hold and a FULL hold, and opens in STANDBY and WAKING, with
WAKE_GATHER above 0 and 0. -/
theorem witness_SettleExpiryCommits_sleep :
    let s := fun (u : SleepState) (old : Posture) (new : TablePosture) => (inSleep u docked).onPse fun p => { p with
      settle := some ⟨new, 1, 0⟩, record := { p.record with posture := old } }
    let hold := fun (c : HoldClass) (s : State) => s.onSdu fun u => { u with holds := u.holds.set 7 (some ⟨c, 9, 0, none⟩) }
    let shut := s .drowsy .laptop .closed
    let open0 := (s .standby .closed .tablet).onParams fun p => { p with wakeGather := 0 }
    let kinds := fun (t : State) => (t.rqu.urgent.drop 1).map fun r => (r.kind, r.payload.take 3)
    (shut.pse.settle = some ⟨.closed, 1, 0⟩ ∧ shut.sdu.sleep.asleep = false
        ∧ (∀ i : Fin 8, ((hold .idle shut).sdu.holds[i].map (·.cls)) ≠ some .full)
        ∧ (hold .full shut).sdu.holds[(7 : Fin 8)] = some ⟨.full, 9, 0, none⟩)
      ∧ (kinds (after .settleTimerExpiry (hold .idle shut))).drop 1 = [(.verdict, [0x10, 1, 1])]
      ∧ (kinds (after .settleTimerExpiry (hold .full shut))).drop 1 = [(.verdict, [0x10, 2, 0xFF])]
      ∧ (after .settleTimerExpiry (s .sleepAdvised .laptop .closed)).sdu.advised = .lidClosed
      ∧ ((s .waking .laptop .closed).sdu.sleep.asleep = true
        ∧ (after .settleTimerExpiry (s .waking .laptop .closed)).rqu.urgent.length < 32)
      ∧ ((after .settleTimerExpiry (s .standby .closed .tablet)).sdu.wakeList = [.lidOpened]
        ∧ (after .settleTimerExpiry (s .waking .closed .tablet)).sdu.gatherTimer = some 20)
      ∧ (kinds (after .settleTimerExpiry open0)).drop 1 = [(.verdict, [1, 1])] := by
  decide +kernel

theorem witness_EvaluationTakesFirstRow :
    let s := tableState .laptop 1520
    let u := tableState .laptop 1560
    let v := u.onPse fun p => { p with settle := some ⟨.flat, 3, 7⟩ }
    let w := u.onPse fun p => { p with rows := p.rows.set 3 { p.rows[3] with settle := 0 } }
    (0 < 3600 ∧ 3599 < 3600 ∧ 200 ≤ 200 ∧ 3599 < 3600) ∧ z.dlc.state ∈ [.absent, .sensed, .identifying, .faulted]
      ∧ s.dlc.state ∉ [.absent, .sensed, .identifying, .faulted]
      ∧ (rowMatches s.pse.rows[2] s = true ∧ (∀ j : Fin 12, j < 2 → rowMatches s.pse.rows[j] s = false)
        ∧ s.pse.rows[2].posture.toPosture = s.posture)
      ∧ (rowMatches u.pse.rows[3] u = true ∧ (∀ j : Fin 12, j < 3 → rowMatches u.pse.rows[j] u = false)
        ∧ u.pse.rows[3].posture.toPosture ≠ u.posture ∧ u.pse.settle = none ∧ u.pse.rows[3].settle ≠ 0)
      ∧ (v.pse.settle = some ⟨.flat, 3, 7⟩ ∧ TablePosture.flat = v.pse.rows[3].posture) ∧ w.pse.rows[3].settle = 0
      ∧ (∀ j : Fin 12, rowMatches docked.pse.rows[j] docked = false) := by
  decide +kernel

theorem witness_PostureRowReadsBack :
    z.hlc.frozen = false ∧ (11 : Byte).toNat < 12 ∧ (1 : Byte).toNat ≤ 1 ∧ 1 ≤ (6 : Byte).toNat ∧ (6 : Byte).toNat ≤ 6
      ∧ (3599 : Half).toNat ≤ 3599 ∧ (3 : Byte).toNat ≤ 3 ∧ (2 : Byte).toNat ≤ 2 ∧ (5000 : Half).toNat ≤ 5000 := by
  decide

/-! ## Witnesses: the Traffic Classifier -/

theorem witness_LookupPrefersExactKey :
    let v := (z.tcl.routes.set 0 entry).set 5 { entry with cls := .exact 2 }
    (v[5].valid = true ∧ v[5].source = 1 ∧ v[5].cls = .exact 2)
      ∧ (∀ i : Fin 64, ¬ (v[i].valid = true ∧ v[i].source = 1 ∧ v[i].cls = .exact 3))
      ∧ (v[0].valid = true ∧ v[0].source = 1 ∧ v[0].cls = .any)
      ∧ (∀ i : Fin 64, ¬ (v[i].valid = true ∧ v[i].source = 2 ∧ v[i].cls = .any)) := by
  decide +kernel

/-- The frame of `routed`. -/
abbrev frame (payload : List Byte) : Frame := ⟨1, 1, payload, false⟩

theorem witness_DockFrameForwardsOrStalls :
    let s := routed entry [7]
    let full := s.onRqu fun q => { q with urgent := records .urgent true 24 0 }
    let last := s.onRqu fun q => { q with urgent := records .urgent true 23 0 ++ records .urgent false 8 0 }
    (s.dlc.buffer = frame [7] :: [] ∧ s.tcl.stall = none ∧ (frame [7]).restart = false
      ∧ ¬ ((frame [7]).source = 3 ∧ (frame [7]).cls = 1) ∧ lookupRoute s.tcl.routes 1 1 = some 0
      ∧ s.tcl.routes[0].state = .active ∧ malformed s.tcl.routes[0] (frame [7]) = false
      ∧ s.tcl.routes[0].effective = .forward ∧ s.tcl.routes[0].paired = false ∧ s.tcl.routes[0].activity = false
      ∧ s.sdu.sleep.asleep = false ∧ s.tcl.routes[0].lane = .urgent)
      ∧ (last.rqu.urgent.length < 32 ∧ forwardedCount last.rqu.urgent < 24)
      ∧ ¬ (full.rqu.urgent.length < 32 ∧ forwardedCount full.rqu.urgent < 24)
      ∧ ((routed keyboard [7]).tcl.routes[0].activity = true ∧ (routed keyboard [7]).sdu.sleep = .active) := by
  decide +kernel

/-- A RESTART frame for a DISABLED entry, with room for one more record. -/
theorem witness_DockFrameForwardsOrStalls_restart :
    let s := (docked.onRoute 0 fun _ => { entry with state := .disabled, effective := .drop, errors := 3 }).onRqu
      fun q => { q with urgent := records .urgent false 31 0 }
    let f : Frame := ⟨1, 1, [7], true⟩
    let u := s.onDlc fun d => { d with buffer := [f] }
    let back := fun (j : Fin 64) => u.tcl.routes[j].valid = true ∧ u.tcl.routes[j].state = .disabled
      ∧ u.tcl.routes[j].source = f.source
    u.dlc.buffer = f :: [] ∧ u.tcl.stall = none ∧ f.restart = true ∧ back 0
      ∧ (∀ j, back j → u.tcl.routes[j].effective = .drop)
      ∧ u.rqu.urgent.length + ((List.finRange 64).filter (fun j => decide (back j))).length ≤ 32 := by
  decide +kernel

theorem witness_PairedFramesTrackItems :
    let s := routed { entry with paired := true } [21, 1]
    let u := (routed { entry with paired := true } [21, 2]).onTcl fun t => { t with pool := [⟨0, 21⟩] }
    (s.dlc.buffer = frame [21, 1] :: [] ∧ s.tcl.stall = none ∧ lookupRoute s.tcl.routes 1 1 = some 0
      ∧ s.tcl.routes[0].state = .active ∧ malformed s.tcl.routes[0] (frame [21, 1]) = false
      ∧ s.tcl.routes[0].effective = .forward ∧ s.tcl.routes[0].paired = true ∧ s.tcl.routes[0].activity = false
      ∧ s.sdu.sleep.asleep = false ∧ s.tcl.routes[0].lane = .urgent ∧ s.rqu.urgent.length < 32
      ∧ forwardedCount s.rqu.urgent < 24 ∧ (frame [21, 1]).payload = 21 :: (if true then 1 else 2) :: []
      ∧ ¬ (⟨0, 21⟩ : PoolSlot) ∈ s.tcl.pool)
      ∧ malformed u.tcl.routes[0] (frame [21, 2]) = false ∧ (⟨0, 21⟩ : PoolSlot) ∈ u.tcl.pool
      ∧ (frame [21, 2]).payload = 21 :: (if false then 1 else 2) :: [] := by
  decide +kernel

theorem witness_DiscardedFramesAreCounted :
    let none' := docked.onDlc fun d => { d with buffer := [frame [7]] }
    let off := routed { entry with state := .disabled } [7]
    let drop := routed { entry with effective := .drop } [7]
    let bad := routed { entry with length := some 2, errorLimit := 2 } [7]
    let last := routed { entry with length := some 2, errorLimit := 2, errors := 1 } [7]
    (none'.dlc.buffer = frame [7] :: [] ∧ none'.tcl.stall = none ∧ lookupRoute none'.tcl.routes 1 1 = none
      ∧ none'.params.defaultRoute = 0)
      ∧ (lookupRoute off.tcl.routes 1 1 = some 0 ∧ off.tcl.routes[0].state = .disabled)
      ∧ (malformed drop.tcl.routes[0] (frame [7]) = false ∧ drop.tcl.routes[0].effective = .drop)
      ∧ (bad.tcl.routes[0].state = .active ∧ malformed bad.tcl.routes[0] (frame [7]) = true
        ∧ min 15 (bad.tcl.routes[0].errors + 1) ≠ bad.tcl.routes[0].errorLimit)
      ∧ (last.tcl.routes[0].errorLimit ≠ 0 ∧ min 15 (last.tcl.routes[0].errors + 1) = last.tcl.routes[0].errorLimit) := by
  decide +kernel

/-- A frame under WAKE_ONLY in a sleep state, for an entry with a wake mask and a mark of activity. -/
abbrev waker (activity : Bool) (mask : Byte) (u : SleepState) : State :=
  inSleep u (routed { entry with effective := .wakeOnly, activity := activity, wakeMask := mask } [7])

theorem witness_DiscardedFramesAreCounted_wakeOnly :
    let gathering := (waker false 0x04 .waking).onSdu fun u => { u with gatherTimer := some 5, wakeList := [.fault] }
    let wakes := fun (s : State) => maskHas s.tcl.routes[0].wakeMask s.posture = true
    (lookupRoute (waker true 0 .active).tcl.routes 1 1 = some 0 ∧ (waker true 0 .active).tcl.routes[0].state = .active
      ∧ malformed (waker true 0 .active).tcl.routes[0] (frame [7]) = false
      ∧ (waker true 0 .active).tcl.routes[0].effective = .wakeOnly)
      ∧ ((waker false 0 .standby).sdu.sleep.asleep = true ∧ ¬ wakes (waker false 0xFB .standby))
      ∧ ((waker false 4 .active).sdu.sleep.asleep = false ∧ (waker false 4 .active).tcl.routes[0].activity = false)
      ∧ ((waker true 0 .active).tcl.routes[0].activity = true ∧ (waker true 0 .active).sdu.sleep = .active)
      ∧ (waker true 0 .sleepAdvised).sdu.sleep ∈ [.drowsy, .sleepAdvised]
      ∧ (wakes (waker false 0x04 .standby) ∧ (waker false 0x04 .standby).sdu.sleep = .standby
        ∧ (waker false 0x04 .standby).params.wakeGather ≠ 0)
      ∧ (wakes gathering ∧ gathering.sdu.sleep = .waking ∧ gathering.sdu.gatherTimer.isSome = true)
      ∧ (wakes (waker false 0x04 .waking) ∧ (waker false 0x04 .waking).sdu.gatherTimer = none) := by
  decide +kernel

theorem witness_BaseSampleIsTapped :
    let f : Frame := ⟨3, 1, [0xF8, 0xFF, 12, 0, 0xEB, 3], false⟩
    let s := docked.onDlc fun d => { d with buffer := [f] }
    s.dlc.buffer = f :: [] ∧ s.tcl.stall = none ∧ f.restart = false ∧ f.source = 3 ∧ f.cls = 1
      ∧ f.payload = [0xF8, 0xFF, 12, 0, 0xEB, 3] := by
  decide +kernel

/-- A stalled frame of entry 0 with `n` records in the URGENT lane. -/
abbrev stalled (n : Nat) : State :=
  ((routed entry [7]).onTcl fun t => { t with stall := some ⟨0, 0⟩ }).onRqu fun q => { q with
    urgent := records .urgent false n 0 }

/-- A stalled paired frame of entry 0 with item 7 down or up. -/
abbrev stalledPaired (n : Nat) (down : Bool) : State :=
  ((routed { entry with paired := true } [7, if down then 1 else 2]).onTcl fun t => { t with
    stall := some ⟨0, 0⟩ }).onRqu fun q => { q with urgent := records .urgent false n 0 }

theorem witness_StallLimitEndsStall_paired :
    let s := stalledPaired 31 true
    let lost := stalledPaired 32 false
    (s.tcl.stall = some ⟨0, 0⟩ ∧ s.dlc.buffer = frame [7, 1] :: [] ∧ s.tcl.routes[(⟨0, 0⟩ : Stall).entry].paired = true
      ∧ (frame [7, 1]).payload = 7 :: (if true then 1 else 2) :: [] ∧ s.rqu.urgent.length < 32)
      ∧ (lost.tcl.routes[(⟨0, 0⟩ : Stall).entry].paired = true ∧ lost.dlc.buffer = frame [7, 2] :: []
        ∧ (frame [7, 2]).payload = 7 :: (if false then 1 else 2) :: [] ∧ 32 ≤ lost.rqu.urgent.length) := by
  decide +kernel

theorem witness_StallLimitEndsStall :
    ((stalled 31).tcl.stall = some ⟨0, 0⟩ ∧ (stalled 31).dlc.buffer = frame [7] :: []
      ∧ (stalled 31).tcl.routes[(⟨0, 0⟩ : Stall).entry].paired = false ∧ (stalled 31).rqu.urgent.length < 32)
      ∧ 32 ≤ (stalled 32).rqu.urgent.length := by
  decide +kernel

theorem witness_BulkFramesCoalesce :
    let s := (routed { entry with lane := .bulk, coalesce := true } [7]).onRqu fun q => { q with
      stage := records .bulk false 4 0, flushTimer := some 0 }
    s.dlc.buffer = frame [7] :: [] ∧ s.tcl.stall = none ∧ lookupRoute s.tcl.routes 1 1 = some 0
      ∧ s.tcl.routes[0].state = .active ∧ malformed s.tcl.routes[0] (frame [7]) = false
      ∧ s.tcl.routes[0].effective = .forward ∧ s.tcl.routes[0].paired = false ∧ s.tcl.routes[0].activity = false
      ∧ s.sdu.sleep.asleep = false ∧ s.tcl.routes[0].lane = .bulk ∧ s.tcl.routes[0].coalesce = true
      ∧ s.rqu.suppressed = false ∧ s.rqu.stage.length < 5 ∧ s.rqu.flushTimer = some 0 := by
  decide +kernel

theorem witness_BulkFramesCoalesce_edges :
    let at' := fun (n : Nat) (coalesce : Bool) (u : SleepState) =>
      (inSleep u (routed { entry with lane := .bulk, coalesce := coalesce, wakeMask := 0x04 } [7])).onRqu fun q =>
        { q with stage := records .bulk false n 0, suppressed := u.asleep }
    let woken := (at' 1 true .waking).onSdu fun u => { u with gatherTimer := some 5, wakeList := [.routeWake] }
    let free := (docked.onDlc fun d => { d with buffer := [frame [7]] }).onParams fun p => { p with defaultRoute := 1 }
    (¬ 8 ≤ (at' 5 true .active).rqu.stage.length ∧ ¬ (at' 5 true .active).rqu.stage.length < 5)
      ∧ 8 ≤ (at' 8 true .active).rqu.stage.length ∧ (at' 0 false .active).tcl.routes[0].coalesce = false
      ∧ (woken.sdu.sleep = .waking ∧ woken.sdu.gatherTimer.isSome = true ∧ .routeWake ∈ woken.sdu.wakeList
        ∧ woken.rqu.suppressed = true)
      ∧ ((at' 1 true .standby).sdu.sleep = .standby ∧ (at' 1 true .standby).rqu.suppressed = true
        ∧ maskHas (at' 1 true .standby).tcl.routes[0].wakeMask (at' 1 true .standby).posture = true)
      ∧ (lookupRoute free.tcl.routes 1 1 = none ∧ free.params.defaultRoute = 1 ∧ free.dlc.state = .attached) := by
  decide +kernel

theorem witness_RouteEntryReadsBack :
    z.hlc.frozen = false ∧ (63 : Byte).toNat < 64 ∧ (15 : Byte).toNat ≤ 15 ∧ 1 ≤ (15 : Byte).toNat
      ∧ (∀ k : Fin 8, (0x5556 : Half).extractLsb' (2 * k) 2 ≠ 3) ∧ (15 : Byte).toNat ≤ 15 ∧ (32 : Byte).toNat ≤ 32
      ∧ ((15 : Byte).getLsbD 2 = true → 2 ≤ (2 : Byte).toNat) ∧ z.tcl.routes[(63 : Byte).toNat].valid = false
      ∧ (∀ x ∈ z.tcl.pool, x.entry.val ≠ (63 : Byte).toNat) ∧ z.tcl.stall = none
      ∧ (∀ j : Fin 64, z.tcl.routes[j].valid = true → z.tcl.routes[j].source.toNat = (15 : Byte).toNat →
        z.tcl.routes[j].cls.code ≠ 15) := by
  decide +kernel

/-- A load over a valid entry that holds an item, has its mark set and is stalled, with room for two records. -/
theorem witness_RouteEntryReadsBack_over :
    let s := (docked.onRoute 63 fun _ => { entry with paired := true, overflow := true }).onTcl fun t => { t with
      pool := [⟨63, 5⟩], stall := some ⟨63, 0⟩ }
    let u := (s.onDlc fun d => { d with buffer := [frame [5, 1]] }).onRqu fun q => { q with
      urgent := records .urgent false 30 0 }
    u.hlc.frozen = false ∧ u.tcl.routes[(63 : Byte).toNat].valid = true
      ∧ u.tcl.stall.map (·.entry.val) = some (63 : Byte).toNat
      ∧ u.rqu.urgent.length + ((u.tcl.pool.filter (fun x => x.entry.val = (63 : Byte).toNat)).length + 1) ≤ 32
      ∧ (∀ j : Fin 64, j.val ≠ (63 : Byte).toNat → u.tcl.routes[j].valid = true →
        u.tcl.routes[j].source.toNat = (1 : Byte).toNat → u.tcl.routes[j].cls.code ≠ 0xFF) := by
  decide +kernel

theorem witness_RouteClearReleasesItems :
    let s := (docked.onRoute 63 fun _ => { entry with paired := true, overflow := true }).onTcl fun t => { t with
      pool := [⟨63, 5⟩] }
    s.hlc.frozen = false ∧ s.tcl.routes[(63 : Byte).toNat].valid = true ∧ s.tcl.stall = none
      ∧ s.rqu.urgent.length + 2 ≤ 32 := by
  decide +kernel

/-! ## Witnesses: Dock Link, attach and detach -/

theorem witness_CharactersMakeTheFrame :
    ((List.replicate 32 (0 : Byte)).length ≤ 32 ∧ docked.dlc.rx = .hunt ∧ docked.dlc.state ≠ .absent)
      ∧ z.dlc.sending = none
      ∧ (let x : Sending := ⟨frameChars 0 1 [], false⟩
         (docked.onDlc fun d => { d with sending := some x }).dlc.sending = some x
          ∧ x.chars[0]? = some ⟨0x08, true⟩ ∧ x.chars.length = 3 ∧ 10 < 11 ∧ 11 * x.chars.length ≤ 33) := by
  decide +kernel

theorem witness_FrameArrivalIsDispatched :
    let buffered := fun n => docked.onDlc fun d => { d with buffer := List.replicate n (frame [7]) }
    let listed := fun (s : State) (node : BitVec 3) =>
      s.dlc.identity.nodes = [] ∨ s.dlc.identity.nodes.any (fun n => n.node = node.setWidth 8) = true
    (List.replicate 32 (0 : Byte)).length ≤ 32 ∧ z.dlc.state = .absent
      ∧ ((1 : BitVec 3) ≠ 0 ∧ listed docked 1 ∧ docked.dlc.state = .attached ∧ (1 : BitVec 4) ≠ 0)
      ∧ (buffered 3).dlc.buffer.length < 4 ∧ (4 ≤ (buffered 4).dlc.buffer.length ∧ (buffered 4).dlc.state = .attached)
      ∧ ((buffered 4).onTcl fun t => { t with stall := some ⟨0, 5⟩ }).tcl.stall = some ⟨0, 5⟩
      ∧ ((inDock .quiescing docked).dlc.state ≠ .absent ∧ listed (inDock .quiescing docked) 1
        ∧ ¬ ((inDock .quiescing docked).dlc.state = .attached ∨ (inDock .quiescing docked).dlc.state = .detachRequested))
      ∧ ((7 : BitVec 3) ≠ 0 ∧ docked.dlc.state ≠ .absent ∧ ¬ listed docked 7) := by
  decide +kernel

/-- Node 0 frames with RESTART, by dock state, with two DISABLED dock entries and one of the part's own. -/
theorem witness_FrameArrivalIsDispatched_restart :
    let off := fun (n : BitVec 4) => { entry with state := .disabled, effective := .drop, source := n, errors := 3 }
    let s := fun (k : DockState) => inDock k (((docked.onRoute 5 fun _ => off 7).onRoute 9 fun _ => off 0).onRoute 2
      fun _ => off 8)
    let t := after (.dockFrameArrival 0 15 true []) (s .releasing)
    let u := after (.dockFrameArrival 0 2 true []) (s .faulted)
    ((s .sensed).dlc.state = .sensed ∧ (2 : BitVec 4) ≠ 1 ∧ (s .attached).dlc.state ≠ .quiescing)
      ∧ (s .faulted).dlc.state ∉ [.absent, .sensed]
      ∧ ((List.finRange 64).filter (dormant (s .faulted)) = [5, 9]
        ∧ (∀ i, dormant (s .faulted) i = true → (s .faulted).tcl.routes[i].effective = .drop)
        ∧ (s .faulted).rqu.urgent.length + 2 ≤ 32)
      ∧ ((u.rqu.urgent.drop 1).map (fun r => (r.kind, r.source, r.payload)) =
        [(.route, 7, [5, 1, 3, 0, 0]), (.route, 0, [9, 1, 3, 0, 0])] ∧ u.dlc.state = .faulted)
      ∧ ((s .releasing).dlc.state ∈ [.attached, .detachRequested, .quiescing, .releasing]
        ∧ (s .releasing).choices.restartTclFirst = false ∧ t.rqu.urgent.length < 32
        ∧ (t.tcl.routes[(2 : Fin 64)].state = .disabled ∧ t.tcl.routes[(5 : Fin 64)].state = .active))
      ∧ (helloOf [1] = none ∧ 1 < (s .attached).params.linkErrLimit.toNat
        ∧ (s .attached).dlc.errTimer = none
        ∧ ((s .attached).onParams fun p => { p with linkErrLimit := 1 }).params.linkErrLimit.toNat ≤ 1) := by
  decide +kernel

theorem witness_LinkErrorsAreCounted :
    let s := fun n => docked.onDlc fun d => { d with errors := n, errTimer := some 5 }
    (docked.dlc.errTimer = none ∧ docked.dlc.state = .attached ∧ 1 < docked.params.linkErrLimit.toNat)
      ∧ ((s 6).dlc.errTimer ≠ none ∧ (s 6).dlc.errors + 1 < (s 6).params.linkErrLimit.toNat)
      ∧ (s 7).params.linkErrLimit.toNat ≤ (s 7).dlc.errors + 1
      ∧ (¬ ((inDock .quiescing docked).dlc.state = .identifying ∨ (inDock .quiescing docked).dlc.state = .attached
          ∨ (inDock .quiescing docked).dlc.state = .detachRequested) ∧ (inDock .quiescing docked).dlc.state ≠ .absent)
      ∧ (s 6).dlc.errTimer = some 5 := by
  decide +kernel

theorem witness_TransmitterTakesItsTurn :
    let a := docked.onDlc fun d => { d with identifyMark := true }
    let b := docked.onDlc fun d => { d with quiesceMark := some .unquiesce }
    let c := docked.onDlc fun d => { d with noticeMark := true }
    let e := docked.onDlc fun d => { d with slots := [⟨1, 1, [], false⟩] }
    let f := docked.onDlc fun d => { d with
      sending := some ⟨[], true⟩, slots := [⟨1, 1, [], true⟩, ⟨2, 1, [], false⟩, ⟨3, 1, [], false⟩] }
    (a.dlc.sending = none ∧ a.dlc.state ≠ .absent ∧ a.dlc.identifyMark = true)
      ∧ (b.dlc.identifyMark = false ∧ b.dlc.quiesceMark = some .unquiesce)
      ∧ (c.dlc.identifyMark = false ∧ c.dlc.quiesceMark = none ∧ c.dlc.noticeMark = true)
      ∧ (e.dlc.sending = none ∧ e.dlc.noticeMark = false ∧ e.dlc.slots = [] ++ ⟨1, 1, [], false⟩ :: []
        ∧ (⟨1, 1, [], false⟩ : TxSlot).sending = false)
      ∧ f.dlc.sending = some ⟨[], true⟩
      ∧ (1 ≤ (7 : Byte).toNat ∧ (7 : Byte).toNat ≤ 7 ∧ 1 ≤ (15 : Byte).toNat ∧ (15 : Byte).toNat ≤ 15
        ∧ (List.replicate 32 (0 : Byte)).length ≤ 32 ∧ f.dlc.state = .attached ∧ f.dlc.slots.length < 4) := by
  decide +kernel

theorem witness_SensingFindsTheBase :
    let timed := z.onDlc fun d => { d with state := .sensed, senseTimer := some 0 }
    (!majority false false true) ≠ z.dlc.sense ∧ z.dlc.senseTimer = none ∧ z.dlc.state = .absent
      ∧ ((!majority true true false) ≠ docked.dlc.sense ∧ docked.dlc.senseTimer = none ∧ docked.dlc.state ≠ .absent)
      ∧ ((!majority false false true) ≠ timed.dlc.sense ∧ timed.dlc.senseTimer = some 0)
      ∧ ((!majority false true false) = docked.dlc.sense ∧ docked.dlc.state ≠ .sensed)
      ∧ ((!majority true true true) = timed.dlc.sense ∧ timed.dlc.state = .sensed ∧ timed.dlc.sense = false) := by
  decide +kernel

theorem witness_SenseLossEndsTheDock :
    let s := fun k => inDock k (docked.onDlc fun d => { d with senseTimer := some 0 })
    (s .attached).dlc.sense = true ∧ (s .attached).dlc.senseTimer = some 0 ∧ (s .attached).dlc.state ≠ .absent
      ∧ (s .attached).dlc.state ≠ .sensed ∧ (s .releasing).dlc.state = .releasing
      ∧ (s .faulted).dlc.state = .faulted ∧ (inSleep .standby (s .attached)).sdu.sleep = .standby := by
  decide +kernel

theorem witness_HelloAttachesOrTimesOut :
    let s := inDock .identifying (docked.onDlc fun d => { d with
      errTimer := some 5, errors := 6, helloTimer := some 0, queries := 2 })
    let last := s.onDlc fun d => { d with queries := 3 }
    let hello : List Byte := [0x34, 0x12, 1, 0, 1, 1, 2, 2, 3, 3]
    (hello.length ≤ 32 ∧ s.dlc.state = .identifying ∧ (helloOf hello).isSome = true)
      ∧ (helloOf [1] = none ∧ s.dlc.errors + 1 < s.params.linkErrLimit.toNat ∧ s.dlc.errTimer.isSome = true)
      ∧ docked.dlc.state ∈ [.sensed, .attached, .detachRequested, .quiescing, .releasing, .faulted]
      ∧ (s.dlc.helloTimer = some 0 ∧ s.dlc.queries < 3)
      ∧ (last.dlc.state = .identifying ∧ last.dlc.helloTimer = some 0 ∧ 3 ≤ last.dlc.queries)
      ∧ (inDock .faulted docked).dlc.state = .faulted ∧ (inSleep .standby s).sdu.sleep = .standby := by
  decide +kernel

/-- R116: a HELLO with RESTART that arrives in QUIESCING: RESTARTED, SLATE, ATTACHED, UNKNOWN, and no query owed. -/
theorem witness_HelloAttachesOrTimesOut_restart :
    let s := inDock .quiescing (docked.onDlc fun d => { d with quiesceTimer := some 5, slots := [⟨1, 1, [], false⟩] })
    let hello : List Byte := [0x34, 0x12, 1, 0, 1, 1, 2, 2, 3, 3]
    let t := after (.dockFrameArrival 0 1 true hello) s
    (s.dlc.state ∈ [.attached, .detachRequested, .quiescing, .releasing] ∧ (helloOf hello).isSome = true
        ∧ s.choices.restartTclFirst = false ∧ (∀ i, dormant s i = false) ∧ s.rqu.urgent.length + 1 ≤ 32)
      ∧ (t.rqu.urgent.length < 32
        ∧ (t.rqu.urgent.drop 1).map (fun r => (r.kind, r.payload.take 2)) =
          [(.dock, [12, 2]), (.posture, [7, 2]), (.dock, [0, 3]), (.posture, [0, 7])])
      ∧ (t.dlc.state = .attached ∧ t.dlc.identifyMark = false ∧ t.dlc.noticeMark = true ∧ t.dlc.slots = []
        ∧ t.dlc.quiesceTimer = none ∧ t.dlc.helloTimer = none)
      ∧ (inSleep .standby s).sdu.sleep = .standby := by
  decide +kernel

theorem witness_LatchButtonRequestsDetach :
    let run := fun b n => docked.onDlc fun d => { d with button := b, buttonRun := n, buttonFresh := false }
    docked.dlc.state = .attached ∧ z.dlc.state ≠ .attached ∧ z.dlc.buttonFresh = true
      ∧ (run false 28).dlc.buttonFresh = false ∧ (!majority true true false) = (run false 28).dlc.button
      ∧ ((!majority false false true) ≠ (run false 28).dlc.button ∧ (run false 28).dlc.buttonRun < 29)
      ∧ ((!majority false false true) ≠ (run false 29).dlc.button ∧ 29 ≤ (run false 29).dlc.buttonRun
        ∧ (!majority false false true) = true)
      ∧ ((!majority true true false) ≠ (run true 29).dlc.button ∧ (!majority true true false) = false)
      ∧ (inSleep .standby docked).sdu.sleep = .standby := by
  decide +kernel

theorem witness_GrantDecidesDetach :
    let s := inDock .detachRequested (docked.onDlc fun d => { d with grantTimer := some 0 })
    s.dlc.state = .detachRequested ∧ s.dlc.grantTimer = some 0 ∧ ¬ s.params.grantDefault = 1
      ∧ (s.onParams fun p => { p with grantDefault := 1 }).params.grantDefault = 1 := by
  decide +kernel

theorem witness_ReleaseAndRelock :
    let q := inDock .quiescing (docked.onDlc fun d => { d with quiesceTimer := some 0 })
    let r := inDock .releasing (docked.onDlc fun d => { d with
      window := some 0, latchDelay := some 0, latchPeriod := some 0, latchOn := some 0, latchCount := 499 })
    let open' := r.onDlc fun d => { d with window := some 1 }
    (q.dlc.state = .quiescing ∧ q.dlc.quiesceTimer = some 0 ∧ q.dlc.rx = .hunt)
      ∧ ¬ q.params.latchDelay = 0 ∧ (q.onParams fun p => { p with latchDelay := 0 }).params.latchDelay = 0
      ∧ (r.dlc.state = .releasing ∧ r.dlc.window = some 0)
      ∧ (r.dlc.latchDelay = some 0 ∧ r.dlc.latchCount < 500)
      ∧ (open'.dlc.latchPeriod = some 0 ∧ open'.dlc.window ≠ some 0 ∧ open'.dlc.latchCount < 500)
      ∧ (r.dlc.latchPeriod = some 0 ∧ r.dlc.window = some 0) ∧ r.dlc.latchOn = some 0 := by
  decide +kernel

theorem witness_DockStateMovesAlongItsTable :
    dockInv docked ∧ (∃ t, exec .latchRequest docked = .next t)
      ∧ (∀ waited mosi, Instr.latchRequest ≠ .hostTransaction waited mosi)
      ∧ (∀ tag, Instr.latchRequest ≠ .reset tag)
      ∧ Instr.latchRequest ≠ .coldReset ∧ Instr.latchRequest ≠ .warmResetPin
      ∧ (after .latchRequest docked).dlc.state = .detachRequested := by
  refine ⟨by decide +kernel, ⟨_, rfl⟩, ?_, ?_, ?_, ?_, ?_⟩ <;> first | simp | decide +kernel

/-! ## Witnesses: pen charging -/

theorem witness_PenConfigPlacesSet :
    ((1 : Byte).toNat ≤ 1 ∧ z.pcc.staged = none) ∧ ¬ z.pcc.state ≠ .off
      ∧ (inPen .charging docked).pcc.state ≠ .off := by
  decide +kernel

theorem witness_SupplyReevaluatesAllowance :
    let charging := (inPen .charging docked).onPcc fun p => { p with sessionOpen := true, burstTimer := some 4 }
    let paused := (inPen .paused docked).onPcc fun p => { p with sessionOpen := true }
    let asleep := (inSleep .standby charging).onPcc fun p => { p with level := some 50 }
    ((0 : Byte) = 0 ∧ (1 : Byte) = 1 ∧ (2 : Byte) = 2)
      ∧ z.pcc.state ∈ [.off, .searching, .detected, .fault]
      ∧ (charging.pcc.state = .charging ∧ maskHas charging.pcc.active.postures charging.posture = true
        ∧ Supply.battery ≠ .batteryLow ∧ charging.sdu.sleep ≠ .standby)
      ∧ (paused.pcc.state ∈ [.paused, .full] ∧ ¬ Supply.batteryLow ≠ .batteryLow)
      ∧ (asleep.sdu.sleep = .standby ∧ asleep.pcc.level = some 50 ∧ ¬ 50 < asleep.pcc.active.keep)
      ∧ (paused.pcc.state = .paused ∧ paused.pcc.sessionOpen = true
        ∧ maskHas paused.pcc.active.postures paused.posture = true) := by
  decide +kernel

theorem witness_PenCycleRuns :
    let s := (inPen .full docked).onPcc fun p => { p with cycleTimer := some 0 }
    let off := s.onPcc fun p => { p with staged := some PenSet.default }
    let ph := fun (k : CyclePhase) (c : Capture) (high : Bool) => s.onPcc fun p => { p with
      phase := k, capture := c, penRx := high, burstTimer := some 0, probed := true }
    (s.pcc.cycleTimer = some 0 ∧ s.pcc.probed = false ∧ s.pcc.staged = none ∧ s.pcc.state ≠ .off)
      ∧ (off.pcc.staged = some PenSet.default ∧ PenSet.default.enable = false)
      ∧ (ph .lead Capture.empty false).pcc.burstTimer = some 0
      ∧ ((ph .lead Capture.empty false).pcc.phase = .lead ∧ (ph .lead Capture.empty false).pcc.probed = true)
      ∧ (ph .probe Capture.empty false).pcc.phase = .probe
      ∧ ((ph .listen Capture.empty false).pcc.penRx = false ∧ (ph .listen Capture.empty false).pcc.phase = .listen
        ∧ 4999 < 5000 ∧ (ph .listen Capture.empty false).pcc.capture.rise = none)
      ∧ ((ph .listen ⟨some 0, none, false⟩ true).pcc.penRx = true
        ∧ (ph .listen ⟨some 0, none, false⟩ true).pcc.capture = ⟨some 0, none, false⟩ ∧ 0 ≤ 2559 ∧ ¬ 2560 < 0 + 2560)
      ∧ ((ph .lead Capture.empty false).pcc.phase ≠ .listen ∧ 5000 ≤ 5000)
      ∧ ((ph .listen ⟨some 0, none, false⟩ true).pcc.capture.rise.isSome = true
        ∧ (ph .listen ⟨some 0, none, false⟩ true).pcc.capture.count = none) := by
  decide +kernel

/-- The end of a probed cycle whose reply is invalid, under an active set with the mask `old`, with a set staged whose
mask is `new`, whose ENABLE is on and whose SESSION_LIMIT is 10 minutes. -/
abbrev restaged (k : PenState) (old new : Byte) (seconds : Nat) : State :=
  (penAt k ⟨some 0, some 121, false⟩).onPcc fun p => { p with
    active := { p.active with postures := old }, sessionOpen := true, seconds := seconds
    staged := some { PenSet.default with enable := true, session := 10, postures := new } }

theorem witness_PenCycleRuns_quiet :
    endsQuietly ((inPen .full docked).onPcc fun p => { p with cycleTimer := some 0 })
      ∧ endsQuietly (penAt .searching Capture.empty) ∧ endsQuietly (restaged .charging 0x04 0x04 599)
      ∧ endsQuietly (restaged .paused 0xFB 0x04 0) ∧ endsQuietly (restaged .full 0xFB 0xFB 0)
      ∧ endsQuietly (restaged .fault 0x04 0x04 0) := by
  have bad : ∀ k o n m, (restaged k o n m).pcc.capture.invalid :=
    fun _ _ _ _ => ⟨rfl, .inr (.inr ⟨121, rfl, .inr (by decide)⟩)⟩
  have masked : ∀ k m, ¬ mayCharge (restaged k 0xFB m 0) (restaged k 0xFB m 0).pcc :=
    fun k m h => absurd h.1 (show ¬ maskHas 0xFB .laptop = true by decide)
  refine ⟨.inl rfl, .inr (.inl ⟨rfl, .inl rfl⟩), .inr (.inr ⟨bad _ _ _ _, .inr (.inl ⟨rfl, rfl, ?_, ?_⟩)⟩),
    .inr (.inr ⟨bad _ _ _ _, .inr (.inr (.inl ⟨rfl, masked _ _⟩))⟩),
    .inr (.inr ⟨bad _ _ _ _, .inr (.inr (.inr ⟨rfl, .inl (masked _ _)⟩))⟩),
    .inr (.inr ⟨bad _ _ _ _, .inl rfl⟩)⟩ <;> decide +kernel

theorem witness_PenCycleRuns_staged :
    let x := fun (m : Byte) => { PenSet.default with enable := true, session := 10, postures := m }
    let spent := fun (s : State) => 10 * 60000 ≤ s.pcc.seconds * 1000 + s.pcc.millis
    let s := restaged .charging 0x04 0x04 599
    (s.pcc.cycleTimer = some 0 ∧ s.pcc.probed = true ∧ s.pcc.staged = some (x 0x04) ∧ (x 0x04).enable = true
      ∧ s.pcc.limitDue = false ∧ s.pcc.state = .charging)
      ∧ (maskHas 0x04 s.posture = true ∧ s.pcc.supply ≠ .batteryLow ∧ s.sdu.sleep ≠ .standby ∧ ¬ spent s)
      ∧ (restaged .fault 0x04 0x04 0).pcc.state ∈ [.searching, .detected, .fault]
      ∧ ((restaged .paused 0xFB 0xFB 0).pcc.state ∈ [.paused, .full]
        ∧ ¬ maskHas 0xFB (restaged .paused 0xFB 0xFB 0).posture = true)
      ∧ ((restaged .charging 0x04 0xFB 599).pcc.state = .charging ∧ ¬ spent (restaged .charging 0x04 0xFB 599))
      ∧ ((restaged .paused 0xFB 0x04 599).pcc.state = .paused ∧ (restaged .paused 0xFB 0x04 599).pcc.sessionOpen = true)
      ∧ spent (restaged .charging 0x04 0x04 600) := by
  decide +kernel

/-- Chapter 7, 20100 and 20200: at the end of a probed cycle whose reply gives 44 %, set A becomes active with BURST
93; set C with ENABLE off stops the charger, the level of that reply in its OFF record. -/
theorem witness_PenDecodesReply_staged :
    let s := fun (x : PenSet) => (penAt .charging ⟨some 100, some 64, false⟩).onPcc fun p => { p with
      sessionOpen := true, progressTimer := some 5000, collision := true, staged := some x }
    let a := s { PenSet.default with enable := true, burst := 93 }
    let t := after .penCycleEnd a
    let u := after .penCycleEnd (s { PenSet.default with burst := 93 })
    (a.pcc.cycleTimer = some 0 ∧ a.pcc.probed = true ∧ a.pcc.staged.isSome = true ∧ a.pcc.state = .charging
        ∧ 64 < 120 ∧ maskHas a.pcc.active.postures a.posture = true ∧ a.pcc.supply ≠ .batteryLow
        ∧ a.sdu.sleep ≠ .standby)
      ∧ (t.pcc.active.burst = 93 ∧ t.pcc.width = 93 ∧ t.pcc.level = some 44 ∧ t.pcc.staged = none
        ∧ t.pcc.collision = true ∧ t.rqu.urgent.length = 1)
      ∧ (u.pcc.state = .off ∧ u.pcc.lastEnd = .disabled ∧ u.pcc.cycleTimer = none ∧ u.pcc.penDrv = false
        ∧ (u.rqu.urgent.drop 1).map (fun r => r.payload.take 4) = [[7, 0, 3, 44]]) := by
  decide +kernel

/-- A level moves allowance in STANDBY: 50 % at KEEP_LEVEL 50 is not below it, 49 % is. -/
theorem witness_PenDecodesReply_standby :
    let s := fun (k : PenState) (c : Nat) => (inSleep .standby (penAt k ⟨some 0, some c, false⟩)).onPcc fun p => { p with
      sessionOpen := true, progressTimer := some 5000 }
    ((s .charging 70).pcc.active.keep = 50 ∧ ¬ 70 - 20 < 50 ∧ 69 - 20 < 50 ∧ (s .charging 70).sdu.sleep = .standby
        ∧ (s .charging 70).rqu.urgent.length + 1 ≤ 32)
      ∧ ((after .penCycleEnd (s .charging 70)).pcc.state = .paused
        ∧ ((after .penCycleEnd (s .charging 70)).rqu.urgent.drop 1).map (fun r => r.payload.take 4) = [[2, 4, 3, 50]])
      ∧ ((s .paused 69).pcc.sessionOpen = true ∧ (after .penCycleEnd (s .paused 69)).pcc.state = .charging) := by
  decide +kernel

theorem witness_PenDecodesReply_held :
    let reply := fun (c : Nat) => (⟨some 0, some c, false⟩ : Capture)
    let low := (penAt .charging (reply 119)).onPcc fun p => { p with supply := .batteryLow }
    (maskHas (penAt .charging (reply 119)).pcc.active.postures (penAt .charging (reply 119)).posture = true
      ∧ (penAt .charging (reply 119)).pcc.supply ≠ .batteryLow ∧ (penAt .charging (reply 119)).sdu.sleep ≠ .standby
      ∧ 119 < 120)
      ∧ ((inPen .paused low).pcc.state = .paused ∧ ¬ (inPen .paused low).pcc.supply ≠ .batteryLow)
      ∧ ((penAt .full (reply 116)).pcc.state = .full ∧ (penAt .full (reply 116)).pcc.active.resume < 116 - 20)
      ∧ (penAt .charging (reply 121)).pcc.capture.count = some 121
      ∧ ((penAt .charging Capture.empty).pcc.silentProbes + 1 < (penAt .charging Capture.empty).pcc.active.absent)
      ∧ ((penAt .full (reply 115)).pcc.state = .full ∧ 115 - 20 ≤ (penAt .full (reply 115)).pcc.active.resume
        ∧ (penAt .full (reply 115)).rqu.urgent.length + 1 ≤ 32) := by
  decide +kernel

theorem witness_PenDecodesReply :
    let s := penAt .searching ⟨some 0, some 20, false⟩
    (s.pcc.cycleTimer = some 0 ∧ s.pcc.probed = true ∧ s.pcc.staged = none ∧ s.pcc.state = .searching)
      ∧ (s.pcc.capture.rise.isSome = true ∧ s.pcc.capture.overflow = false ∧ s.pcc.capture.count = some 20
        ∧ 20 ≤ 20 ∧ 120 ≤ 120)
      ∧ (penAt .detected Capture.empty).pcc.state = .detected ∧ (penAt .fault Capture.empty).pcc.state = .fault
      ∧ (penAt .fault Capture.empty).pcc.capture.rise = none
      ∧ ((penAt .fault ⟨some 0, some 121, false⟩).pcc.capture.count = some 121 ∧ 120 < 121 ∧ 19 < 20)
      ∧ (penAt .fault Capture.empty).pcc.silentProbes < 15
      ∧ (penAt .fault Capture.empty).pcc.silentProbes + 1 < (penAt .fault Capture.empty).pcc.active.absent := by
  decide +kernel

theorem witness_PenDocksFillsAndLeaves_staged :
    let x := { PenSet.default with enable := true }
    let s := fun (k : PenState) (c : Capture) => (inSleep .drowsy (penAt k c)).onPcc fun p => { p with
      staged := some x, silentProbes := 2 }
    let t := s .detected ⟨some 0, some 119, false⟩
    let gone := inSleep .standby (s .full Capture.empty)
    (t.pcc.staged = some x ∧ t.pcc.state = .detected ∧ maskHas t.pcc.active.postures t.posture = true ∧ 119 < 120
        ∧ (resumeVerdict t).length = 1 ∧ t.rqu.urgent.length + 3 ≤ 32)
      ∧ ((after .penCycleEnd t).rqu.urgent.drop 1).map (·.kind) = [.pen, .pen, .verdict]
      ∧ ((s .detected ⟨some 0, some 119, false⟩).onPcc fun p => { p with supply := .batteryLow }).pcc.supply
        = .batteryLow
      ∧ ((s .detected ⟨some 0, some 120, false⟩).pcc.capture.count = some 120 ∧ t.pcc.active.resume < 100)
      ∧ ((s .charging ⟨some 0, some 120, false⟩).pcc.state = .charging ∧ (s .paused Capture.empty).pcc.state = .paused)
      ∧ (gone.pcc.active.absent ≤ gone.pcc.silentProbes + 1 ∧ gone.pcc.active.wake = true
        ∧ gone.params.wakeGather ≠ 0 ∧ wakeVerdict .penRemoved gone = [] ∧ gone.rqu.urgent.length + 1 ≤ 32)
      ∧ (wakeVerdict .penRemoved (gone.onParams fun p => { p with wakeGather := 0 })).length = 1 := by
  decide +kernel

theorem witness_PenDocksFillsAndLeaves :
    let s := penAt .detected ⟨some 0, some 120, false⟩
    let gone := (penAt .full Capture.empty).onPcc fun p => { p with silentProbes := 2 }
    (s.pcc.cycleTimer = some 0 ∧ s.pcc.probed = true ∧ s.pcc.staged = none ∧ s.pcc.state = .detected
      ∧ s.sdu.sleep ≠ .standby)
      ∧ (s.pcc.capture.rise.isSome = true ∧ s.pcc.capture.overflow = false ∧ s.pcc.capture.count = some 120)
      ∧ maskHas s.pcc.active.postures s.posture = true ∧ s.pcc.supply ≠ .batteryLow
      ∧ ((penAt .charging ⟨some 0, some 120, false⟩).pcc.state = .charging ∧ s.pcc.active.resume < 100)
      ∧ (gone.pcc.state ∈ [.charging, .paused, .full, .fault] ∧ gone.pcc.capture.rise = none
        ∧ gone.pcc.silentProbes < 15 ∧ gone.pcc.active.absent ≤ gone.pcc.silentProbes + 1)
      ∧ ((inSleep .standby gone).sdu.sleep = .standby ∧ gone.pcc.active.wake = true) := by
  decide +kernel

theorem witness_ProgressAndLimitEndSessions :
    let s := (inPen .charging docked).onPcc fun p => { p with
      progressTimer := some 0, level := some 45, baseline := some 44, sessionOpen := true }
    (s.pcc.progressTimer = some 0 ∧ s.pcc.level = some 45 ∧ s.pcc.baseline = some 44 ∧ 44 < 45)
      ∧ (s.onPcc fun p => { p with level := some 44 }).pcc.level = some 44 ∧ ¬ 44 < 44
      ∧ s.pcc.state = .charging := by
  decide +kernel

/-- A session of the 120 minutes after power-on, `millis` into its last second, with no event due. -/
abbrev lastSecond (millis : Nat) : State := (inPen .charging docked).onPcc fun p => { p with
  progressTimer := some 5, sessionOpen := true, seconds := 7199, millis := millis }

theorem witness_ProgressAndLimitEndSessions_tick :
    ((lastSecond 998).pending = [] ∧ due (lastSecond 998) = none
      ∧ 7199 * 1000 + 998 + 1 < (lastSecond 998).pcc.active.session * 60000)
      ∧ (due (lastSecond 999) = none ∧ (lastSecond 999).pcc.active.session * 60000 ≤ 7199 * 1000 + 999 + 1)
      ∧ (due z = none ∧ z.pcc.state ≠ .charging)
      ∧ ((lastSecond 999).onPcc fun p => { p with limitDue := true }).pcc.limitDue = true := by
  decide +kernel

/-! ## Witnesses: sleep decisions and the Report Queue -/

theorem witness_HostStateSleepsAndWakes :
    z.sdu.sleep ∈ [.active, .drowsy, .sleepAdvised] ∧ (inSleep .waking z).sdu.sleep = .waking
      ∧ (inSleep .standby z).sdu.sleep = .standby ∧ z.sdu.sleep = .active
      ∧ (inSleep .drowsy z).sdu.sleep ∈ [.drowsy, .sleepAdvised]
      ∧ (inSleep .standby z).sdu.sleep ∈ [.standby, .waking]
      ∧ docked.dlc.state = .attached ∧ (inPen .charging docked).pcc.state = .charging := by
  decide +kernel

theorem witness_IdleTimersAdviseAndGatherEnds :
    z.sdu.dimTimer = some 60000 ∧ z.sdu.sleep = .active ∧ (inSleep .drowsy z).sdu.sleep ≠ .active
      ∧ z.sdu.sleepTimer = some 300000 ∧ (∀ i : Fin 8, z.sdu.holds[i] = none)
      ∧ ¬ (∀ i : Fin 8, held7.sdu.holds[i] = none) ∧ (inSleep .standby z).sdu.sleep ∉ [.active, .drowsy]
      ∧ (z.onSdu fun u => { u with gatherTimer := some 0 }).sdu.gatherTimer = some 0 := by
  decide +kernel

theorem witness_HoldsAreClaimedAndFreed :
    let advised := (inSleep .sleepAdvised z).onSdu fun u => { u with advised := .lidClosed }
    let closed := held7.onPse fun p => { p with record := { p.record with posture := .closed } }
    let marked := held7.onSdu fun u => { u with sleepMark := true }
    ((1 : Byte).toNat ≤ 1 ∧ (9 : Byte) ≠ 0 ∧ z.sdu.holds[(7 : Byte).toNat] = none ∧ ¬ z.sdu.sleep = .sleepAdvised)
      ∧ (advised.sdu.sleep = .sleepAdvised ∧ advised.sdu.advised = .lidClosed ∧ (1 : Byte) = 1)
      ∧ held7.sdu.holds[(7 : Byte).toNat] = some ⟨.idle, 9, 5, some 5000⟩
      ∧ (closed.sdu.sleep = .active ∧ closed.posture = .closed) ∧ ¬ held7.posture = .closed
      ∧ (marked.sdu.sleepMark = true ∧ ∀ i : Fin 8, (marked.sdu.holds.set 7 none)[i] = none)
      ∧ held7.sdu.sleepMark = false := by
  decide +kernel

theorem witness_DrainTakesFromTheFront :
    1 ≤ (1 : Byte).toNat ∧ (16 : Byte).toNat ≤ 16 ∧ (2 : Byte).toNat ≤ 2 ∧ z.tcl.stall = none
      ∧ ((stalled 32).tcl.stall = some ⟨0, 0⟩ ∧ (stalled 32).dlc.buffer = frame [7] :: []
        ∧ (stalled 32).rqu.urgent.length ≤ 32 ∧ (stalled 32).tcl.routes[(⟨0, 0⟩ : Stall).entry].effective = .forward
        ∧ (stalled 32).tcl.routes[(⟨0, 0⟩ : Stall).entry].paired = false)
      ∧ forwardedCount ((stalled 32).rqu.urgent.drop 1) < 24
      ∧ 24 ≤ forwardedCount ((records .urgent false 8 0 ++ records .urgent true 24 0).drop 1) := by
  decide +kernel

/-! ## Witnesses for the four invariants kept: a state that meets all four invariants and is not the one after reset -/

/-- An attached base with a forwarding entry whose effective action is the one that R54 gives. -/
abbrev steady : State := { docked.onRoute 0 fun _ => entry with pending := [.latchRequest] }

theorem witness_invariants_queue : queueInv steady := by decide +kernel
theorem witness_invariants_dock : dockInv steady := by decide +kernel

theorem witness_invariants_pen : penInv steady := by decide +kernel

theorem witness_invariants_traffic : trafficInv steady := by decide +kernel

theorem witness_invariants_kept :
    (queueInv steady ∧ dockInv steady ∧ penInv steady ∧ trafficInv steady) ∧ ∃ t, step steady = .next t :=
  ⟨⟨witness_invariants_queue, witness_invariants_dock, witness_invariants_pen, witness_invariants_traffic⟩, _, rfl⟩

end Sys2Proof.Tests
end

section
/-! PROOFS. What the shared operations keep. Where Laws/Frame.lean says of views what an operation leaves equal,
this part says of predicates what it carries over: a predicate that the few primitive updates keep is kept by every
shared operation. The primitives come with the condition under which the operations use them (a record enters a lane
that has room, a route update keeps the host fields, a stall ends only where there is one), so that bounds and
monotone facts are predicates of this kind, which no view is. -/

namespace Sys2Proof.Machine

/-- An operation carries a predicate over. -/
abbrev Keeps (P : State → Prop) (f : State → State) : Prop := ∀ ⦃s⦄, P s → P (f s)

/-- A placer carries a predicate over, whatever record it places. -/
abbrev PlacerHolds (P : State → Prop) (pl : Placer) : Prop := ∀ r, Keeps P (pl r)

/-- An update of the TCL's block keeps the stall and of each entry the host fields and the hits. -/
structure TclKeeps (f : Tcl → Tcl) : Prop where
  stall : ∀ t, (f t).stall = t.stall
  host : ∀ t (i : Fin 64), (f t).routes[i].hostFields = t.routes[i].hostFields
  hits : ∀ t (i : Fin 64), (f t).routes[i].hits = t.routes[i].hits

/-- An update of the RQU's block keeps the URGENT lane with its gap count and only adds to the BULK lane. -/
structure RquKeeps (f : Rqu → Rqu) : Prop where
  urgent : ∀ q, (f q).urgent = q.urgent
  gap : ∀ q, (f q).urgentGap = q.urgentGap
  bulk : ∀ q, q.bulk <+: (f q).bulk

/-- A predicate that the primitive updates of placement, waking, recomputation and allowance carry over, each under
the condition under which it is made. -/
structure Stable (P : State → Prop) : Prop where
  enter : ∀ b r s, urgentRoom s = true → P s → P (enterUrgent b r s)
  lose : Keeps P countUrgentLoss
  rqu : ∀ f, RquKeeps f → Keeps P (State.onRqu f)
  sdu : ∀ f, Keeps P (State.onSdu f)
  tcl : ∀ f, TclKeeps f → Keeps P (State.onTcl f)
  pcc : ∀ f, Keeps P (State.onPcc f)
  fault : ∀ k, k = .urgentLoss ∨ k = .routeDisabled → Keeps P (noteFault k)
  unstall : ∀ s, s.tcl.stall.isSome = true → P s → P (endStall s)
  notice : ∀ s, s.dlc.state.inUse = true → P s → P (s.onDlc fun d => { d with noticeMark := true })

/-- The route table with one entry rewritten, read at an index. -/
theorem routes_set_getElem (v : Vector RouteEntry 64) (i j : Fin 64) (e : RouteEntry) :
    (v.set i e)[j] = if i = j then e else v[j] := by
  simp [Vector.getElem_set, Fin.ext_iff]

/-- An update of one route entry that keeps its host fields and its hits keeps them of every entry. -/
theorem TclKeeps.route (i : Fin 64) {g : RouteEntry → RouteEntry} (hh : ∀ e, (g e).hostFields = e.hostFields)
    (hn : ∀ e, (g e).hits = e.hits) : TclKeeps fun t => { t with routes := t.routes.set i (g t.routes[i]) } where
  stall _ := rfl
  host t j := by
    rw [routes_set_getElem]; split
    · next e => rw [hh, e]
    · rfl
  hits t j := by
    rw [routes_set_getElem]; split
    · next e => rw [hn, e]
    · rfl

/-- An update of the Held Pool alone. -/
theorem TclKeeps.pool (g : Tcl → List PoolSlot) : TclKeeps fun t => { t with pool := g t } :=
  ⟨fun _ => rfl, fun _ _ => rfl, fun _ _ => rfl⟩

/-- Two stable predicates at once. -/
theorem Stable.and {P Q : State → Prop} (hP : Stable P) (hQ : Stable Q) : Stable fun s => P s ∧ Q s where
  enter b r s hr hs := ⟨hP.enter b r s hr hs.1, hQ.enter b r s hr hs.2⟩
  lose _ hs := ⟨hP.lose hs.1, hQ.lose hs.2⟩
  rqu f hf _ hs := ⟨hP.rqu f hf hs.1, hQ.rqu f hf hs.2⟩
  sdu f _ hs := ⟨hP.sdu f hs.1, hQ.sdu f hs.2⟩
  tcl f hf _ hs := ⟨hP.tcl f hf hs.1, hQ.tcl f hf hs.2⟩
  pcc f _ hs := ⟨hP.pcc f hs.1, hQ.pcc f hs.2⟩
  fault k hk _ hs := ⟨hP.fault k hk hs.1, hQ.fault k hk hs.2⟩
  unstall s h hs := ⟨hP.unstall s h hs.1, hQ.unstall s h hs.2⟩
  notice s h hs := ⟨hP.notice s h hs.1, hQ.notice s h hs.2⟩

/-- That a blind view shows a fixed value is a stable predicate, and so is every property of what it shows. -/
theorem Blind.stable {α : Type} {π : State → α} (h : Blind π) (p : α → Prop) : Stable fun s => p (π s) :=
  have same {s t : State} (e : π t = π s) (hs : p (π s)) : p (π t) := e ▸ hs
  { enter := fun _ _ _ _ => same (h.enterUrgent _ _ _)
    lose := fun _ => same (h.countUrgentLoss _)
    rqu := fun _ _ _ => same (h.rqu _ _)
    sdu := fun _ _ => same (h.sdu _ _)
    tcl := fun _ _ _ => same (h.tcl _ _)
    pcc := fun _ _ => same (h.pcc _ _)
    fault := fun _ _ _ => same (h.noteFault _ _)
    unstall := fun _ _ => same (h.endStall _)
    notice := fun _ _ => same (h.notice _ _) }

namespace Stable

variable {P : State → Prop} (h : Stable P)
include h

/-! ## Placement and faults -/

theorem onRoute {i} {g : RouteEntry → RouteEntry} {s} (hs : P s)
    (hh : ∀ e, (g e).hostFields = e.hostFields := by intro; rfl) (hn : ∀ e, (g e).hits = e.hits := by intro; rfl) :
    P (s.onRoute i g) := h.tcl _ (TclKeeps.route i hh hn) hs

theorem pool (g : Tcl → List PoolSlot) : Keeps P (State.onTcl fun t => { t with pool := g t }) :=
  h.tcl _ (TclKeeps.pool g)

/-- An update of the RQU that keeps its two lanes and the URGENT gap count. -/
theorem lanes {f : Rqu → Rqu} {s} (hs : P s) (hu : ∀ q, (f q).urgent = q.urgent := by intro; rfl)
    (hg : ∀ q, (f q).urgentGap = q.urgentGap := by intro; rfl) (hb : ∀ q, (f q).bulk = q.bulk := by intro; rfl) :
    P (s.onRqu f) := h.rqu f ⟨hu, hg, fun q => hb q ▸ List.prefix_rfl⟩ hs

/-- An update of the RQU that puts records at the end of the BULK lane. -/
theorem bulkGrows {f : Rqu → Rqu} {s} (hs : P s)
    (hb : ∀ q, q.bulk <+: (f q).bulk := by intro; exact List.prefix_append _ _)
    (hu : ∀ q, (f q).urgent = q.urgent := by intro; rfl)
    (hg : ∀ q, (f q).urgentGap = q.urgentGap := by intro; rfl) : P (s.onRqu f) := h.rqu f ⟨hu, hg, hb⟩ hs

theorem flushStage : Keeps P flushStage := fun _ hs => h.bulkGrows hs

theorem loseUrgentWith {g : State → State} (hg : Keeps P g) : Keeps P (loseUrgentWith g) := by
  intro s hs
  unfold Machine.loseUrgentWith
  split
  · exact hg (h.lose hs)
  · exact h.lose hs

theorem placeWith {g : State → State} (hg : Keeps P g) : PlacerHolds P (placeWith g) := by
  intro r s hs
  unfold Machine.placeWith
  split
  · next room => exact h.enter _ _ _ room hs
  · exact h.loseUrgentWith hg hs

theorem placeSilent : PlacerHolds P placeSilent := by
  intro r s hs
  unfold Machine.placeSilent
  split
  · next room => exact h.enter _ _ _ room hs
  · exact hs

omit h in
theorem raiseWith {pl : Placer} {w : State → State} (hp : PlacerHolds P pl) (hw : Keeps P w) {k}
    (hk : Keeps P (noteFault k)) : Keeps P (raiseWith pl w k) := by
  intro s hs
  simp only [Machine.raiseWith]
  split
  · exact hk hs
  · split
    · exact hk hs
    · exact hp _ (hk hs)
    · exact hw (hp _ (hk hs))

/-! ## The stall, recomputation and release synthesis -/

theorem poolEffect (i f b) : Keeps P (poolEffect i f b) := by
  intro s hs
  unfold Machine.poolEffect
  split
  · split
    · split
      · exact hs
      · split
        · exact h.pool _ hs
        · exact h.onRoute hs
    · split
      · simp only; split
        · exact h.pool _ hs
        · exact h.onRoute (h.pool _ hs)
      · exact hs
    · exact hs
  · exact hs

theorem retryStall : Keeps P retryStall := by
  intro s hs
  unfold Machine.retryStall
  split
  · next stalled _ =>
    split
    · split
      · next room =>
        simp only [forwardRoom, Bool.and_eq_true] at room
        exact h.poolEffect _ _ _ (h.unstall _ (by simp [enterUrgent, stalled]) (h.enter _ _ _ room.1 hs))
      · exact hs
    · exact h.unstall _ (by simp [stalled]) hs
  · exact hs

theorem releaseSlots {pl : Placer} (hp : PlacerHolds P pl) (e c) : ∀ l, Keeps P (releaseSlots pl e c l)
  | [], _, hs => hs
  | _ :: rest, _, hs => releaseSlots hp e c rest (h.pool _ (hp _ hs))

theorem synthesize {pl : Placer} (hp : PlacerHolds P pl) (c i) : Keeps P (synthesize pl c i) := by
  intro s hs
  simp only [Machine.synthesize]
  split
  · exact h.onRoute (hp _ (h.releaseSlots hp _ _ _ hs))
  · exact h.releaseSlots hp _ _ _ hs

theorem recomputeEntry {pl : Placer} (hp : PlacerHolds P pl) (c i) : Keeps P (recomputeEntry pl c i) := by
  intro s hs
  have written := fun a => h.onRoute (i := i) (g := fun e => { e with effective := a }) hs
  simp only [Machine.recomputeEntry]
  split
  · exact hs
  · split
    · exact h.synthesize hp _ _ (written _)
    · exact written _

theorem retryIfChanged (b) : Keeps P (retryIfChanged b) := by
  intro s hs
  unfold Machine.retryIfChanged
  split
  · exact h.retryStall hs
  · exact hs

omit h in
/-- A fold of steps that carry the predicate over. -/
theorem fold {β : Type} {f : State → β → State} (hf : ∀ b, Keeps P (f · b)) : ∀ l : List β, Keeps P (l.foldl f)
  | [], _, hs => hs
  | b :: l, _, hs => fold hf l (hf b hs)

theorem recomputeWith {pl : Placer} (hp : PlacerHolds P pl) (c) : Keeps P (recomputeWith pl c) :=
  fun _ hs => h.retryIfChanged _ (fold (fun i => h.recomputeEntry hp c i) _ hs)

/-! ## Allowance -/

theorem beginSession {pl : Placer} (hp : PlacerHolds P pl) (o) : Keeps P (beginSession pl o) :=
  fun _ hs => hp _ (h.pcc _ hs)

theorem penAllowance {pl : Placer} (hp : PlacerHolds P pl) : Keeps P (penAllowance pl) := by
  intro s hs
  unfold Machine.penAllowance
  split
  · split
    · exact hs
    · exact hp _ (h.pcc _ hs)
  · split
    · exact hs
    · split
      · exact hp _ (h.pcc _ hs)
      · exact h.beginSession hp _ hs
  · split
    · split
      · exact h.beginSession hp _ hs
      · exact hs
    · exact hs
  all_goals exact hs

/-! ## Sleep state changes and wake reasons -/

theorem idleRestart : Keeps P idleRestart := fun _ hs => h.sdu _ hs
theorem idleStop : Keeps P idleStop := fun _ hs => h.sdu _ hs

theorem suppressOn (o n) : Keeps P (suppressOn o n) := by
  intro s hs
  have quiet := fun (b : Bool) (f : Rqu → Timer) {t : State} (ht : P t) =>
    h.lanes (f := fun q => { q with suppressed := b, flushTimer := f q }) ht
  unfold Machine.suppressOn
  split
  · split
    · exact hs
    · exact quiet _ _ (h.flushStage hs)
  · exact hs
  all_goals
    split
    · exact quiet _ _ hs
    · exact hs

theorem noticeOn (o n) : Keeps P (noticeOn o n) := by
  intro s hs
  unfold Machine.noticeOn
  split
  · next used => exact h.notice s (Bool.and_eq_true_iff.mp used).1 hs
  · exact hs

theorem recomputeOn {pl : Placer} (hp : PlacerHolds P pl) (o n) : Keeps P (recomputeOn pl o n) := by
  intro s hs
  unfold Machine.recomputeOn
  split
  · exact hs
  · exact h.recomputeWith hp _ hs

theorem allowanceOn {pl : Placer} (hp : PlacerHolds P pl) (o n) : Keeps P (allowanceOn pl o n) := by
  intro s hs
  unfold Machine.allowanceOn
  split
  · exact h.penAllowance hp hs
  · exact hs

theorem sleepHandOn {pl : Placer} (hp : PlacerHolds P pl) (o n) : Keeps P (sleepHandOn pl o n) := by
  intro s hs
  refine h.noticeOn _ _ (h.suppressOn _ _ ?_)
  split
  · exact h.recomputeOn hp _ _ (h.allowanceOn hp _ _ hs)
  · exact h.allowanceOn hp _ _ (h.recomputeOn hp _ _ hs)

theorem changeSleep {pl : Placer} (hp : PlacerHolds P pl) {v : State → State} (hv : Keeps P v) (n) :
    Keeps P (changeSleep pl n v) := fun _ hs => h.sleepHandOn hp _ _ (hv (h.sdu _ hs))

theorem gatherEnd {pl : Placer} (hp : PlacerHolds P pl) : Keeps P (gatherEnd pl) := fun _ hs => hp _ (h.sdu _ hs)

theorem gatherAtOnce {pl : Placer} (hp : PlacerHolds P pl) : Keeps P (gatherAtOnce pl) := by
  intro s hs
  unfold Machine.gatherAtOnce
  split
  · exact h.gatherEnd hp hs
  · exact hs

theorem wakeWith {pl : Placer} (hp : PlacerHolds P pl) (k) : Keeps P (wakeWith pl k) := by
  intro s hs
  unfold Machine.wakeWith
  split
  · have woken := h.sdu (fun u => { u with wakeList := [k], gatherTimer := some s.params.wakeGather.toNat })
      (h.sdu (fun u => { u with sleep := .waking }) hs)
    simp only; split
    · exact h.sleepHandOn hp _ _ (h.gatherAtOnce hp woken)
    · exact h.gatherAtOnce hp (h.sleepHandOn hp _ _ woken)
  · split
    · split
      · exact hs
      · exact h.sdu _ hs
    · exact h.gatherAtOnce hp (h.sdu _ hs)
  all_goals exact hs

/-! ## The two placements -/

theorem placeQuiet : PlacerHolds P placeQuiet := h.placeWith (h.fault _ (.inl rfl))

theorem raiseUrgentLoss : Keeps P raiseUrgentLoss :=
  raiseWith h.placeSilent (h.wakeWith h.placeQuiet _) (h.fault _ (.inl rfl))

theorem loseUrgent : Keeps P loseUrgent := h.loseUrgentWith h.raiseUrgentLoss

theorem place : PlacerHolds P place := h.placeWith h.raiseUrgentLoss

theorem wake (k) : Keeps P (wake k) := h.wakeWith h.place k

theorem raiseFault {k} (hk : Keeps P (noteFault k)) : Keeps P (raiseFault k) := raiseWith h.place (h.wake _) hk

theorem recompute (c) : Keeps P (recompute c) := h.recomputeWith h.place c

/-! ## Activity and verdicts -/

theorem giveVerdict (v r p) : Keeps P (giveVerdict v r p) := fun _ hs => h.place _ hs

theorem resumeActive : Keeps P resumeActive :=
  fun _ hs => h.changeSleep h.place (h.giveVerdict _ _ _) _ (h.sdu _ hs)

theorem adviseSleep (r) : Keeps P (adviseSleep r) :=
  fun _ hs => h.changeSleep h.place (h.giveVerdict _ _ _) _ (h.sdu _ hs)

theorem activity : Keeps P activity := by
  intro s hs
  unfold Machine.activity
  split
  · exact h.idleRestart hs
  · exact h.resumeActive (h.idleRestart hs)
  · exact h.resumeActive (h.idleRestart hs)
  all_goals exact hs

theorem lidClosed : Keeps P lidClosed := by
  intro s hs
  have advised := h.adviseSleep .lidClosed (h.idleRestart hs)
  unfold Machine.lidClosed
  split
  · split
    · exact h.activity hs
    · exact advised
  · split
    · exact h.activity hs
    · exact advised
  · split
    · exact h.activity hs
    · exact h.giveVerdict _ _ _ (h.sdu _ (h.idleRestart hs))
  all_goals exact hs

theorem sleepOnCommit (a b) : Keeps P (sleepOnCommit a b) := by
  intro s hs
  have told : P (if b = .closed then Machine.lidClosed s else Machine.activity s) := by
    split
    · exact h.lidClosed hs
    · exact h.activity hs
  unfold Machine.sleepOnCommit
  simp only
  split
  · exact h.wake _ told
  · exact told

/-! ## The traffic path -/

theorem countBulkLoss : Keeps P countBulkLoss := fun _ hs => h.lanes hs

theorem placeCoalesced (r) : Keeps P fun s => (placeCoalesced r s).1 := by
  intro s hs
  have staged := h.lanes (f := fun q =>
      { q with
        stage := q.stage ++ [{ r with stamp := s.time, gap := q.bulkGap, forwarded := false }]
        bulkGap := 0
        flushTimer := if q.stage.isEmpty then some s.params.flushTime.toNat else q.flushTimer })
    hs
  unfold Machine.placeCoalesced
  simp only
  split
  · exact hs
  · split
    · exact h.countBulkLoss hs
    · split
      · exact h.flushStage staged
      · exact staged

theorem placeDirect (r) : Keeps P fun s => (placeDirect r s).1 := by
  intro s hs
  unfold Machine.placeDirect
  simp only
  split
  · exact hs
  · split
    · dsimp only
      exact h.bulkGrows (h.flushStage hs)
    · exact h.countBulkLoss (h.flushStage hs)

theorem disableEntry (i) : Keeps P (disableEntry i) := by
  intro s hs
  refine h.raiseFault (h.fault _ (.inr rfl)) (h.place _ (h.retryIfChanged _ (h.recomputeEntry h.place _ _ ?_)))
  exact h.onRoute hs

theorem countMalformed (i) : Keeps P (countMalformed i) := by
  intro s hs
  have counted := h.onRoute (i := i) (g := fun e => { e with errors := min 15 (e.errors + 1) }) hs
  simp only [Machine.countMalformed]
  split
  · exact h.disableEntry i counted
  · exact counted

theorem reenableEntry (i) : Keeps P (reenableEntry i) := by
  intro s hs
  refine h.retryIfChanged _ (h.recomputeEntry h.place _ _ (h.place _ ?_))
  exact h.onRoute hs

theorem reenable (n) : Keeps P (reenable n) := by
  refine fold (fun i s hs => ?_) _
  simp only
  split
  · exact h.reenableEntry i hs
  · exact hs

theorem signal (i a) : Keeps P (signal i a) := by
  intro s hs
  have stirred : ∀ b : Bool, P (if b = true then Machine.activity s else s) := by
    intro b; split
    · exact h.activity hs
    · exact hs
  have woken : ∀ (t : State) (b : Bool), P t → P (if b = true then Machine.wake .routeWake t else t) := by
    intro t b ht; split
    · exact h.wake _ ht
    · exact ht
  exact woken _ _ (stirred _)

theorem loseStalled (hk : Keeps P (noteFault .dockStall)) : Keeps P loseStalled := by
  intro s hs
  unfold Machine.loseStalled
  split
  · exact h.loseUrgent (h.raiseFault hk hs)
  · exact h.raiseFault hk (h.loseUrgent hs)

end Stable

/-- The handling of a frame leads from a predicate `P` to a predicate `Q`: both are stable, and each of the two ways
in which the handling ends, the frame leaving the Dock Receive Buffer and its stall there, leads from `P` to `Q`. -/
structure FrameLeads (dock : Bool) (P Q : State → Prop) : Prop where
  before : Stable P
  after : Stable Q
  ends : ∀ s, P s → Q (endFrame dock s)
  stalls : dock = true → ∀ st s, P s → Q (s.onTcl fun t => { t with stall := some st })

/-- A local frame neither leaves the buffer nor stalls. -/
theorem Stable.local {P : State → Prop} (h : Stable P) : FrameLeads false P P :=
  ⟨h, h, fun _ hs => hs, fun e => absurd e (by decide)⟩

namespace FrameLeads

variable {dock : Bool} {P Q : State → Prop} (h : FrameLeads dock P Q)
include h

theorem placeFrame (i f) {s : State} (hs : P s) : Q (placeFrame dock i f s) := by
  simp only [Machine.placeFrame]
  split
  · refine h.ends _ (h.before.poolEffect _ _ _ ?_)
    split
    · exact h.before.placeCoalesced _ hs
    · exact h.before.placeDirect _ hs
  · split
    · next room =>
      simp only [forwardRoom, Bool.and_eq_true] at room
      exact h.after.poolEffect _ _ _ (h.ends _ (h.before.enter _ _ _ room.1 hs))
    · split
      · next fromDock => exact h.stalls fromDock _ _ hs
      · next fromDock =>
        have := h.ends _ (h.before.loseUrgent hs)
        simp only [endFrame, fromDock] at this
        exact h.after.poolEffect _ _ _ this

theorem handleMatched (i f) {s : State} (hs : P s) : Q (handleMatched dock i f s) := by
  simp only [Machine.handleMatched]
  split
  · exact h.ends _ hs
  · split
    · exact h.ends _ (h.before.countMalformed i hs)
    · split
      · exact h.placeFrame i f (h.before.signal _ _ hs)
      · exact h.ends _ (h.before.signal _ _ hs)

theorem handleDefault (f) {s : State} (hs : P s) : Q (handleDefault dock f s) := by
  unfold Machine.handleDefault
  split
  · exact h.ends _ (h.before.placeDirect _ hs)
  · exact h.ends _ hs

theorem classify (hit : ∀ i, Keeps P (countHit i)) (f) {s : State} (hs : P s) : Q (classify dock f s) := by
  unfold Machine.classify
  split
  · exact h.handleMatched _ _ (hit _ hs)
  · exact h.handleDefault _ hs

end FrameLeads

end Sys2Proof.Machine
end

section
/-! PROOFS. What the larger operations keep: the pen, the sleep decisions and the routes for every stable predicate;
commits and evaluations for those that the PSE's own updates carry over as well. -/

namespace Sys2Proof.Machine

namespace Stable

variable {P : State → Prop} (h : Stable P)
include h

/-! ## Pen -/

theorem runCycle : Keeps P runCycle := by
  intro s hs
  unfold Machine.runCycle
  split
  · exact hs
  · exact h.pcc _ hs

theorem penFull : Keeps P penFull := fun _ hs => h.place _ (h.pcc _ hs)

theorem penDocked (l) : Keeps P (penDocked l) := by
  intro s hs
  refine h.activity ?_
  split
  · exact h.beginSession h.place _ (h.place _ (h.pcc _ (h.pcc _ hs)))
  · exact h.place _ (h.pcc _ (h.pcc _ hs))

theorem penRemoved : Keeps P penRemoved := by
  intro s hs
  simp only [Machine.penRemoved]
  split
  · exact h.wake _ (h.activity (h.place _ (h.pcc _ hs)))
  · exact h.activity (h.place _ (h.pcc _ hs))

theorem countSilent : Keeps P countSilent := by
  intro s hs
  have counted := h.pcc (fun p => { p with silentProbes := min 15 (p.silentProbes + 1) }) hs
  simp only [Machine.countSilent]
  split
  · exact h.penRemoved counted
  · exact counted

theorem decodeChange (r) : Keeps P (decodeChange r) := by
  intro s hs
  have replied : ∀ l, P (if l = 100 then Machine.penFull (s.onPcc (Pcc.heard l)) else s.onPcc (Pcc.heard l)) := by
    intro l; split
    · exact h.penFull (h.pcc _ hs)
    · exact h.pcc _ hs
  unfold Machine.decodeChange
  split
  · exact h.pcc _ hs
  · exact h.penDocked _ hs
  · exact h.pcc _ hs
  · exact h.pcc _ hs
  · exact replied _
  · exact replied _
  · exact h.pcc _ hs
  · exact h.pcc _ hs
  · exact h.countSilent hs
  · exact h.countSilent hs
  · exact h.countSilent hs
  · exact h.countSilent hs
  all_goals exact hs

theorem decode : Keeps P decode := fun _ hs => h.penAllowance h.place (h.decodeChange _ hs)

theorem penOff : Keeps P penOff := fun _ hs => h.place _ (h.pcc _ hs)

theorem placeSet (p) : Keeps P (placeSet p) := by
  intro s hs
  unfold Machine.placeSet
  split
  · simp only
    split
    · exact h.runCycle (h.pcc _ (h.pcc _ hs))
    · exact h.pcc _ hs
  · exact h.pcc _ hs

section penFault

variable (hk : Keeps P (noteFault .penFault))
include hk

theorem penFails (e c) : Keeps P (penFails e c) := fun _ hs => h.raiseFault hk (h.place _ (h.pcc _ hs))

theorem sessionLimit : Keeps P sessionLimit := by
  intro s hs
  unfold Machine.sessionLimit
  split
  · exact h.penFails hk _ _ (h.pcc _ hs)
  · exact hs

theorem checkLimit : Keeps P checkLimit := by
  intro s hs
  unfold Machine.checkLimit
  split
  · exact h.sessionLimit hk hs
  · exact h.pcc _ hs

theorem applyStaged : Keeps P applyStaged := by
  intro s hs
  unfold Machine.applyStaged
  split
  · exact hs
  · simp only
    split
    · exact h.penOff (h.pcc _ hs)
    · split
      · exact h.penAllowance h.place (h.checkLimit hk (h.pcc _ hs))
      · exact h.checkLimit hk (h.penAllowance h.place (h.pcc _ hs))

theorem cycleEnd : Keeps P cycleEnd := by
  intro s hs
  unfold Machine.cycleEnd
  split
  · refine h.runCycle (h.applyStaged hk ?_)
    split
    · exact h.decode hs
    · exact hs
  · exact hs

theorem progressExpired : Keeps P progressExpired := by
  intro s hs
  unfold Machine.progressExpired
  split
  · split
    · exact h.pcc _ hs
    · exact h.penFails hk _ _ hs
  · exact hs

end penFault

/-! ## Sleep -/

theorem dimExpired : Keeps P dimExpired := by
  intro s hs
  unfold Machine.dimExpired
  split
  · simp only
    split
    · exact h.changeSleep h.place (h.giveVerdict _ _ _) _ (h.sdu _ hs)
    · exact h.sdu _ hs
  · exact hs

theorem sleepExpired : Keeps P sleepExpired := by
  intro s hs
  have marked := h.sdu (fun u => { u with sleepTimer := none, sleepMark := true }) hs
  unfold Machine.sleepExpired
  split
  · simp only
    split
    · split
      · exact marked
      · exact h.adviseSleep _ marked
    · split
      · exact marked
      · exact h.adviseSleep _ marked
    all_goals exact marked
  · exact hs

/-- A change of sleep state without a verdict. -/
theorem silentChange (n) : Keeps P (Machine.changeSleep Machine.place n noVerdict) :=
  h.changeSleep h.place (fun _ hs => hs) n

theorem hostStandby : Keeps P hostStandby := by
  intro s hs
  unfold Machine.hostStandby
  split
  · exact h.silentChange _ (h.sdu _ (h.idleStop hs))
  · exact h.silentChange _ (h.sdu _ (h.idleStop hs))
  · exact h.silentChange _ (h.sdu _ (h.idleStop hs))
  · exact h.silentChange _ (h.sdu _ (h.idleStop hs))
  · exact hs

theorem hostRunning : Keeps P hostRunning := by
  intro s hs
  unfold Machine.hostRunning
  split
  · exact h.activity hs
  · exact h.activity hs
  · exact h.activity hs
  · exact h.silentChange _ (h.sdu _ (h.idleRestart hs))
  · exact h.silentChange _ (h.sdu _ (h.idleRestart hs))

theorem claimHold (i c o l) : Keeps P (claimHold i c o l) := by
  intro s hs
  simp only [Machine.claimHold]
  split
  · exact h.resumeActive (h.sdu _ hs)
  · exact h.sdu _ hs

theorem deferredAdvice : Keeps P deferredAdvice := by
  intro s hs
  unfold Machine.deferredAdvice
  split
  · split
    · exact h.adviseSleep _ hs
    · split
      · exact h.adviseSleep _ hs
      · exact hs
  · split
    · exact h.adviseSleep _ hs
    · split
      · exact h.adviseSleep _ hs
      · exact hs
  all_goals exact hs

theorem holdExpired (i) : Keeps P (holdExpired i) := by
  intro s hs
  unfold Machine.holdExpired
  split
  · split
    · exact h.deferredAdvice (h.place _ (h.sdu _ hs))
    · exact hs
  · exact hs

/-! ## Routes and the stall's limit -/

theorem vacateRoute (c i) : Keeps P (vacateRoute c i) := by
  intro s hs
  have ended : ∀ t : State, P t → P (if t.tcl.stall.map (·.entry) = some i then Machine.endStall t else t) := by
    intro t ht
    split
    · next held =>
      obtain ⟨st, stalled, _⟩ := Option.map_eq_some_iff.mp held
      exact h.unstall _ (by simp [stalled]) ht
    · exact ht
  refine ended _ ?_
  split
  · exact h.synthesize h.place c i hs
  · exact hs

/-- The end of a stall at its limit. In a full lane the loss may have ended the stall before (R61), so that the end of
a stall is asked for without one. -/
theorem escalateStall (hk : Keeps P (noteFault .dockStall)) (he : Keeps P endStall) : Keeps P escalateStall := by
  intro s hs
  unfold Machine.escalateStall
  split
  · split
    · next room => exact h.poolEffect _ _ _ (he (h.enter _ _ _ room hs))
    · exact h.poolEffect _ _ _ (he (h.loseStalled hk hs))
  · exact hs

end Stable

/-! ## Orientation -/

/-- An update of the PSE that writes nothing but the orientation record, its candidate and their timer. -/
abbrev Turns (f : Pse → Pse) : Prop :=
  ∀ p, ∃ o fl c r rho, f p = { p with orient := o, flat := fl, candidate := c, rotTimer := r, rho := rho }

namespace Stable

variable {P : State → Prop} (h : Stable P) (turn : ∀ f, Turns f → Keeps P (State.onPse f))
include turn

omit h in
theorem turned {f : Pse → Pse} {s} (hs : P s) (hf : Turns f := by intro; exact ⟨_, _, _, _, _, rfl⟩) :
    P (s.onPse f) := turn f hf hs

include h

theorem rotExpire (quiet) : Keeps P (rotExpire quiet) := by
  intro s hs
  unfold Machine.rotExpire
  split
  · split
    · simp only
      split
      · exact turned turn hs
      · exact h.place _ (turned turn hs)
    · exact turned turn hs
  all_goals exact hs

theorem compareRho (quiet rho) : Keeps P (compareRho quiet rho) := by
  intro s hs
  unfold Machine.compareRho
  split
  · exact turned turn hs
  · split
    · exact hs
    · simp only
      split
      · exact h.rotExpire turn _ (turned turn hs)
      · exact turned turn hs

theorem orientStep : Keeps P orientStep := by
  intro s hs
  simp only [Machine.orientStep]
  split
  · split
    · exact turned turn hs
    · exact h.place _ (turned turn hs)
  · split
    · exact h.place _ (h.compareRho turn _ _ (turned turn hs))
    · exact h.compareRho turn _ _ (turned turn hs)

end Stable

/-! ## Commits and evaluations -/

/-- A stable predicate that the PSE's updates in a commit and in an evaluation carry over as well: the Posture Record
of an immediate commit and the settle, both only where the dock state does not force SLATE, and the orientation
settle that a re-check starts for a blocked candidate. -/
structure Poised (P : State → Prop) : Prop extends Stable P where
  commit : ∀ (p : TablePosture) r s, s.dlc.state.forcesSlate = false → P s →
    P (writeCommit p.toPosture .immediate (some r) s)
  settle : ∀ c s, s.dlc.state.forcesSlate = false → P s → P (s.onPse fun p => { p with settle := c })
  rearm : ∀ o s, s.pse.candidate = .blocked o → P s → P (startRotSettle o s)

/-- A stable predicate that sees nothing of the PSE. -/
theorem Stable.poised {P : State → Prop} (h : Stable P) (hp : ∀ f, Keeps P (State.onPse f)) : Poised P :=
  { h with
    commit := fun _ _ _ _ => hp _ (s := _)
    settle := fun _ _ _ => hp _ (s := _)
    rearm := fun _ _ _ => hp _ (s := _) }

/-- Of three readers the first leads from `P` to `Q` and the others carry both over: in any order the three lead from
`P` to `Q`. -/
theorem ReaderOrder.run_leads {P Q : State → Prop} {a b c : State → State} (ha : ∀ ⦃s⦄, P s → Q (a s))
    (hb : Keeps P b) (hb' : Keeps Q b) (hc : Keeps P c) (hc' : Keeps Q c) (o : ReaderOrder) {s : State} (hs : P s) :
    Q (o.run a b c s) := by
  cases o
  · exact hc' (hb' (ha hs))
  · exact hb' (hc' (ha hs))
  · exact hc' (ha (hb hs))
  · exact ha (hc (hb hs))
  · exact hb' (ha (hc hs))
  · exact ha (hb (hc hs))

namespace Poised

variable {P : State → Prop} (h : Poised P)
include h

theorem recheckBlocked : Keeps P recheckBlocked := by
  intro s hs
  unfold Machine.recheckBlocked
  split
  · next blocked =>
    split
    · exact h.rearm _ _ blocked hs
    · exact hs
  all_goals exact hs

/-- A commit carries over what its Posture Record, once written, meets. -/
theorem commitPosture {p c r s} (hs : P (writeCommit p c r s)) : P (commitPosture p c r s) :=
  have allowance := h.penAllowance h.place
  h.recheckBlocked (ReaderOrder.run_leads (h.recompute _) allowance allowance (h.sleepOnCommit _ _)
    (h.sleepOnCommit _ _) _ (h.place _ hs))

theorem settleRow (i) {s} (free : s.dlc.state.forcesSlate = false) (hs : P s) : P (settleRow i s) := by
  simp only [Machine.settleRow]
  split
  · exact h.settle _ _ free hs
  · split
    · exact hs
    · split
      · exact h.commitPosture (h.commit _ _ _ free (h.settle _ _ free hs))
      · exact h.settle _ _ free hs

theorem evaluate : Keeps P evaluate := by
  intro s hs
  unfold Machine.evaluate
  split
  · exact hs
  · next free =>
    rw [Bool.not_eq_true] at free
    split
    · exact h.settleRow _ free hs
    · exact h.settle _ _ free hs

end Poised

/-- While the dock state forces SLATE an evaluation is skipped (R26). -/
theorem evaluate_of_forced {s : State} (h : s.dlc.state.forcesSlate = true) : evaluate s = s := by
  simp [evaluate, h]

end Sys2Proof.Machine
end

section
/-! PROOFS. The dock state's invariant (O57). It is taken apart into what it says of the DLC's block, of the pose that
the dock state forces and of the base vector's mark. A change of dock state passes through states that do not meet it:
between the entry into the new state and the entry actions no timer runs, and until the PSE has read the change the
pose is still that of the old state. -/

namespace Sys2Proof.Machine

/-! ## The parts of the invariant -/

/-- Each dock timer runs exactly in its state, and the latch drive only in RELEASING (R101, R112). -/
structure Dlc.Timed (d : Dlc) : Prop where
  hello : d.helloTimer.isSome = true ↔ d.state = .identifying
  grant : d.grantTimer.isSome = true ↔ d.state = .detachRequested
  quiesce : d.quiesceTimer.isSome = true ↔ d.state = .quiescing
  window : d.window.isSome = true ↔ d.state = .releasing
  latch : d.state ≠ .releasing → d.latchPhase = .off ∧ d.latchDrv = false ∧ d.latchDelay = none
    ∧ d.latchPeriod = none ∧ d.latchOn = none

/-- No dock timer runs and the latch drive is off. -/
structure Dlc.Quiet (d : Dlc) : Prop where
  hello : d.helloTimer = none
  grant : d.grantTimer = none
  quiesce : d.quiesceTimer = none
  window : d.window = none
  latch : d.latchPhase = .off ∧ d.latchDrv = false ∧ d.latchDelay = none ∧ d.latchPeriod = none ∧ d.latchOn = none

/-- The conditions on the DLC that no timer is part of. -/
structure Dlc.Bounded (d : Dlc) : Prop where
  count : d.latchCount ≤ 500
  errors : d.state.countsErrors = false → d.errors = 0 ∧ d.errTimer = none
  absent : d.state = .absent → d.slots = [] ∧ d.sending = none ∧ d.rx = .hunt ∧ d.identity = Identity.absent
  notice : d.noticeMark = true → d.state.inUse = true
  identify : d.identifyMark = true → d.state = .identifying
  buffer : d.buffer.length ≤ 4
  slots : d.slots.length ≤ 4

/-- SLATE is committed exactly where the dock state forces it, with no settle there (R36). -/
structure PoseFits (k : DockState) (posture : Posture) (settle : Option Settle) : Prop where
  slate : k.forcesSlate = true ↔ posture = .slate
  rests : k.forcesSlate = true → settle = none

/-- The base vector is valid only with an attached base (R5). -/
abbrev BaseFits (k : DockState) (p : Pse) : Prop := p.baseValid = true → k.inUse = true

theorem dockInv_iff (s : State) :
    dockInv s ↔ s.dlc.Timed ∧ s.dlc.Bounded ∧ PoseFits s.dlc.state s.pse.record.posture s.pse.settle
      ∧ BaseFits s.dlc.state s.pse := by
  constructor
  · rintro ⟨hello, grant, quiesce, window, latch, count, slate, settle, base, errors, absent, notice, identify, buffer,
      slots⟩
    exact ⟨⟨hello, grant, quiesce, window, latch⟩, ⟨count, errors, absent, notice, identify, buffer, slots⟩,
      ⟨slate, settle⟩, base⟩
  · rintro ⟨⟨hello, grant, quiesce, window, latch⟩, ⟨count, errors, absent, notice, identify, buffer, slots⟩,
      ⟨slate, settle⟩, base⟩
    exact ⟨hello, grant, quiesce, window, latch, count, slate, settle, base, errors, absent, notice, identify, buffer,
      slots⟩

/-- A predicate on the blocks of the DLC and the PSE is stable if it survives a frame's leaving of the buffer and the
notice mark of an attached base. -/
theorem Stable.of_dlc {R : Dlc → Pse → Prop} (tail : ∀ d p, R d p → R { d with buffer := d.buffer.tail } p)
    (notice : ∀ d p, d.state.inUse = true → R d p → R { d with noticeMark := true } p) :
    Stable fun s => R s.dlc s.pse where
  enter _ _ _ _ hs := hs
  lose _ hs := hs
  rqu _ _ _ hs := hs
  sdu _ _ hs := hs
  tcl _ _ _ hs := hs
  pcc _ _ hs := hs
  fault _ _ _ hs := hs
  unstall _ _ hs := tail _ _ hs
  notice _ used hs := notice _ _ used hs

theorem Dlc.Timed.tail {d : Dlc} (h : d.Timed) : Dlc.Timed { d with buffer := d.buffer.tail } :=
  ⟨h.hello, h.grant, h.quiesce, h.window, h.latch⟩

theorem Dlc.Timed.noticed {d : Dlc} (h : d.Timed) : Dlc.Timed { d with noticeMark := true } :=
  ⟨h.hello, h.grant, h.quiesce, h.window, h.latch⟩

theorem Dlc.Quiet.tail {d : Dlc} (h : d.Quiet) : Dlc.Quiet { d with buffer := d.buffer.tail } :=
  ⟨h.hello, h.grant, h.quiesce, h.window, h.latch⟩

theorem Dlc.Quiet.noticed {d : Dlc} (h : d.Quiet) : Dlc.Quiet { d with noticeMark := true } :=
  ⟨h.hello, h.grant, h.quiesce, h.window, h.latch⟩

theorem Dlc.Bounded.tail {d : Dlc} (h : d.Bounded) : Dlc.Bounded { d with buffer := d.buffer.tail } :=
  ⟨h.count, h.errors, h.absent, h.notice, h.identify, by simpa using Nat.le_succ_of_le h.buffer, h.slots⟩

theorem Dlc.Bounded.noticed {d : Dlc} (used : d.state.inUse = true) (h : d.Bounded) :
    Dlc.Bounded { d with noticeMark := true } :=
  ⟨h.count, h.errors, h.absent, fun _ => used, h.identify, h.buffer, h.slots⟩

theorem dockInv_stable : Stable dockInv := by
  have := Stable.of_dlc
    (R := fun d p => d.Timed ∧ d.Bounded ∧ PoseFits d.state p.record.posture p.settle ∧ BaseFits d.state p)
    (fun d p ⟨timed, bounded, pose, base⟩ => ⟨timed.tail, bounded.tail, pose, base⟩)
    (fun d p used ⟨timed, bounded, pose, base⟩ => ⟨timed.noticed, bounded.noticed used, pose, base⟩)
  simpa only [← dockInv_iff] using this

/-- An update of the PSE that keeps the Posture Record, the settle and the base vector's mark. -/
theorem dockInv_onPse {f : Pse → Pse} {s : State} (hs : dockInv s)
    (record : ∀ p, (f p).record = p.record := by intro; rfl) (settle : ∀ p, (f p).settle = p.settle := by intro; rfl)
    (base : ∀ p, (f p).baseValid = p.baseValid := by intro; rfl) : dockInv (s.onPse f) := by
  simpa only [dockInv, State.onPse_pse, State.onPse_dlc, record, settle, base] using hs

/-- No row of the Posture Table names SLATE (R23). -/
theorem TablePosture.toPosture_ne_slate (p : TablePosture) : p.toPosture ≠ .slate := by
  cases p <;> decide

/-- A commit to another posture than SLATE, outside the states that force SLATE. -/
theorem dockInv_writeCommit {s : State} {p : Posture} {c r} (free : s.dlc.state.forcesSlate = false)
    (hp : p ≠ .slate) (hs : dockInv s) : dockInv (writeCommit p c r s) := by
  obtain ⟨timed, bounded, pose, base⟩ := (dockInv_iff s).mp hs
  refine (dockInv_iff _).mpr ⟨timed, bounded, ⟨?_, fun forced => ?_⟩, base⟩
  · simp [writeCommit, free, hp]
  · simp [writeCommit, free] at forced

theorem dockInv_poised : Poised dockInv where
  toStable := dockInv_stable
  commit p _ _ free hs := dockInv_writeCommit free p.toPosture_ne_slate hs
  settle c s free hs := by
    obtain ⟨timed, bounded, pose, base⟩ := (dockInv_iff s).mp hs
    exact (dockInv_iff _).mpr ⟨timed, bounded, ⟨pose.slate, fun forced => by simp [free] at forced⟩, base⟩
  rearm _ _ _ hs := dockInv_onPse hs

/-! ## The DLC through a change of dock state -/

/-- Leaving a state stops the timer that runs in it, and no other runs. -/
theorem Dlc.Timed.leaveState {d : Dlc} (h : d.Timed) : d.leaveState.Quiet := by
  obtain ⟨hello, grant, quiesce, window, latch⟩ := h
  unfold Dlc.leaveState
  split <;> next e =>
    simp only [e, reduceCtorEq, iff_false, iff_true, Bool.not_eq_true, Option.isSome_eq_false_iff,
      Option.isNone_iff_eq_none, ne_eq, not_true_eq_false, not_false_eq_true, true_imp_iff, false_imp_iff]
      at hello grant quiesce window latch
    constructor <;> simp [Dlc.stopLatch, *]

theorem Dlc.Bounded.leaveState {d : Dlc} (h : d.Bounded) : d.leaveState.Bounded := by
  obtain ⟨count, errors, absent, notice, identify, buffer, slots⟩ := h
  unfold Dlc.leaveState
  split <;> exact ⟨count, errors, absent, notice, identify, buffer, slots⟩

theorem Dlc.enterState_state (new : DockState) (d : Dlc) : (d.enterState new).state = new := by
  unfold Dlc.enterState; cases new <;> rfl

theorem Dlc.Quiet.enterState {d : Dlc} (new : DockState) (h : d.Quiet) : (d.enterState new).Quiet := by
  obtain ⟨hello, grant, quiesce, window, latch⟩ := h
  unfold Dlc.enterState
  cases new <;> exact ⟨hello, grant, quiesce, window, latch⟩

theorem Dlc.Bounded.enterState {d : Dlc} (new : DockState) (h : d.Bounded) : (d.enterState new).Bounded := by
  have filtered : (d.slots.filter (·.sending)).length ≤ 4 := (List.length_filter_le _ _).trans h.slots
  have := h.count
  have := h.buffer
  have := h.slots
  constructor <;> cases new <;>
    simp_all [Dlc.enterState, DockState.countsErrors, DockState.inUse]

/-- The latch drive's start touches nothing but the drive, and its count stays within 500. -/
theorem Dlc.startLatch_cases (p : Params) (d : Dlc) : ∃ phase drv count delay period on, count ≤ 500 ∧
    d.startLatch p = { d with latchPhase := phase, latchDrv := drv, latchCount := count, latchDelay := delay,
                              latchPeriod := period, latchOn := on } := by
  unfold Dlc.startLatch
  split
  · exact ⟨_, _, _, _, _, _, Nat.min_le_left _ _, rfl⟩
  · exact ⟨_, _, _, _, _, _, Nat.zero_le _, rfl⟩

theorem Dlc.entryActions_state (p : Params) (old : DockState) (d : Dlc) : (d.entryActions p old).state = d.state := by
  obtain ⟨_, _, _, _, _, _, _, e⟩ := d.startLatch_cases p
  unfold Dlc.entryActions
  rw [e]
  split
  case h_5 => split <;> rfl
  all_goals rfl

/-- The entry actions start the timer of the state entered, and in RELEASING the latch drive. -/
theorem Dlc.Quiet.entryActions {d : Dlc} (p : Params) (old : DockState) (h : d.Quiet) :
    (d.entryActions p old).Timed := by
  obtain ⟨hello, grant, quiesce, window, latch⟩ := h
  obtain ⟨_, _, _, _, _, _, _, e⟩ := d.startLatch_cases p
  unfold Dlc.entryActions
  rw [e]
  split
  case h_5 => split <;> constructor <;> simp [*]
  all_goals constructor <;> simp [*]

theorem Dlc.Bounded.entryActions {d : Dlc} (p : Params) (old : DockState) (h : d.Bounded) :
    (d.entryActions p old).Bounded := by
  obtain ⟨count, errors, absent, notice, identify, buffer, slots⟩ := h
  obtain ⟨_, _, _, _, _, _, count', e⟩ := d.startLatch_cases p
  unfold Dlc.entryActions
  rw [e]
  split
  case h_1 identifying => exact ⟨count, errors, absent, notice, fun _ => identifying, buffer, slots⟩
  case h_4 => exact ⟨count', errors, absent, notice, identify, buffer, slots⟩
  case h_5 => split <;> exact ⟨count, errors, absent, notice, identify, buffer, slots⟩
  all_goals exact ⟨count, errors, absent, notice, identify, buffer, slots⟩

/-! ## The pose through a change of dock state -/

/-- A change of dock state may lead from a state that forces SLATE to another such state and to ATTACHED alone. -/
abbrev changesTo (old new : DockState) : Prop := old.forcesSlate = true → new.forcesSlate = true ∨ new = .attached

/-- Between the entry into a new dock state and the PSE's reading of it, the DLC's block stands as it should and the
pose is still that of the old state. -/
abbrev dockUnread (old new : DockState) (s : State) : Prop :=
  s.dlc.Timed ∧ s.dlc.Bounded ∧ s.dlc.state = new ∧ PoseFits old s.pse.record.posture s.pse.settle

/-- The same before the entry actions, with no timer running. -/
abbrev dockEntered (old new : DockState) (s : State) : Prop :=
  s.dlc.Quiet ∧ s.dlc.Bounded ∧ s.dlc.state = new ∧ PoseFits old s.pse.record.posture s.pse.settle

theorem dockUnread_stable (old new : DockState) : Stable (dockUnread old new) :=
  .of_dlc (R := fun d p => d.Timed ∧ d.Bounded ∧ d.state = new ∧ PoseFits old p.record.posture p.settle)
    (fun _ _ ⟨timed, bounded, state, pose⟩ => ⟨timed.tail, bounded.tail, state, pose⟩)
    (fun _ _ used ⟨timed, bounded, state, pose⟩ => ⟨timed.noticed, bounded.noticed used, state, pose⟩)

theorem dockEntered_stable (old new : DockState) : Stable (dockEntered old new) :=
  .of_dlc (R := fun d p => d.Quiet ∧ d.Bounded ∧ d.state = new ∧ PoseFits old p.record.posture p.settle)
    (fun _ _ ⟨quiet, bounded, state, pose⟩ => ⟨quiet.tail, bounded.tail, state, pose⟩)
    (fun _ _ used ⟨quiet, bounded, state, pose⟩ => ⟨quiet.noticed, bounded.noticed used, state, pose⟩)

/-- The forced SLATE meets the pose of every state that forces it. -/
theorem dockInv_forceSlate {old new : DockState} {s : State} (hs : dockUnread old new s)
    (forced : new.forcesSlate = true) (base : s.pse.baseValid = false) :
    dockInv (writeCommit .slate .dockForced none (cancelSettle s)) := by
  obtain ⟨timed, bounded, rfl, _⟩ := hs
  exact (dockInv_iff _).mpr ⟨timed, bounded, ⟨by simp [writeCommit, cancelSettle, forced], fun _ => rfl⟩,
    fun valid => absurd (valid.symm.trans base) (by decide)⟩

/-- The forced UNKNOWN meets the pose of ATTACHED. -/
theorem dockInv_forceUnknown {old : DockState} {s : State} (hs : dockUnread old .attached s) :
    dockInv (writeCommit .unknown .dockForced none (cancelSettle s)) := by
  obtain ⟨timed, bounded, state, _⟩ := hs
  refine (dockInv_iff _).mpr ⟨timed, bounded, ⟨?_, fun _ => rfl⟩, fun _ => ?_⟩
  · simp [writeCommit, cancelSettle, state, DockState.forcesSlate]
  · simp [writeCommit, cancelSettle, state, DockState.inUse]

/-- Between two states that force SLATE alike the pose needs no commit. -/
theorem dockInv_of_unread {old new : DockState} {s : State} (hs : dockUnread old new s)
    (same : new.forcesSlate = old.forcesSlate) (base : BaseFits new s.pse) : dockInv s := by
  obtain ⟨timed, bounded, rfl, pose⟩ := hs
  exact (dockInv_iff _).mpr ⟨timed, bounded, ⟨same ▸ pose.slate, same ▸ pose.rests⟩, base⟩

/-- The clearing of the base vector's mark without the evaluation that it may bring. -/
abbrev baseCleared (s : State) : State := s.onPse fun p => { p with baseValid := false, pairTimer := none }

/-- The clearing of the base vector's mark writes the face and evaluates for a change of it. -/
theorem invalidateBase_eq (s : State) : invalidateBase s = baseCleared s
    ∨ invalidateBase s = evaluate ((baseCleared s).onPse fun p => { p with face := .none }) := by
  unfold invalidateBase setFace
  split
  · exact .inl rfl
  · exact .inr rfl

/-- The PSE's reading of a change of dock state: base vector, forced SLATE or UNKNOWN (R5, R36, R37). -/
theorem dockInv_postureOnDock {old new : DockState} (moves : changesTo old new) {s : State}
    (hs : dockUnread old new s) : dockInv (postureOnDock old s) := by
  have h := dockInv_poised
  have state : s.dlc.state = new := hs.2.2.1
  unfold postureOnDock
  rw [state]
  by_cases forced : new.forcesSlate = true
  · -- SLATE is forced: no evaluation comes between, and the base vector is no longer valid
    have unused : new.inUse = false := by revert forced; cases new <;> decide
    obtain ⟨t, e, ht, base⟩ : ∃ t, invalidateBase s = t ∧ dockUnread old new t ∧ t.pse.baseValid = false := by
      rcases invalidateBase_eq s with e | e
      · exact ⟨_, e, hs, rfl⟩
      · rw [evaluate_of_forced (by simp [state, forced])] at e
        exact ⟨_, e, hs, rfl⟩
    simp only [unused, forced, e, Bool.false_eq_true, if_false, if_true]
    split
    · next was => exact dockInv_of_unread ht (forced.trans was.symm) (by simp [base])
    · exact h.commitPosture (dockInv_forceSlate ht forced base)
  · simp only [forced, Bool.false_eq_true, if_false]
    by_cases attaches : new = .attached ∧ old ≠ .attached
    · obtain ⟨rfl, was⟩ := attaches
      simp only [was, DockState.inUse, ne_eq, not_false_eq_true, decide_true, Bool.and_self, if_true]
      exact h.evaluate (h.commitPosture (dockInv_forceUnknown hs))
    · -- no posture is forced: neither state forces one, and an evaluation commits a row's posture
      have was : old.forcesSlate = false := by
        by_contra was
        rw [Bool.not_eq_false] at was
        rcases moves was with new_forces | rfl
        · exact forced new_forces
        · exact attaches ⟨rfl, fun e => by simp [e, DockState.forcesSlate] at was⟩
      have same : new.forcesSlate = old.forcesSlate := by simp [forced, was]
      have decided : (decide (new = .attached) && decide (old ≠ .attached)) = false := by simpa using attaches
      simp only [decided, Bool.false_eq_true, if_false]
      split
      · next used => exact dockInv_of_unread hs same fun _ => used
      · have cleared : dockInv (baseCleared s) := dockInv_of_unread (s := baseCleared s) hs same (by simp)
        rcases invalidateBase_eq s with e | e <;> rw [e]
        · exact cleared
        · exact h.evaluate (dockInv_onPse cleared)

/-- A change of dock state keeps the dock state's invariant. -/
theorem dockInv_changeDock {new : DockState} {ev cause} {sdu : State → State} {s : State}
    (moves : changesTo s.dlc.state new) (hu : ∀ P, Stable P → Keeps P sdu) (hs : dockInv s) :
    dockInv (changeDock new ev cause sdu s) := by
  obtain ⟨timed, bounded, pose, -⟩ := (dockInv_iff s).mp hs
  have entered : dockEntered s.dlc.state new (s.onDlc fun d => Dlc.enterState new d.leaveState) :=
    ⟨timed.leaveState.enterState new, bounded.leaveState.enterState new, Dlc.enterState_state _ _, pose⟩
  have recorded : ∀ t, dockEntered s.dlc.state new t →
      dockEntered s.dlc.state new (match ev with
        | some e => place (dockRecord e s.dlc.state cause t.dlc) t
        | none => t) := by
    intro t ht
    cases ev
    · exact ht
    · exact (dockEntered_stable _ _).place _ ht
  have acted : ∀ p t, dockEntered s.dlc.state new t →
      dockUnread s.dlc.state new (t.onDlc fun d => Dlc.entryActions p s.dlc.state d) :=
    fun p t ⟨quiet, bounded, state, pose⟩ => ⟨quiet.entryActions p _, bounded.entryActions p _,
      (Dlc.entryActions_state _ _ _).trans state, pose⟩
  have unread := acted s.params _ (recorded _ entered)
  exact ReaderOrder.run_leads (fun _ => dockInv_postureOnDock moves) ((dockUnread_stable _ _).recompute _)
    (dockInv_stable.recompute _) (hu _ (dockUnread_stable _ _)) (hu _ dockInv_stable) _ unread

end Sys2Proof.Machine
end

section
/-! PROOFS. The dock state's invariant through every command (O57): the dock state machine and the link, the Posture
Engine's own operations, the requests, the passing of a millisecond, and the step. -/

namespace Sys2Proof.Machine

/-! ## The dock state machine -/

/-- What a transition hands to the SDU carries every stable predicate over. -/
theorem sdu_nothing (P : State → Prop) (_ : Stable P) : Keeps P nothing := fun _ hs => hs

theorem sdu_wakeActivity (k : WakeKind) (P : State → Prop) (h : Stable P) : Keeps P fun s => activity (wake k s) :=
  fun _ hs => h.activity (h.wake k hs)

/-- A change to a state that forces SLATE. -/
theorem dockInv_toForced {new : DockState} (forced : new.forcesSlate = true) {ev cause sdu s}
    (hu : ∀ P, Stable P → Keeps P sdu) (hs : dockInv s) : dockInv (changeDock new ev cause sdu s) :=
  dockInv_changeDock (fun _ => .inl forced) hu hs

/-- A change to ATTACHED. -/
theorem dockInv_toAttached {ev cause sdu s} (hu : ∀ P, Stable P → Keeps P sdu) (hs : dockInv s) :
    dockInv (changeDock .attached ev cause sdu s) :=
  dockInv_changeDock (fun _ => .inr rfl) hu hs

/-- A change from a state that does not force SLATE. -/
theorem dockInv_fromFree {new : DockState} {ev cause sdu s} (free : s.dlc.state.forcesSlate = false)
    (hu : ∀ P, Stable P → Keeps P sdu) (hs : dockInv s) : dockInv (changeDock new ev cause sdu s) :=
  dockInv_changeDock (fun forced => by simp [free] at forced) hu hs

theorem dockInv_setFace (f) : Keeps dockInv (setFace f) := by
  intro s hs
  unfold setFace
  split
  · exact hs
  · exact dockInv_poised.evaluate (dockInv_onPse hs)

theorem dockInv_invalidateBase : Keeps dockInv invalidateBase := by
  intro s hs
  obtain ⟨timed, bounded, pose, -⟩ := (dockInv_iff s).mp hs
  have cleared : dockInv (baseCleared s) := (dockInv_iff _).mpr ⟨timed, bounded, pose, by simp [baseCleared]⟩
  exact dockInv_setFace _ cleared

/-- An update of the DLC that the invariant's other parts do not see. -/
theorem dockInv_onDlc {f : Dlc → Dlc} {s : State} (hs : dockInv s) (state : (f s.dlc).state = s.dlc.state)
    (timed : s.dlc.Timed → (f s.dlc).Timed) (bounded : s.dlc.Bounded → (f s.dlc).Bounded) : dockInv (s.onDlc f) := by
  obtain ⟨ht, hb, pose, base⟩ := (dockInv_iff s).mp hs
  refine (dockInv_iff _).mpr ⟨timed ht, bounded hb, ?_, ?_⟩
  · simpa [state] using pose
  · simpa [state] using base

theorem dockInv_acceptHello (i) {s} (identifying : s.dlc.state = .identifying) (hs : dockInv s) :
    dockInv (acceptHello i s) := by
  have replaced : dockInv (s.onDlc fun d => { d with identity := i }) :=
    dockInv_onDlc hs rfl (fun h => ⟨h.hello, h.grant, h.quiesce, h.window, h.latch⟩)
      (fun h => ⟨h.count, h.errors, fun absent => by simp [identifying] at absent, h.notice, h.identify, h.buffer,
        h.slots⟩)
  unfold acceptHello
  simp only
  split
  · exact dockInv_toAttached (sdu_wakeActivity _) replaced
  · exact dockInv_toAttached (sdu_wakeActivity _) (dockInv_invalidateBase replaced)

theorem dockInv_latchRequested : Keeps dockInv latchRequested := by
  intro s hs
  unfold latchRequested
  split
  · next attached => exact dockInv_fromFree (by simp [attached, DockState.forcesSlate]) (fun _ h => h.wake _) hs
  · exact hs

theorem dockInv_restartDock : Keeps dockInv restartDock := by
  intro s hs
  unfold restartDock
  split
  · exact dockInv_toForced rfl sdu_nothing hs
  · exact dockInv_toForced rfl sdu_nothing hs
  · exact dockInv_toForced rfl sdu_nothing hs
  · exact dockInv_toForced rfl sdu_nothing hs
  all_goals exact hs

theorem dockInv_loseBase : Keeps dockInv loseBase := by
  intro s hs
  unfold loseBase
  split
  · exact dockInv_toForced rfl (fun _ h => h.activity) hs
  · exact dockInv_toForced rfl (sdu_wakeActivity _) hs
  · exact dockInv_toForced rfl (sdu_wakeActivity _) hs
  · exact dockInv_toForced rfl (sdu_wakeActivity _) hs
  · exact dockInv_toForced rfl sdu_nothing hs
  · exact dockInv_toForced rfl sdu_nothing hs
  · exact dockInv_toForced rfl sdu_nothing hs
  · exact hs

theorem dockInv_senseMillisecond (present) : Keeps dockInv (senseMillisecond present) := by
  intro s hs
  have timed : ∀ t : Timer, dockInv (s.onDlc fun d => { d with senseTimer := t }) := fun _ => hs
  unfold senseMillisecond
  split
  · simp only
    split
    · exact dockInv_toForced rfl sdu_nothing (timed _)
    · exact timed _
  · split
    · exact hs
    · simp only
      split
      · exact dockInv_toForced rfl sdu_nothing (timed _)
      · exact timed _

theorem dockInv_senseComplete : Keeps dockInv senseComplete := by
  intro s hs
  unfold senseComplete
  split
  · exact dockInv_toForced rfl sdu_nothing (s := s.onDlc fun d => { d with sense := true, senseTimer := none }) hs
  · exact hs

theorem dockInv_senseLost : Keeps dockInv senseLost := by
  intro s hs
  unfold senseLost
  split
  · exact dockInv_loseBase (s := s.onDlc fun d => { d with sense := false, senseTimer := none }) hs
  · exact hs

theorem dockInv_acceptPress : Keeps dockInv acceptPress :=
  fun s hs => dockInv_latchRequested
    (s := s.onDlc fun d => { d with button := true, buttonRun := 0, buttonFresh := false }) hs

theorem dockInv_buttonMillisecond (pressed) : Keeps dockInv (buttonMillisecond pressed) := by
  intro s hs
  unfold buttonMillisecond
  split
  · exact hs
  · split
    · exact hs
    · split
      · exact hs
      · split
        · exact dockInv_acceptPress hs
        · exact hs

/-- A raise of any fault kind. -/
theorem dockInv_raiseFault (k) : Keeps dockInv (raiseFault k) := dockInv_stable.raiseFault fun _ hs => hs

theorem dockInv_helloExpired : Keeps dockInv helloExpired := by
  intro s hs
  unfold helloExpired
  split
  · next runs =>
    have identifying : s.dlc.state = .identifying := ((dockInv_iff s).mp hs).1.hello.mp runs
    split
    · exact dockInv_onDlc hs rfl
        (fun h => ⟨by simp [identifying], h.grant, h.quiesce, h.window, h.latch⟩)
        (fun h => ⟨h.count, h.errors, h.absent, h.notice, fun _ => identifying, h.buffer, h.slots⟩)
    · exact dockInv_raiseFault _ (dockInv_toForced rfl sdu_nothing hs)
  · exact hs

theorem dockInv_grantExpired {s} (hs : dockInv s) : dockInv (if s.dlc.grantTimer.isSome then
    (if s.params.grantsByDefault then grantDetach .grantedByDefault s else denyDetach .timedOut s) else s) := by
  split
  · next runs =>
    have requested : s.dlc.state = .detachRequested := ((dockInv_iff s).mp hs).1.grant.mp runs
    split
    · exact dockInv_fromFree (by simp [requested, DockState.forcesSlate]) sdu_nothing hs
    · exact dockInv_toAttached sdu_nothing hs
  · exact hs

theorem dockInv_releaseBase (cause) {s} (quiescing : s.dlc.state = .quiescing) (hs : dockInv s) :
    dockInv (releaseBase cause s) :=
  dockInv_fromFree (by simp [quiescing, DockState.forcesSlate]) sdu_nothing hs

/-- A period of the latch drive starts, in RELEASING. -/
theorem dockInv_startPeriod {s} (releasing : s.dlc.state = .releasing) (hs : dockInv s) :
    dockInv (s.onDlc (Dlc.startPeriod s.params)) :=
  dockInv_onDlc hs rfl (fun h => ⟨h.hello, h.grant, h.quiesce, h.window, fun other => absurd releasing other⟩)
    (fun h => ⟨Nat.min_le_left _ _, h.errors, h.absent, h.notice, h.identify, h.buffer, h.slots⟩)

/-- A timer of the latch drive runs in RELEASING alone. -/
theorem releasing_of_latch {s} (hs : dockInv s) (runs : s.dlc.latchDelay.isSome = true ∨ s.dlc.latchPeriod.isSome = true
    ∨ s.dlc.latchOn.isSome = true) : s.dlc.state = .releasing := by
  by_contra other
  obtain ⟨-, -, delay, period, on⟩ := ((dockInv_iff s).mp hs).1.latch other
  simp [delay, period, on] at runs

/-- A timer of the latch drive stops, and with it perhaps the drive. -/
theorem dockInv_stopLatchTimer {s} (releasing : s.dlc.state = .releasing) (drv : Dlc → Bool)
    (delay period on : Dlc → Timer) (hs : dockInv s) :
    dockInv (s.onDlc fun d =>
      { d with latchDrv := drv d, latchDelay := delay d, latchPeriod := period d, latchOn := on d }) :=
  dockInv_onDlc hs rfl (fun h => ⟨h.hello, h.grant, h.quiesce, h.window, fun other => absurd releasing other⟩)
    (fun h => ⟨h.count, h.errors, h.absent, h.notice, h.identify, h.buffer, h.slots⟩)

/-! ## The Dock Link -/

/-- The error count and its window, in a state in which the window runs or with the window closed. -/
theorem dockInv_errors {s} (n t) (ok : s.dlc.state.countsErrors = true ∨ (n = 0 ∧ t = none)) (hs : dockInv s) :
    dockInv (s.onDlc fun d => { d with errors := n, errTimer := t }) :=
  dockInv_onDlc hs rfl (fun h => ⟨h.hello, h.grant, h.quiesce, h.window, h.latch⟩)
    (fun h => ⟨h.count, fun idle => ok.resolve_left (by simp [show s.dlc.state.countsErrors = false from idle]),
      h.absent, h.notice, h.identify, h.buffer, h.slots⟩)

theorem Dlc.countError_eq (d : Dlc) : ∃ n t, d.countError = { d with errors := n, errTimer := t } := by
  unfold Dlc.countError
  split
  · exact ⟨_, _, rfl⟩
  · exact ⟨_, d.errTimer, rfl⟩

theorem dockInv_linkError : Keeps dockInv linkError := by
  intro s hs
  unfold linkError
  split
  · next counts =>
    have counted : dockInv (s.onDlc Dlc.countError) := by
      obtain ⟨n, t, e⟩ := s.dlc.countError_eq
      have := dockInv_errors n t (.inl counts) hs
      simpa only [dockInv, State.onDlc_dlc, State.onDlc_pse, e] using this
    simp only
    split
    · exact dockInv_toForced rfl sdu_nothing
        (dockInv_raiseFault _ (dockInv_errors _ _ (.inr ⟨rfl, rfl⟩) counted))
    · exact counted
  · exact hs

theorem dockInv_reenable (n) : Keeps dockInv (reenable n) := dockInv_stable.reenable n

theorem dockInv_reenableDock : Keeps dockInv reenableDock := by
  intro s hs
  unfold reenableDock
  exact dockInv_reenable _ hs

theorem dockInv_nodeZeroRestart : Keeps dockInv nodeZeroRestart := by
  intro s hs
  unfold nodeZeroRestart
  split
  · exact dockInv_restartDock (dockInv_reenableDock hs)
  · exact dockInv_reenableDock (dockInv_restartDock hs)

theorem dockInv_managementClass (c p) : Keeps dockInv (managementClass c p) := by
  intro s hs
  unfold managementClass
  split
  · next hello =>
    split
    · exact dockInv_acceptHello _ hello.2 hs
    · exact dockInv_linkError hs
  · split
    · next quiesced => exact dockInv_releaseBase _ quiesced.2 hs
    · exact hs

theorem dockInv_management (c b p) : Keeps dockInv (management c b p) := by
  intro s hs
  refine dockInv_managementClass _ _ ?_
  split
  · exact dockInv_nodeZeroRestart hs
  · exact hs

theorem dockInv_bufferFrame (f) : Keeps dockInv (bufferFrame f) := by
  intro s hs
  unfold bufferFrame
  split
  · next room =>
    exact dockInv_onDlc hs rfl (fun h => ⟨h.hello, h.grant, h.quiesce, h.window, h.latch⟩)
      (fun h => ⟨h.count, h.errors, h.absent, h.notice, h.identify, by simpa using room, h.slots⟩)
  · exact dockInv_raiseFault _ hs

theorem dockInv_frameArrives (n c b p) : Keeps dockInv (frameArrives n c b p) := by
  intro s hs
  unfold frameArrives
  split
  · exact hs
  · split
    · exact dockInv_linkError hs
    · split
      · split
        · exact hs
        · exact dockInv_management _ _ _ hs
      · split
        · exact dockInv_bufferFrame _ hs
        · exact hs

/-- The receiver set: in ABSENT it is in HUNT (R97). -/
theorem dockInv_setRx (r) {s} (ok : s.dlc.state ≠ .absent ∨ r = .hunt) (hs : dockInv s) : dockInv (setRx r s) :=
  dockInv_onDlc hs rfl (fun h => ⟨h.hello, h.grant, h.quiesce, h.window, h.latch⟩)
    (fun h => ⟨h.count, h.errors,
      fun absent =>
        have ⟨slots, sending, _, identity⟩ := h.absent absent
        ⟨slots, sending, ok.resolve_left (not_not_intro absent), identity⟩,
      h.notice, h.identify, h.buffer, h.slots⟩)

theorem dockInv_dataCharacter (b) {s} (present : s.dlc.state ≠ .absent) (hs : dockInv s) :
    dockInv (dataCharacter b s) := by
  have rx := fun r => dockInv_setRx r (.inl present) hs
  unfold dataCharacter
  split
  · exact hs
  · split
    · exact dockInv_linkError (rx _)
    · split <;> exact rx _
  · split <;> exact rx _
  · split
    · exact dockInv_frameArrives _ _ _ _ (rx _)
    · exact dockInv_linkError (rx _)

theorem dockInv_receive (data mark stop) : Keeps dockInv (receive data mark stop) := by
  intro s hs
  unfold receive
  split
  · exact hs
  · next present =>
    have rx := fun r => dockInv_setRx r (.inl present) hs
    split
    · split
      · exact dockInv_linkError (rx _)
      · exact hs
    · split
      · simp only
        split
        · exact dockInv_linkError (rx _)
        · exact rx _
      · exact dockInv_dataCharacter _ present hs

/-- The choice of a slot marks it and leaves their number. -/
theorem takeSlot_length : ∀ {l : List TxSlot} {chars slots}, takeSlot l = some (chars, slots) → slots.length = l.length
  | [], _, _, e => by simp [takeSlot] at e
  | x :: rest, _, _, e => by
    unfold takeSlot at e
    split at e
    · obtain ⟨⟨chars, slots⟩, taken, e⟩ := Option.map_eq_some_iff.mp e
      obtain ⟨-, rfl⟩ := Prod.mk.inj e
      simp [takeSlot_length taken]
    · obtain ⟨-, rfl⟩ := Prod.mk.inj (Option.some.inj e)
      rfl

theorem dockInv_chooseFrame (asleep) {s} (present : s.dlc.state ≠ .absent) (hs : dockInv s) :
    dockInv (s.onDlc (Dlc.chooseFrame asleep)) := by
  have chosen : (s.dlc.chooseFrame asleep).state = s.dlc.state
      ∧ (s.dlc.Timed → (s.dlc.chooseFrame asleep).Timed) ∧ (s.dlc.Bounded → (s.dlc.chooseFrame asleep).Bounded) := by
    have absurdly {p : Prop} (absent : s.dlc.state = .absent) : p := absurd absent present
    unfold Dlc.chooseFrame
    split
    · exact ⟨rfl, fun h => ⟨h.hello, h.grant, h.quiesce, h.window, h.latch⟩,
        fun h => ⟨h.count, h.errors, absurdly, h.notice, by simp, h.buffer, h.slots⟩⟩
    · split
      · exact ⟨rfl, fun h => ⟨h.hello, h.grant, h.quiesce, h.window, h.latch⟩,
          fun h => ⟨h.count, h.errors, absurdly, h.notice, h.identify, h.buffer, h.slots⟩⟩
      · split
        · exact ⟨rfl, fun h => ⟨h.hello, h.grant, h.quiesce, h.window, h.latch⟩,
            fun h => ⟨h.count, h.errors, absurdly, by simp, h.identify, h.buffer, h.slots⟩⟩
        · split
          · next taken =>
            exact ⟨rfl, fun h => ⟨h.hello, h.grant, h.quiesce, h.window, h.latch⟩,
              fun h => ⟨h.count, h.errors, absurdly, h.notice, h.identify, h.buffer,
                (takeSlot_length taken).trans_le h.slots⟩⟩
          · exact ⟨rfl, id, id⟩
  exact dockInv_onDlc hs chosen.1 chosen.2.1 chosen.2.2

theorem dockInv_endTransmission : Keeps dockInv (State.onDlc Dlc.endTransmission) := by
  intro s hs
  have ended : s.dlc.endTransmission.state = s.dlc.state
      ∧ (s.dlc.Timed → s.dlc.endTransmission.Timed) ∧ (s.dlc.Bounded → s.dlc.endTransmission.Bounded) := by
    unfold Dlc.endTransmission
    split
    · next sends =>
      refine ⟨rfl, fun h => ⟨h.hello, h.grant, h.quiesce, h.window, h.latch⟩,
        fun h => ⟨h.count, h.errors, fun absent => ?_, h.notice, h.identify, h.buffer, ?_⟩⟩
      · have := (h.absent absent).2.1
        simp [sends] at this
      · show (if _ then _ else _ : List TxSlot).length ≤ 4
        split
        · exact (List.length_filter_le _ _).trans h.slots
        · exact h.slots
    · exact ⟨rfl, id, id⟩
  exact dockInv_onDlc hs ended.1 ended.2.1 ended.2.2

theorem dockInv_queueSlot {s} (x : TxSlot) (used : s.dlc.state.inUse = true) (room : s.dlc.slots.length < 4)
    (hs : dockInv s) : dockInv (s.onDlc fun d => { d with slots := d.slots ++ [x] }) :=
  dockInv_onDlc hs rfl (fun h => ⟨h.hello, h.grant, h.quiesce, h.window, h.latch⟩)
    (fun h => ⟨h.count, h.errors, fun absent => by simp [show s.dlc.state = _ from absent, DockState.inUse] at used,
      h.notice, h.identify, h.buffer, by simpa using room⟩)

/-! ## The traffic path -/

/-- A frame leads from the dock state's invariant to it, from either side. -/
theorem dockInv_frame (dock : Bool) : FrameLeads dock dockInv dockInv where
  before := dockInv_stable
  after := dockInv_stable
  ends s hs := by
    unfold endFrame
    split
    · exact dockInv_onDlc hs rfl (·.tail) (·.tail)
    · exact hs
  stalls _ _ _ hs := hs

theorem dockInv_classify (dock f) : Keeps dockInv (classify dock f) :=
  fun _ hs => (dockInv_frame dock).classify (fun _ _ hs => hs) f hs

theorem dockInv_baseSample (v) : Keeps dockInv (baseSample v) := by
  intro s hs
  obtain ⟨timed, bounded, pose, -⟩ := (dockInv_iff s).mp hs
  refine dockInv_setFace _ ((dockInv_iff _).mpr ⟨timed, bounded, pose, fun valid => ?_⟩)
  exact (Bool.and_eq_true_iff.mp valid).1

theorem dockInv_takeHead : Keeps dockInv takeHead := by
  intro s hs
  have restarted : ∀ f : Frame, dockInv (if f.restart then reenable (· = f.source) s else s) := by
    intro f; split
    · exact dockInv_reenable _ hs
    · exact hs
  have tapped : ∀ f, Keeps dockInv (tap f) := by
    intro f t ht
    unfold tap
    split
    · split
      · exact dockInv_baseSample _ ht
      · exact ht
    · exact ht
  unfold takeHead
  split
  · exact dockInv_classify _ _ (tapped _ (restarted _))
  · exact hs

/-! ## The Posture Engine -/

/-- The orientation is no part of the invariant. -/
theorem dockInv_turn (f) (hf : Turns f) : Keeps dockInv (State.onPse f) := by
  intro s hs
  obtain ⟨o, fl, c, r, rho, e⟩ := hf s.pse
  have turned : dockInv (s.onPse fun p =>
      { p with orient := o, flat := fl, candidate := c, rotTimer := r, rho := rho }) := dockInv_onPse hs
  simpa only [dockInv, State.onPse_pse, State.onPse_dlc, e] using turned

theorem dockInv_orientStep : Keeps dockInv orientStep := dockInv_stable.orientStep dockInv_turn

theorem dockInv_hingeStepOf : Keeps dockInv hingeStepOf := by
  intro s hs
  unfold hingeStepOf
  split
  · exact dockInv_poised.evaluate (dockInv_onPse hs)
  · unfold gateFailure
    split
    · exact dockInv_poised.evaluate (dockInv_onPse hs)
    · exact hs

theorem dockInv_lidArrival (v) : Keeps dockInv (lidArrival v) := fun _ hs =>
  dockInv_classify _ _ (dockInv_hingeStepOf (dockInv_orientStep (dockInv_onPse hs)))

theorem dockInv_lidFailure : Keeps dockInv lidFailure := by
  intro s hs
  simp only [lidFailure]
  split
  · exact dockInv_raiseFault _ (dockInv_onPse hs)
  · exact dockInv_onPse hs

theorem dockInv_setHall (i x) : Keeps dockInv (setHall i x) := by
  intro s hs
  unfold setHall
  split <;> exact dockInv_onPse hs

theorem dockInv_acceptHall (i l) : Keeps dockInv (acceptHall i l) := fun _ hs =>
  dockInv_classify _ _ (dockInv_poised.evaluate (dockInv_setHall _ _ hs))

theorem dockInv_settleHall (i l) : Keeps dockInv (settleHall i l) := by
  intro s hs
  unfold settleHall
  split
  · exact dockInv_acceptHall _ _ hs
  · exact hs

theorem dockInv_hallMillisecond (a b) : Keeps dockInv (hallMillisecond a b) := by
  intro s hs
  unfold hallMillisecond
  simp only
  split
  · exact dockInv_settleHall _ _ (dockInv_settleHall _ _ (dockInv_setHall _ _ (dockInv_setHall _ _ hs)))
  · exact dockInv_settleHall _ _ (dockInv_settleHall _ _ (dockInv_setHall _ _ (dockInv_setHall _ _ hs)))

theorem dockInv_setLock (on) : Keeps dockInv (setLock on) := by
  intro s hs
  unfold setLock
  split
  · exact hs
  · simp only
    split
    · exact dockInv_onPse hs
    · exact dockInv_poised.recheckBlocked (dockInv_onPse hs)

theorem dockInv_staleExpired {s} (hs : dockInv s) : dockInv (if s.pse.staleTimer.isSome then
    (let s1 := s.onPse fun p => { p with staleTimer := none, hinge := .unknown }
     if s.pse.hinge = .unknown then s1 else evaluate s1) else s) := by
  split
  · simp only
    split
    · exact dockInv_onPse hs
    · exact dockInv_poised.evaluate (dockInv_onPse hs)
  · exact hs

/-- A settle runs only where no posture is forced, and a row's posture is not SLATE. -/
theorem dockInv_settleExpired {s} (hs : dockInv s) : dockInv (match s.pse.settle with
    | some c => commitPosture c.posture.toPosture .settled (some c.row) (cancelSettle s)
    | none => s) := by
  split
  · next c settles =>
    have free : s.dlc.state.forcesSlate = false := by
      by_contra forced
      have := ((dockInv_iff s).mp hs).2.2.1.rests (by simpa using forced)
      simp [settles] at this
    exact dockInv_poised.commitPosture
      (dockInv_writeCommit free c.posture.toPosture_ne_slate (dockInv_poised.settle none s free hs))
  · exact hs

/-! ## Resets and the passing of a millisecond -/

/-- The DLC after either reset and the Posture Record after it meet the invariant, whatever the rest. -/
theorem dockInv_of_reset {s} (dlc : s.dlc = Dlc.reset) (record : s.pse.record = PostureRecord.reset)
    (settle : s.pse.settle = none) (base : s.pse.baseValid = false) : dockInv s := by
  rw [dockInv_iff, dlc, record, settle, BaseFits, base]
  refine ⟨?_, ?_, ?_, by decide⟩ <;> constructor <;> decide

theorem dockInv_warmReset (c s) : dockInv (warmReset c s) :=
  dockInv_stable.runCycle (dockInv_stable.idleRestart (dockInv_of_reset rfl rfl rfl rfl))

theorem Timer.after_isSome (t : Timer) : (Timer.after t).isSome = t.isSome := Option.isSome_map

theorem dockInv_tick : Keeps dockInv tick := by
  intro s hs
  obtain ⟨⟨hello, grant, quiesce, window, latch⟩, ⟨count, errors, absent, notice, identify, buffer, slots⟩,
    ⟨slate, rests⟩, base⟩ := (dockInv_iff s).mp hs
  refine (dockInv_iff _).mpr ⟨⟨?_, ?_, ?_, ?_, fun other => ?_⟩,
    ⟨count, fun idle => ?_, absent, notice, identify, buffer, slots⟩, ⟨slate, fun forced => ?_⟩, base⟩
  · simpa [tick, Dlc.tick, Timer.after_isSome] using hello
  · simpa [tick, Dlc.tick, Timer.after_isSome] using grant
  · simpa [tick, Dlc.tick, Timer.after_isSome] using quiesce
  · simpa [tick, Dlc.tick, Timer.after_isSome] using window
  · obtain ⟨phase, drv, delay, period, on⟩ := latch other
    simp [tick, Dlc.tick, Timer.after, phase, drv, delay, period, on]
  · obtain ⟨none_counted, closed⟩ := errors idle
    simp [tick, Dlc.tick, Timer.after, none_counted, closed]
  · simp [tick, Pse.tick, rests forced]

/-! ## The requests -/

/-- An answer is no part of the invariant. -/
theorem dockInv_respond (ty tag st p) : Keeps dockInv (respond ty tag st p) := fun _ hs => hs

theorem dockInv_storeParam (n v) : Keeps dockInv (storeParam n v) := by
  intro s hs
  have stored : dockInv (s.onParams fun p => p.set n v) := hs
  unfold storeParam
  simp only
  split
  · exact dockInv_poised.recheckBlocked stored
  · exact stored

theorem dockInv_configSet (tag number value) : Keeps dockInv (configSet tag number value) := by
  intro s hs
  unfold configSet
  simp only
  split
  · exact hs
  · split
    · exact hs
    · split
      · exact hs
      · exact dockInv_respond _ _ _ _ (dockInv_storeParam _ _ hs)

theorem dockInv_configGet (tag number) : Keeps dockInv (configGet tag number) := by
  intro s hs
  unfold configGet
  split <;> exact hs

theorem dockInv_onRoute (i f) : Keeps dockInv (State.onRoute i f) := fun _ hs => hs

theorem dockInv_loadRoute (tag index fields) : Keeps dockInv (loadRoute tag index fields) := by
  intro s hs
  unfold loadRoute
  split
  · exact hs
  · split
    · split
      · exact hs
      · exact dockInv_respond _ _ _ _ (dockInv_onRoute _ _ (dockInv_stable.vacateRoute _ _ hs))
    · exact hs

theorem dockInv_clearRoute (tag index) : Keeps dockInv (clearRoute tag index) := by
  intro s hs
  unfold clearRoute
  split
  · exact hs
  · split
    · exact dockInv_respond _ _ _ _ (dockInv_onRoute _ _ (dockInv_stable.vacateRoute _ _ hs))
    · exact hs

theorem dockInv_readRoute (tag index) : Keeps dockInv (readRoute tag index) := by
  intro s hs
  unfold readRoute
  split <;> exact hs

theorem dockInv_loadPosture (tag row fields) : Keeps dockInv (loadPosture tag row fields) := by
  intro s hs
  obtain ⟨timed, bounded, pose, base⟩ := (dockInv_iff s).mp hs
  unfold loadPosture
  split
  · exact hs
  · split
    · exact dockInv_respond _ _ _ _ ((dockInv_iff _).mpr ⟨timed, bounded, ⟨pose.slate, fun _ => rfl⟩, base⟩)
    · exact hs

theorem dockInv_readPosture (tag row) : Keeps dockInv (readPosture tag row) := by
  intro s hs
  unfold readPosture
  split <;> exact hs

theorem dockInv_orientLock (tag arg) : Keeps dockInv (orientLock tag arg) := by
  intro s hs
  unfold orientLock
  split
  · exact dockInv_respond _ _ _ _ (dockInv_setLock _ hs)
  · exact hs

theorem dockInv_sendDock (tag node cls len payload) : Keeps dockInv (sendDock tag node cls len payload) := by
  intro s hs
  unfold sendDock
  split
  · exact hs
  · split
    · exact hs
    · next used =>
      split
      · exact hs
      · next room =>
        exact dockInv_respond _ _ _ _ (dockInv_queueSlot _ (by simpa using used) (Nat.lt_of_not_le room) hs)

theorem dockInv_answerDetach (tag arg) : Keeps dockInv (answerDetach tag arg) := by
  intro s hs
  unfold answerDetach
  split
  · exact hs
  · split
    · exact hs
    · next requested =>
      rw [not_not] at requested
      split
      · exact dockInv_respond _ _ _ _
          (dockInv_fromFree (by simp [requested, DockState.forcesSlate]) sdu_nothing hs)
      · exact dockInv_respond _ _ _ _ (dockInv_toAttached sdu_nothing hs)

theorem dockInv_retryDock (tag) : Keeps dockInv (retryDock tag) := by
  intro s hs
  unfold retryDock
  split
  · exact dockInv_respond _ _ _ _ (dockInv_toForced rfl sdu_nothing hs)
  · exact hs

theorem dockInv_configPen (tag raw) : Keeps dockInv (configPen tag raw) := by
  intro s hs
  unfold configPen
  split
  · exact hs
  · split
    · exact hs
    · exact dockInv_respond _ _ _ _ (dockInv_stable.placeSet _ hs)

theorem dockInv_setSupply (tag arg) : Keeps dockInv (setSupply tag arg) := by
  intro s hs
  unfold setSupply
  split
  · exact dockInv_respond _ _ _ _ (dockInv_stable.penAllowance dockInv_stable.place (dockInv_stable.pcc _ hs))
  · exact hs

theorem dockInv_setHostState (tag arg) : Keeps dockInv (setHostState tag arg) := by
  intro s hs
  unfold setHostState
  split
  · exact dockInv_respond _ _ _ _ (dockInv_stable.hostStandby hs)
  · split
    · exact dockInv_respond _ _ _ _ (dockInv_stable.hostRunning hs)
    · exact hs

theorem dockInv_holdClaim (tag slot cls owner lifetime) : Keeps dockInv (holdClaim tag slot cls owner lifetime) := by
  intro s hs
  unfold holdClaim
  split
  · split
    · exact hs
    · split
      · exact hs
      · exact dockInv_respond _ _ _ _ (dockInv_stable.claimHold _ _ _ _ hs)
  · exact hs

theorem dockInv_holdRelease (tag slot owner) : Keeps dockInv (holdRelease tag slot owner) := by
  intro s hs
  unfold holdRelease
  split
  · split
    · exact hs
    · split
      · exact hs
      · split
        · exact hs
        · exact dockInv_respond _ _ _ _ (dockInv_stable.deferredAdvice (dockInv_stable.sdu _ hs))
  · exact hs

theorem dockInv_drainQueue (tag count lane) : Keeps dockInv (drainQueue tag count lane) := by
  intro s hs
  have removed : ∀ f, dockInv (s.onRqu f) := fun _ => hs
  unfold drainQueue
  split
  · exact hs
  · split
    · refine dockInv_respond _ _ _ _ ?_
      split
      · exact removed _
      · exact dockInv_stable.retryStall (removed _)
    · exact hs

/-- Every request keeps the dock state's invariant. -/
theorem dockInv_runRequest (c : Instr) : Keeps dockInv (runRequest c) := by
  intro s hs
  cases c
  case identify => exact hs
  case status => exact hs
  case configSet => exact dockInv_configSet _ _ _ hs
  case configGet => exact dockInv_configGet _ _ hs
  case freeze => exact hs
  case reset => exact dockInv_respond _ _ _ _ (dockInv_warmReset _ s)
  case faultClear => exact hs
  case routeLoad => exact dockInv_loadRoute _ _ _ hs
  case routeClear => exact dockInv_clearRoute _ _ hs
  case routeRead => exact dockInv_readRoute _ _ hs
  case postureLoad => exact dockInv_loadPosture _ _ _ hs
  case postureRead => exact dockInv_readPosture _ _ hs
  case orientLock => exact dockInv_orientLock _ _ hs
  case dockSend => exact dockInv_sendDock _ _ _ _ _ hs
  case detachAnswer => exact dockInv_answerDetach _ _ hs
  case dockRetry => exact dockInv_retryDock _ hs
  case penConfig => exact dockInv_configPen _ _ hs
  case supply => exact dockInv_setSupply _ _ hs
  case hostState => exact dockInv_setHostState _ _ hs
  case holdClaim => exact dockInv_holdClaim _ _ _ _ _ hs
  case holdRelease => exact dockInv_holdRelease _ _ _ hs
  case drain => exact dockInv_drainQueue _ _ _ hs
  all_goals exact hs

theorem dockInv_transact (waited mosi) : Keeps dockInv (transact waited mosi) := by
  intro s hs
  have taken : ∀ r, Keeps dockInv (takeRequest r) := by
    intro r t ht
    unfold takeRequest
    split
    · exact ht
    · exact dockInv_raiseFault _ (dockInv_respond _ _ _ _ ht)
    · split
      · exact dockInv_runRequest _ ht
      · exact ht
  have linked : ∀ {t} f, dockInv t → dockInv (t.onHlc f) := fun _ ht => ht
  unfold transact
  simp only
  split
  · unfold endTransfer
    simp only
    split
    · split
      · exact taken _ (linked _ (linked _ (linked _ hs)))
      · exact linked _ (linked _ (linked _ hs))
    all_goals exact linked _ (linked _ hs)
  · exact linked _ hs

/-! ## Every command and every step -/

/-- A command answers with a next state that meets the dock state's invariant. -/
abbrev DockKept (c : Instr) (s : State) : Prop := ∃ t, exec c s = .next t ∧ dockInv t

/-- The two output pins are no part of the invariant. -/
theorem dockKept_done {s : State} (hs : dockInv s) : ∃ t, done s = .next t ∧ dockInv t := ⟨_, rfl, hs⟩

/-- A command that acts on a condition alone keeps what its act keeps. -/
theorem dockInv_ite {p : Prop} [Decidable p] {f : State → State} {s : State} (act : p → dockInv (f s)) (hs : dockInv s) :
    dockInv (if p then f s else s) := by
  split
  · next hp => exact act hp
  · exact hs

/-- A request's command runs the request, as a transaction that carries it does (R182). -/
theorem exec_request (c : Instr) (request : (requestBytes c).isSome = true) (s : State) :
    exec c s = done (runRequest c s) := by
  cases c <;> cases request <;> rfl

/-- Every command keeps the dock state's invariant. -/
theorem dockKept (c : Instr) {s : State} (hs : dockInv s) : DockKept c s := by
  have h := dockInv_stable
  cases c
  case hostTransaction => exact dockKept_done (dockInv_transact _ _ hs)
  case coldReset => exact dockKept_done (dockInv_of_reset rfl rfl rfl rfl)
  case warmResetPin => exact dockKept_done (dockInv_warmReset _ s)
  case lidReadTimerExpiry => exact dockKept_done (dockInv_ite (fun _ => dockInv_onPse hs) hs)
  case lidSampleArrival => exact dockKept_done (dockInv_ite (fun _ => dockInv_lidArrival _ hs) hs)
  case lidReadFailure => exact dockKept_done (dockInv_ite (fun _ => dockInv_lidFailure hs) hs)
  case rotSettleExpiry => exact dockKept_done (dockInv_ite (fun _ => h.rotExpire dockInv_turn _ hs) hs)
  case pairingTimerExpiry => exact dockKept_done (dockInv_onPse hs)
  case staleTimerExpiry => exact dockKept_done (dockInv_staleExpired hs)
  case hallChange => exact dockKept_done (by split; exacts [hs, dockInv_acceptHall _ _ hs])
  case settleTimerExpiry => exact dockKept_done (dockInv_settleExpired hs)
  case dockFrameTaken => exact dockKept_done (dockInv_takeHead hs)
  case stallTimerExpiry =>
    exact dockKept_done (h.escalateStall (fun _ hs => hs) (fun _ hs => dockInv_onDlc hs rfl (·.tail) (·.tail)) hs)
  case dockCharacter => exact dockKept_done (by split; exacts [hs, dockInv_receive _ _ _ hs])
  case dockFrameArrival =>
    have hunting := dockInv_setRx .hunt (.inr rfl) hs
    exact dockKept_done (by split; exacts [dockInv_linkError hunting, dockInv_frameArrives _ _ _ _ hunting])
  case errorWindowExpiry => exact dockKept_done (dockInv_ite (fun _ => dockInv_errors _ _ (.inr ⟨rfl, rfl⟩) hs) hs)
  case transmissionStart =>
    refine dockKept_done (dockInv_ite (fun may => dockInv_chooseFrame _ ?_ hs) hs)
    simp only [mayTransmit, Bool.and_eq_true, decide_eq_true_eq] at may
    exact may.2
  case transmissionComplete => exact dockKept_done (dockInv_endTransmission hs)
  case dockSenseLevel => exact dockKept_done (dockInv_senseMillisecond _ hs)
  case senseDebounceComplete => exact dockKept_done (dockInv_senseComplete hs)
  case senseLoss => exact dockKept_done (dockInv_senseLost hs)
  case latchRequest => exact dockKept_done (dockInv_acceptPress hs)
  case helloTimerExpiry => exact dockKept_done (dockInv_helloExpired hs)
  case grantTimerExpiry => exact dockKept_done (dockInv_grantExpired hs)
  case quiesceTimerExpiry =>
    exact dockKept_done (dockInv_ite
      (fun runs => dockInv_releaseBase _ (((dockInv_iff s).mp hs).1.quiesce.mp runs) hs) hs)
  case releaseWindowExpiry => exact dockKept_done (dockInv_ite (fun _ => dockInv_toAttached sdu_nothing hs) hs)
  case latchDelayExpiry =>
    refine dockKept_done (dockInv_ite (fun runs => ?_) hs)
    have releasing := releasing_of_latch hs (.inl runs)
    have stopped := dockInv_stopLatchTimer releasing (·.latchDrv) (fun _ => none) (·.latchPeriod) (·.latchOn) hs
    exact dockInv_startPeriod (s := s.onDlc fun d => { d with latchDelay := none }) releasing stopped
  case latchPeriodExpiry =>
    refine dockKept_done (dockInv_ite (f := fun s => if s.dlc.window = some 0 then
      s.onDlc fun d => { d with latchPeriod := none } else s.onDlc (Dlc.startPeriod s.params)) (fun runs => ?_) hs)
    have releasing := releasing_of_latch hs (.inr (.inl runs))
    split
    · exact dockInv_stopLatchTimer releasing (·.latchDrv) (·.latchDelay) (fun _ => none) (·.latchOn) hs
    · exact dockInv_startPeriod releasing hs
  case latchOnExpiry =>
    exact dockKept_done (dockInv_ite (fun runs => dockInv_stopLatchTimer (releasing_of_latch hs (.inr (.inr runs)))
      (fun _ => false) (·.latchDelay) (·.latchPeriod) (fun _ => none) hs) hs)
  case penCycleEnd => exact dockKept_done (h.cycleEnd (fun _ hs => hs) hs)
  case burstTimerExpiry => exact dockKept_done (h.pcc _ hs)
  case probeStart => exact dockKept_done (dockInv_ite (fun _ => h.pcc _ hs) hs)
  case probeEnd => exact dockKept_done (dockInv_ite (fun _ => h.pcc _ hs) hs)
  case penRxEdge => exact dockKept_done (h.pcc _ hs)
  case captureOverflow => exact dockKept_done (dockInv_ite (fun _ => h.pcc _ hs) hs)
  case progressWindowExpiry => exact dockKept_done (h.progressExpired (fun _ hs => hs) hs)
  case sessionLimit => exact dockKept_done (h.sessionLimit (fun _ hs => hs) hs)
  case dimTimerExpiry => exact dockKept_done (h.dimExpired hs)
  case sleepTimerExpiry => exact dockKept_done (h.sleepExpired hs)
  case gatherTimerExpiry => exact dockKept_done (dockInv_ite (fun _ => h.gatherEnd h.place hs) hs)
  case holdExpiry => exact dockKept_done (h.holdExpired _ hs)
  case flushTimerExpiry => exact dockKept_done (dockInv_ite (fun _ => h.flushStage hs) hs)
  case hallMillisecondLevel => exact dockKept_done (dockInv_hallMillisecond _ _ hs)
  case latchButtonMillisecondLevel => exact dockKept_done (dockInv_buttonMillisecond _ hs)
  -- the requests
  all_goals
    rw [DockKept, exec_request _ rfl]
    exact dockKept_done (dockInv_runRequest _ hs)

/-- Settles O57: every command keeps the dock state's invariant, and so does a millisecond. -/
theorem dockInvariantKept : Obligations.DockInvariantKept := by
  intro s t _ hs _ _ e
  have kept : ∀ c s', exec c s' = .next t → dockInv s' → dockInv t := by
    intro c s' e' hs'
    obtain ⟨t', stepped, ht⟩ := dockKept c hs'
    cases stepped.symm.trans e'
    exact ht
  unfold step at e
  split at e
  · exact kept _ _ e hs
  · split at e
    · exact kept _ _ e hs
    · cases e
      exact dockInv_tick hs

end Sys2Proof.Machine
end

section
/-! PROOFS. The angle arithmetic (O18): the octant function stays within its sixteen steps, the sector angle turns with
its vector, and one step of smoothing goes between nothing and the whole of the shortest difference. -/

namespace Sys2Proof.Machine

/-! ## The sector angle (R8) -/

/-- Within a step of the table the interpolation stays between the step's ends. -/
theorem interpolation_le : ∀ k < 16, ∀ f < 16,
    arctanTable.getD k 0 + ((arctanTable.getD (k + 1) 0 - arctanTable.getD k 0) * f + 8) / 16 ≤ 450 := by
  decide

theorem octant_le (m M : Nat) (h : m ≤ M) : octant m M ≤ 450 := by
  have hq : m * 256 / M ≤ 256 := by
    rcases Nat.eq_zero_or_pos M with rfl | pos
    · simp
    · exact (Nat.div_le_iff_le_mul_add_pred pos).mpr (by nlinarith)
  unfold octant
  simp only
  split
  · exact le_rfl
  · exact interpolation_le _ (by omega) _ (Nat.mod_lt _ (by decide))

theorem octant_zero (M : Nat) : octant 0 M = 0 := by simp [octant, arctanTable]

theorem octant_self {M : Nat} (h : 0 < M) : octant M M = 450 := by simp [octant, Nat.mul_div_cancel_left _ h]

theorem quadrantAngle_le (a b : Nat) : quadrantAngle a b ≤ 900 := by
  unfold quadrantAngle
  split
  · next h => exact (octant_le b a h).trans (by decide)
  · exact Nat.sub_le _ _

theorem quadrantAngle_zero_right (a : Nat) : quadrantAngle a 0 = 0 := by simp [quadrantAngle, octant_zero]

theorem quadrantAngle_zero_left {b : Nat} (h : 0 < b) : quadrantAngle 0 b = 900 := by
  simp [quadrantAngle, octant_zero, Nat.not_le.mpr h]

theorem quadrantAngle_self {a : Nat} (h : 0 < a) : quadrantAngle a a = 450 := by simp [quadrantAngle, octant_self h]

theorem sectorAngle_lt (u v : Int) : sectorAngle u v < 3600 := by
  have := quadrantAngle_le u.natAbs v.natAbs
  unfold sectorAngle
  simp only
  split <;> split <;> omega

/-- The opposite vector has the same angle in its own quadrant, which lies across. On an axis, where the two quadrants
are not across from each other, that angle is 0 or 900. -/
theorem sectorAngle_neg (u v : Int) (h : u ≠ 0 ∨ v ≠ 0) :
    sectorAngle (-u) (-v) = (sectorAngle u v + 1800) % 3600 := by
  have hφ := quadrantAngle_le u.natAbs v.natAbs
  have onU : v = 0 → quadrantAngle u.natAbs v.natAbs = 0 := by
    rintro rfl; exact quadrantAngle_zero_right _
  have onV : u = 0 → quadrantAngle u.natAbs v.natAbs = 900 := by
    rintro rfl; exact quadrantAngle_zero_left (by omega)
  unfold sectorAngle
  simp only [Int.natAbs_neg]
  generalize quadrantAngle u.natAbs v.natAbs = φ at *
  split <;> split <;> split <;> split <;> omega

theorem sectorAngle_axes (a : Int) (h : 0 < a) : sectorAngle a 0 = 0 ∧ sectorAngle 0 a = 900
    ∧ sectorAngle (-a) 0 = 1800 ∧ sectorAngle 0 (-a) = 2700 ∧ sectorAngle a a = 450
    ∧ sectorAngle (-a) (-a) = 2250 := by
  have pos : 0 < a.natAbs := by omega
  have right : sectorAngle a 0 = 0 := by simp [sectorAngle, quadrantAngle_zero_right, h.le]
  have up : sectorAngle 0 a = 900 := by simp [sectorAngle, quadrantAngle_zero_left pos, h.le]
  have diagonal : sectorAngle a a = 450 := by simp [sectorAngle, quadrantAngle_self pos, h.le]
  have left := sectorAngle_neg a 0 (.inl h.ne')
  have down := sectorAngle_neg 0 a (.inr h.ne')
  have across := sectorAngle_neg a a (.inl h.ne')
  rw [right, neg_zero] at left
  rw [up, neg_zero] at down
  rw [diagonal] at across
  exact ⟨right, up, left, down, diagonal, across⟩

/-! ## Smoothing (R10) -/

/-- For a difference up the circle the step is at least 1 and at most the whole of it. -/
theorem hingeStep_pos {d : Int} (shift : Nat) (h : 0 < d) : 1 ≤ hingeStep d shift ∧ hingeStep d shift ≤ d := by
  have quotient : d.tdiv (2 ^ shift) = d / 2 ^ shift := Int.tdiv_eq_ediv_of_nonneg h.le
  have small : d / 2 ^ shift ≤ d := Int.ediv_le_self _ h.le
  have nonneg : 0 ≤ d / 2 ^ shift := Int.ediv_nonneg h.le (by positivity)
  unfold hingeStep
  simp only [quotient, Int.sign_eq_one_of_pos h]
  split <;> omega

/-- A difference down the circle takes the step of its magnitude, downwards. -/
theorem hingeStep_neg (d : Int) (shift : Nat) : hingeStep (-d) shift = -hingeStep d shift := by
  unfold hingeStep
  simp only [Int.neg_tdiv, neg_ne_zero, neg_eq_zero, Int.sign_neg]
  split <;> rfl

theorem hingeStep_zero (shift : Nat) : hingeStep 0 shift = 0 := by simp [hingeStep]

theorem hingeStep_zero_shift (d : Int) : hingeStep d 0 = d := by
  by_cases h : d = 0 <;> simp [hingeStep, h]

/-- The shortest difference is the one of −1800..1799 that leads round the circle from Hf to H_raw. -/
theorem hingeDelta_spec (raw hf : Nat) : -1800 ≤ hingeDelta raw hf ∧ hingeDelta raw hf ≤ 1799
    ∧ ∃ n : Int, (raw : Int) = hf + hingeDelta raw hf + 3600 * n := by
  unfold hingeDelta
  refine ⟨by omega, by omega, ((raw : Int) - hf + 5400) / 3600 - 1, by omega⟩

/-- The circular distance is the magnitude of the shortest difference. -/
theorem circularDistance_eq {a b : Nat} (ha : a < 3600) (hb : b < 3600) {d : Int} (lo : -1800 ≤ d) (hi : d ≤ 1800)
    (e : ∃ n : Int, (a : Int) = b + d + 3600 * n) : circularDistance a b = d.natAbs := by
  obtain ⟨n, e⟩ := e
  unfold circularDistance
  simp only
  omega

theorem smoothHinge_spec {raw hf : Nat} {shift : Nat} : smoothHinge raw hf shift < 3600
    ∧ ∃ n : Int, (smoothHinge raw hf shift : Int) = hf + hingeStep (hingeDelta raw hf) shift + 3600 * n := by
  unfold smoothHinge
  generalize (hf : Int) + hingeStep (hingeDelta raw hf) shift = x
  exact ⟨by omega, 1 - (x + 3600) / 3600, by omega⟩

/-- Settles O18, by the sector angle and its opposite and by the bounds of a smoothing step. -/
theorem angleArithmetic : Obligations.AngleArithmetic := by
  refine ⟨fun u v => ⟨sectorAngle_lt u v, sectorAngle_neg u v⟩, sectorAngle_axes, ?_⟩
  intro raw hf shift hraw hhf _
  obtain ⟨inRange, n, moved⟩ := smoothHinge_spec (raw := raw) (hf := hf) (shift := shift)
  refine ⟨inRange, ?_, ?_, fun apart => ?_⟩
  · have still : hingeDelta raw raw = 0 := by simp [hingeDelta]
    obtain ⟨inRange, n, moved⟩ := smoothHinge_spec (raw := raw) (hf := raw) (shift := shift)
    rw [still, hingeStep_zero, add_zero] at moved
    omega
  · obtain ⟨inRange, n, moved⟩ := smoothHinge_spec (raw := raw) (hf := hf) (shift := 0)
    obtain ⟨_, _, m, whole⟩ := hingeDelta_spec raw hf
    rw [hingeStep_zero_shift] at moved
    omega
  · obtain ⟨lo, hi, m, whole⟩ := hingeDelta_spec raw hf
    generalize hd : hingeDelta raw hf = d at *
    generalize hs : hingeStep d shift = step at *
    -- the step leaves a remainder of the difference that is smaller in magnitude
    have nearer : (d - step).natAbs < d.natAbs := by
      rcases lt_trichotomy d 0 with down | rfl | up
      · have := hingeStep_pos shift (d := -d) (by omega)
        rw [hingeStep_neg, hs] at this
        omega
      · omega
      · have := hingeStep_pos shift up
        omega
    rw [circularDistance_eq hraw inRange (d := d - step) (by omega) (by omega) ⟨m - n, by omega⟩,
      circularDistance_eq hraw hhf lo (by omega) ⟨m, whole⟩]
    exact nearer

end Sys2Proof.Machine
end

section
/-! PROOFS. CONFIG_SET (O13): the parameter store read and written by number, the ranges, and the re-check of a blocked
orientation candidate at ORIENT_POSTURES. -/

namespace Sys2Proof.Machine

/-! ## The store by number -/

/-- The 31 stored values in the order of their numbers. -/
def Params.values (p : Params) : List Half :=
  [p.lidRate, p.minPlane, p.pairWindow, p.staleLimit, p.smoothShift, p.calOffset, p.rotHyst, p.rotSettle, p.flatLevel,
   p.hallDebounce, p.orientPostures, p.postureHyst, p.defaultRoute, p.senseDebounce, p.helloTimeout, p.linkErrLimit,
   p.stallLimit, p.grantTimeout, p.grantDefault, p.quiesceTimeout, p.latchDelay, p.latchPeriod, p.latchOn,
   p.releaseWindow, p.idleDim, p.idleSleep, p.wakeGather, p.flushTime, p.notifyShift, p.faultMask, p.faultSeverity]

theorem Params.values_length (p : Params) : p.values.length = 31 := rfl

/-- Reading by number is reading the list, whose places start at 1. -/
theorem Params.get_eq_values (p : Params) (n : Nat) : p.get n = if n = 0 then none else p.values[n - 1]? := by
  by_cases h : n < 32
  · interval_cases n <;> rfl
  · rw [if_neg (by omega), List.getElem?_eq_none (by rw [values_length]; omega)]
    unfold Params.get
    split
    case h_32 => rfl
    all_goals omega

/-- Writing by number writes the place of the list. -/
theorem Params.values_set (p : Params) (v : Half) {n : Nat} (lo : 1 ≤ n) (hi : n ≤ 31) :
    (p.set n v).values = p.values.set (n - 1) v := by
  interval_cases n <;> rfl

theorem Params.get_set_same (p : Params) (v : Half) {n : Nat} (lo : 1 ≤ n) (hi : n ≤ 31) :
    (p.set n v).get n = some v := by
  rw [get_eq_values, if_neg (by omega), values_set p v lo hi,
    List.getElem?_set_self (by rw [values_length]; omega)]

theorem Params.get_set_other (p : Params) (v : Half) {n m : Nat} (lo : 1 ≤ n) (hi : n ≤ 31) (h : m ≠ n) :
    (p.set n v).get m = p.get m := by
  rw [get_eq_values, get_eq_values, values_set p v lo hi]
  split
  · rfl
  · rw [List.getElem?_set_ne (by omega)]

/-! ## The ranges -/

/-- A value brought into range is the nearer end where it lies outside. -/
theorem clampNat_eq {lo hi : Nat} (h : lo ≤ hi) (n : Nat) : clampNat lo hi n = max lo (min hi n) := by
  unfold clampNat
  split <;> [skip; split] <;> omega

/-- The ranges of R185 are ranges of 16-bit values. -/
theorem paramRange_bounds {n lo hi : Nat} (h : paramRange n = some (lo, hi)) : lo ≤ hi ∧ hi < 65536 := by
  unfold paramRange at h
  split at h <;> cases h <;> decide

/-- The three parameters without such a range have rules of their own. -/
theorem paramRange_special {n : Nat} (h : n = 1 ∨ n = 6 ∨ n = 31) : paramRange n = none := by
  rcases h with rfl | rfl | rfl <;> rfl

theorem clampParam_range {n lo hi : Nat} (h : paramRange n = some (lo, hi)) (v : Half) :
    (clampParam n v).toNat = max lo (min hi v.toNat) := by
  have ordinary : ¬ (n = 1 ∨ n = 6 ∨ n = 31) := fun special => by simp [paramRange_special special] at h
  obtain ⟨order, small⟩ := paramRange_bounds h
  simp only [not_or] at ordinary
  simp only [clampParam, ordinary, h, if_false, clampNat_eq order, BitVec.toNat_ofNat]
  exact Nat.mod_eq_of_lt (by omega)

theorem clampParam_lidRate (v : Half) : (clampParam 1 v).toNat
    = if v.toNat < 50 then 25 else if v.toNat < 100 then 50 else if v.toNat < 200 then 100 else 200 := by
  simp only [clampParam, clampLidRate, if_true, BitVec.toNat_ofNat]
  split_ifs <;> omega

theorem clampParam_calOffset (v : Half) : (clampParam 6 v).toInt = max (-300) (min 300 v.toInt) := by
  simp only [clampParam, if_true, show (6 : Nat) ≠ 1 by decide, if_false, BitVec.toInt_ofInt]
  exact Int.bmod_eq_of_le (by omega) (by omega)

/-- Two bits of a word, one by one. -/
theorem extract_two {w : Nat} (x : BitVec w) (n : Nat) :
    x.extractLsb' n 2 = BitVec.ofBool (x.getLsbD (n + 1)) ++ BitVec.ofBool (x.getLsbD n) := by
  refine BitVec.eq_of_getLsbD_eq fun i hi => ?_
  rw [BitVec.getLsbD_append]
  interval_cases i <;> simp

/-- The mask of the rule covers the low bit of every kind and no high one. -/
theorem severityMask (k : Fin 8) : (0x5555 : Half).getLsbD (2 * k) = true
    ∧ (0x5555 : Half).getLsbD (2 * k + 1) = false := by
  revert k; decide

/-- FAULT_SEVERITY clears the low bit of a kind whose two bits are both set. -/
theorem clampParam_severity (v : Half) (k : Fin 8) : (clampParam 31 v).extractLsb' (2 * k) 2
    = if v.extractLsb' (2 * k) 2 = 3 then 2 else v.extractLsb' (2 * k) 2 := by
  obtain ⟨maskLow, maskHigh⟩ := severityMask k
  have inside : 2 * k.val < 16 ∧ 2 * k.val + 1 < 16 := by omega
  have low : (clampSeverity v).getLsbD (2 * k) = (v.getLsbD (2 * k) && !v.getLsbD (2 * k + 1)) := by
    simp only [clampSeverity, BitVec.getLsbD_and, BitVec.getLsbD_not, BitVec.getLsbD_ushiftRight, maskLow, inside,
      Nat.add_comm 1, decide_true]
    cases v.getLsbD (2 * k) <;> simp
  have high : (clampSeverity v).getLsbD (2 * k + 1) = v.getLsbD (2 * k + 1) := by
    simp only [clampSeverity, BitVec.getLsbD_and, BitVec.getLsbD_not, maskHigh, inside, decide_true, Bool.and_false,
      Bool.not_false, Bool.and_true]
  simp only [clampParam, show (31 : Nat) ≠ 1 by decide, show (31 : Nat) ≠ 6 by decide, if_true, if_false, extract_two,
    low, high]
  cases v.getLsbD (2 * k) <;> cases v.getLsbD (2 * k + 1) <;> decide

/-! ## CONFIG_SET -/

/-- A request answered, in the terms of the statements. -/
theorem done_respond (ty tag : Byte) (st : Status) (p : List Byte) (s : State) :
    done (respond ty tag st p s) = .next (answered (responseType ty) tag st p s) := rfl

/-- A CONFIG_SET that its checks pass stores the value brought into range. -/
theorem configSet_accepted {s : State} {number : Byte} {value : Half} (tag : Byte) (lo : 1 ≤ number.toNat)
    (hi : number.toNat ≤ 31) (thawed : s.hlc.frozen = true → number.toNat ∉ [6, 12, 13, 30, 31])
    (coded : number.toNat ∈ [13, 19] → value.toNat ≤ 1) :
    configSet tag number value s
      = respond 0x03 tag (if clampParam number.toNat value = value then .ok else .okClamped) []
          (storeParam number.toNat (clampParam number.toNat value) s) := by
  have allowed : (paramFrozen number.toNat && s.hlc.frozen) = false := by
    cases frozen : s.hlc.frozen
    · simp
    · simpa [paramFrozen, and_assoc] using thawed frozen
  have inCode : (paramEnumerated number.toNat && decide (1 < value.toNat)) = false := by
    cases enumerated : paramEnumerated number.toNat
    · rfl
    · simpa using coded (by simpa [paramEnumerated] using enumerated)
  have numbered : ¬ (number.toNat < 1 ∨ 31 < number.toNat) := by omega
  simp only [configSet, allowed, inCode, numbered, if_false, Bool.false_eq_true]

/-- The re-check leaves every candidate but a blocked one that may rotate. -/
theorem recheckBlocked_rest {s : State} (h : (∀ o, s.pse.candidate ≠ .blocked o) ∨ mayRotate s = false) :
    recheckBlocked s = s := by
  unfold recheckBlocked
  split
  · next o blocked => rw [if_neg (by simpa using h.resolve_left (fun none => none o blocked))]
  all_goals rfl

/-- The re-check starts a blocked candidate that may rotate anew. -/
theorem recheckBlocked_start {s : State} {o : Orientation} (blocked : s.pse.candidate = .blocked o)
    (may : mayRotate s = true) : recheckBlocked s = startRotSettle o s := by
  simp [recheckBlocked, blocked, may]

theorem storeParam_other {n : Nat} (v : Half) (s : State) (h : n ≠ 11) :
    storeParam n v s = s.onParams fun p => p.set n v := by
  simp [storeParam, h]

theorem storeParam_mask (v : Half) (s : State) :
    storeParam 11 v s = recheckBlocked (s.onParams fun p => p.set 11 v) := by
  simp [storeParam]

/-- Whatever the re-check does, the store is written. -/
theorem storeParam_params (n : Nat) (v : Half) (s : State) : (storeParam n v s).params = s.params.set n v := by
  simp only [storeParam]
  split
  · exact blindDock_params.recheckBlocked _
  · rfl

/-- CONFIG_GET of a numbered parameter answers its stored value. -/
theorem exec_configGet {s : State} {number : Byte} {w : Half} (tag : Byte) (h : s.params.get number.toNat = some w) :
    exec (.configGet tag number) s = .next (answered 0x84 tag .ok (halfBytes w) s) := by
  show done (configGet tag number s) = _
  rw [configGet, h]
  rfl

/-- Settles O13: the value that is stored is `clampParam`'s, and what it changes beside the store is the re-check. -/
theorem configSetStores : Obligations.ConfigSetStores := by
  intro s tag tag' number value lo hi thawed coded
  generalize hn : number.toNat = n at *
  let w := clampParam n value
  let status : Status := if w = value then .ok else .okClamped
  have stored : exec (.configSet tag number value) s = .next (answered 0x83 tag status [] (storeParam n w s)) := by
    show done (configSet tag number value s) = _
    rw [configSet_accepted tag (hn ▸ lo) (hn ▸ hi) (hn ▸ thawed) (hn ▸ coded), hn]
    rfl
  have written : (answered 0x83 tag status [] (storeParam n w s)).params = s.params.set n w :=
    storeParam_params n w s
  refine ⟨w, _, stored, rfl, ?_, fun m other => ?_, ?_, ?_, ?_, ?_, ?_, ?_, exec_configGet tag' ?_⟩
  · rw [written, Params.get_set_same _ _ lo hi]
  · rw [written, Params.get_set_other _ _ lo hi other]
  · rintro rfl; exact clampParam_lidRate value
  · rintro rfl; exact clampParam_calOffset value
  · rintro rfl; exact clampParam_severity value
  · intro l h range; exact clampParam_range range value
  · intro rests
    by_cases mask : n = 11
    · subst mask
      rw [storeParam_mask, recheckBlocked_rest]
      · rfl
      · rcases rests with no | free | locked | outside
        · exact absurd rfl no
        · exact .inl free
        · exact .inr (by simp [mayRotate, locked])
        · exact .inr (by simpa [mayRotate, Params.orientMask, Params.set, State.posture] using fun _ => outside)
    · rw [storeParam_other _ _ mask]
      rfl
  · rintro o rfl blocked unlocked named
    rw [storeParam_mask, recheckBlocked_start (s := s.onParams _) (o := o) blocked]
    · rfl
    · simpa [mayRotate, Params.orientMask, Params.set, State.posture, unlocked] using named
  · rw [hn, written, Params.get_set_same _ _ lo hi]

end Sys2Proof.Machine
end

section
/-! PROOFS. The Posture Engine's commands (O19, O21): the frames `Beyond` and `BeyondCommit` as stable
predicates, the placement of a last record and a raise in full, and then the lid reads, the hinge's timers, the
orientation's settle and its lock. -/

namespace Sys2Proof.Machine

/-! ## The two frames -/

/-- All that `Beyond` names, but for the PSE. -/
abbrev besidePse (s : State) := (s.time, s.params, s.hlc.link, s.dlc.rest, s.choices, s.pending)

theorem blind_besidePse : Blind besidePse :=
  ⟨fun _ _ => rfl, fun _ _ => rfl, fun _ _ => rfl, fun _ _ => rfl, fun _ _ _ => rfl, fun _ _ => rfl, fun _ _ => rfl⟩

theorem blind_senses : Blind fun s => s.pse.senses :=
  ⟨fun _ _ => rfl, fun _ _ => rfl, fun _ _ => rfl, fun _ _ => rfl, fun _ _ _ => rfl, fun _ _ => rfl, fun _ _ => rfl⟩

theorem beyond_iff (s t : State) : Beyond s t ↔ besidePse t = besidePse s ∧ t.pse = s.pse := by
  constructor
  · rintro ⟨time, params, link, pse, dock, choices, pending⟩
    exact ⟨by simp [besidePse, *], pse⟩
  · rintro ⟨beside, pse⟩
    simp only [besidePse, Prod.mk.injEq] at beside
    obtain ⟨time, params, link, dock, choices, pending⟩ := beside
    exact ⟨time, params, link, pse, dock, choices, pending⟩

theorem beyondCommit_iff (s t : State) :
    BeyondCommit s t ↔ besidePse t = besidePse s ∧ t.pse.senses = s.pse.senses := by
  constructor
  · rintro ⟨time, params, link, pse, dock, choices, pending⟩
    exact ⟨by simp [besidePse, *], pse⟩
  · rintro ⟨beside, pse⟩
    simp only [besidePse, Prod.mk.injEq] at beside
    obtain ⟨time, params, link, dock, choices, pending⟩ := beside
    exact ⟨time, params, link, pse, dock, choices, pending⟩

theorem Beyond.refl (s : State) : Beyond s s := (beyond_iff _ _).mpr ⟨rfl, rfl⟩
theorem BeyondCommit.refl (s : State) : BeyondCommit s s := (beyondCommit_iff _ _).mpr ⟨rfl, rfl⟩

/-- The two output pins stand in neither frame. -/
theorem Beyond.pins {s t : State} (h : Beyond s t) : Beyond s (drivePins t) :=
  ⟨h.time, h.params, h.link, h.pse, h.dock, h.choices, h.pending⟩

theorem BeyondCommit.pins {s t : State} (h : BeyondCommit s t) : BeyondCommit s (drivePins t) :=
  ⟨h.time, h.params, h.link, h.senses, h.dock, h.choices, h.pending⟩

theorem beyond_stable (s : State) : Stable (Beyond s) := by
  have := (blind_besidePse.stable (· = besidePse s)).and (blind_pse.stable (· = s.pse))
  simpa only [← beyond_iff] using this

theorem beyondCommit_poised (s : State) : Poised (BeyondCommit s) :=
  have stable : Stable (BeyondCommit s) := by
    have := (blind_besidePse.stable (· = besidePse s)).and (blind_senses.stable (· = s.pse.senses))
    simpa only [← beyondCommit_iff] using this
  { stable with
    commit := fun _ _ _ _ h => ⟨h.time, h.params, h.link, h.senses, h.dock, h.choices, h.pending⟩
    settle := fun _ _ _ h => ⟨h.time, h.params, h.link, h.senses, h.dock, h.choices, h.pending⟩
    rearm := fun _ _ _ h => ⟨h.time, h.params, h.link, h.senses, h.dock, h.choices, h.pending⟩ }

/-- What the senses show of the PSE is all but the Posture Record, the settle and the orientation's candidate. -/
theorem Pse.eq_of_senses {p q : Pse} (h : p.senses = q.senses) :
    p = { q with record := p.record, settle := p.settle, candidate := p.candidate, rotTimer := p.rotTimer } := by
  cases p; cases q
  simp only [Pse.senses, Pse.mk.injEq] at h ⊢
  simp [h]

/-! ## The URGENT lane through a command -/

/-- Records at the front of the URGENT lane stay there. -/
theorem lanePrefix_stable (l : List Record) : Stable fun s => l <+: s.rqu.urgent where
  enter _ _ _ _ h := h.trans (List.prefix_append _ _)
  lose _ h := h
  rqu f hf s h := by simpa only [State.onRqu_rqu, hf.urgent] using h
  sdu _ _ h := h
  tcl _ _ _ h := h
  pcc _ _ h := h
  fault _ _ _ h := h
  unstall _ _ h := h
  notice _ _ h := h

/-- A full lane stays as it is, and its gap count does not fall. -/
theorem fullLane_stable {l : List Record} (full : 32 ≤ l.length) {g : Nat} (small : g ≤ 255) :
    Stable fun s => s.rqu.urgent = l ∧ g ≤ s.rqu.urgentGap where
  enter _ _ s room h := by
    have := of_decide_eq_true room
    rw [h.1] at this
    exact absurd full (Nat.not_le.mpr this)
  lose _ h := ⟨h.1, by simp only [countUrgentLoss, State.onRqu_rqu]; omega⟩
  rqu f hf s h := by simpa only [State.onRqu_rqu, hf.urgent, hf.gap] using h
  sdu _ _ h := h
  tcl _ _ _ h := h
  pcc _ _ h := h
  fault _ _ _ h := h
  unstall _ _ h := h
  notice _ _ h := h

/-- A command whose last act is to place a record. -/
theorem place_placesLast (r : Record) (s : State) : placesLast r s (drivePins (place r s)) := by
  unfold placesLast
  by_cases room : s.rqu.urgent.length < 32
  · rw [if_pos room, place, placeWith, if_pos (by simpa [urgentRoom] using room)]
    rfl
  · have noRoom : ¬ urgentRoom s = true := by simpa [urgentRoom] using room
    have full := fullLane_stable (Nat.not_lt.mp room) (Nat.min_le_left 255 (s.rqu.urgentGap + 1))
    have counted : (countUrgentLoss s).rqu.urgent = s.rqu.urgent
        ∧ min 255 (s.rqu.urgentGap + 1) ≤ (countUrgentLoss s).rqu.urgentGap := ⟨rfl, le_rfl⟩
    have lost : (place r s).rqu.urgent = s.rqu.urgent ∧ min 255 (s.rqu.urgentGap + 1) ≤ (place r s).rqu.urgentGap := by
      rw [place, placeWith, if_neg noRoom, loseUrgentWith]
      split
      · exact full.raiseUrgentLoss counted
      · exact counted
    rw [if_neg room]
    exact ⟨((beyond_stable s).place r (Beyond.refl s)).pins, lost⟩

/-- A record placed with room stands right behind those that were there. -/
theorem place_urgent {r : Record} {s : State} (room : hasRoom 1 s) :
    (place r s).rqu.urgent = s.rqu.urgent ++ stampAll s.time s.rqu.urgentGap [r] := by
  have : urgentRoom s = true := decide_eq_true (Nat.lt_of_succ_le room)
  rw [place, placeWith, if_pos this]
  rfl

/-! ## Raises -/

theorem FaultKind.index_injective : Function.Injective FaultKind.index := by
  intro a b
  cases a <;> cases b <;> decide

/-- A kind's entry and a pointer that names a kind stay as they are in the raises of URGENT_LOSS and ROUTE_DISABLED. -/
theorem faultEntry_stable {k : FaultKind} (loss : k ≠ .urgentLoss) (disabled : k ≠ .routeDisabled) (e : FaultEntry)
    (p : FaultKind) : Stable fun s => s.hlc.faults[k.index] = e ∧ s.hlc.firstFault = some p where
  enter _ _ _ _ h := h
  lose _ h := h
  rqu _ _ _ h := h
  sdu _ _ h := h
  tcl _ _ _ h := h
  pcc _ _ h := h
  fault k' hk' s h := by
    have other : k'.index ≠ k.index := by
      rcases hk' with rfl | rfl
      · exact fun e => loss (FaultKind.index_injective e.symm)
      · exact fun e => disabled (FaultKind.index_injective e.symm)
    obtain ⟨entry, pointer⟩ := h
    refine ⟨?_, by simp [noteFault, pointer]⟩
    rw [← entry]
    exact Vector.getElem_set_ne k'.index.isLt k.index.isLt (by simpa [Fin.ext_iff] using other)
  unstall _ _ h := h
  notice _ _ h := h

theorem noteFault_entry (k : FaultKind) (s : State) : (noteFault k s).hlc.faults[k.index]
    = { status := true, count := min 255 (s.hlc.faults[k.index].count + 1) } := by
  simp [noteFault]

theorem noteFault_pointer (k : FaultKind) (s : State) : (noteFault k s).hlc.firstFault
    = if s.params.masked k then s.hlc.firstFault else s.hlc.firstFault.or (some k) := by
  simp only [noteFault, State.onHlc_hlc]
  split
  · rfl
  · cases s.hlc.firstFault <;> rfl

/-- A raise of a kind that is masked, or whose status is set, only notes it (R189). -/
theorem raiseFault_noted {k : FaultKind} {s : State}
    (h : s.params.masked k = true ∨ s.hlc.faults[k.index].status = true) : raiseFault k s = noteFault k s := by
  rw [raiseFault, raiseWith, if_pos (by simpa using h)]

/-- A raise carries over what the note meets, its record included. -/
theorem raiseFault_of_noted {P : State → Prop} (h : Stable P) {k : FaultKind} {s : State} (hs : P (noteFault k s)) :
    P (raiseFault k s) := by
  simp only [raiseFault, raiseWith]
  split
  · exact hs
  · split
    · exact hs
    · exact h.place _ hs
    · exact h.wake _ (h.place _ hs)

theorem raised_raiseFault {k : FaultKind} (loss : k ≠ .urgentLoss) (disabled : k ≠ .routeDisabled) (s : State) :
    raised k s (raiseFault k s) ∧ (raiseFault k s).hlc.firstFault = (noteFault k s).hlc.firstFault := by
  by_cases masked : s.params.masked k = true
  · rw [raiseFault_noted (.inl masked)]
    exact ⟨⟨noteFault_entry k s, noteFault_pointer k s⟩, rfl⟩
  · have pointer := noteFault_pointer k s
    rw [if_neg masked] at pointer
    obtain ⟨p, named⟩ : ∃ p, s.hlc.firstFault.or (some k) = some p := by cases s.hlc.firstFault <;> exact ⟨_, rfl⟩
    rw [named] at pointer
    obtain ⟨entry, kept⟩ := raiseFault_of_noted (faultEntry_stable loss disabled _ p)
      ⟨noteFault_entry k s, pointer⟩
    exact ⟨⟨entry, by rw [if_neg masked, named, kept]⟩, kept.trans pointer.symm⟩

/-- The FAULT record of a raise is the first record that it places (R189, R190). -/
theorem raiseFault_firstPlaced {k : FaultKind} {s : State} (unmasked : s.params.masked k = false)
    (clear : s.hlc.faults[k.index].status = false) (heard : s.params.severity k ≠ .log) :
    firstPlaced (faultRecord k (noteFault k s)) s (raiseFault k s) := by
  intro room
  have placed := place_urgent (r := faultRecord k (noteFault k s)) (s := noteFault k s) room
  have behind : s.rqu.urgent ++ stampAll s.time s.rqu.urgentGap [faultRecord k (noteFault k s)]
      <+: (raiseFault k s).rqu.urgent := by
    have stable := lanePrefix_stable (s.rqu.urgent ++ stampAll s.time s.rqu.urgentGap [faultRecord k (noteFault k s)])
    simp only [raiseFault, raiseWith, unmasked, clear, Bool.or_self, Bool.false_eq_true, if_false]
    split
    · next log => exact absurd log heard
    · exact placed ▸ List.prefix_rfl
    · exact stable.wake _ (s := place _ _) (placed ▸ List.prefix_rfl)
  obtain ⟨more, e⟩ := behind
  exact ⟨more, e.symm⟩

/-! ## Lid reads and the hinge's timers (O19) -/

theorem exec_lidReadFailure {s : State} {m : Nat} (busy : s.pse.readBusy = some m) :
    exec .lidReadFailure s = .next (drivePins (lidFailure s)) := by
  show done (if s.pse.readBusy.isSome then lidFailure s else s) = _
  simp [busy, done]

/-- The failure that ends a run of nine raises LID_SENSOR. -/
theorem lidFailure_tenth {s : State} (h : s.pse.failures = 9) :
    lidFailure s = raiseFault .lidSensor { s with pse := { s.pse with failures := 10, readBusy := none } } := by
  simp [lidFailure, h, State.onPse]

theorem lidFailure_other {s : State} (h : s.pse.failures ≠ 9) :
    lidFailure s = { s with pse := { s.pse with failures := min 10 (s.pse.failures + 1), readBusy := none } } := by
  have : s.pse.failures + 1 ≠ Config.lidFailureLimit := by simpa [Config.lidFailureLimit] using h
  simp [lidFailure, this, State.onPse]

/-- The stale timer's expiry ends in UNKNOWN, with an evaluation where the status was another. -/
theorem exec_staleTimerExpiry {s : State} {n : Nat} (runs : s.pse.staleTimer = some n) :
    ∃ t, exec .staleTimerExpiry s = .next (drivePins t)
      ∧ (t = { s with pse := { s.pse with staleTimer := none, hinge := .unknown } }
        ∨ t = evaluate { s with pse := { s.pse with staleTimer := none, hinge := .unknown } }) := by
  refine ⟨_, rfl, ?_⟩
  simp only [runs, Option.isSome_some, if_true]
  split
  · exact .inl rfl
  · exact .inr rfl

/-- Settles O19, by one equation per command: the tenth failure is a raise, and the evaluation behind the stale timer
stays in the frame of `BeyondCommit`. -/
theorem lidReadsAndHingeTimersExpire : Obligations.LidReadsAndHingeTimersExpire := by
  intro s n m
  refine ⟨fun runs => ?_, fun busy _ other => ?_, fun busy ninth => ?_, rfl, fun runs => ?_⟩
  · show done (if s.pse.readTimer.isSome then _ else s) = _
    simp only [runs, Option.isSome_some, if_true]
    rfl
  · rw [exec_lidReadFailure busy, lidFailure_other other]
  · let failed : State := { s with pse := { s.pse with failures := 10, readBusy := none } }
    obtain ⟨raised, pointer⟩ := raised_raiseFault (k := .lidSensor) (by decide) (by decide) failed
    refine ⟨drivePins (raiseFault .lidSensor failed), ?_, raised, ?_, fun quiet => ?_, fun unmasked clear heard => ?_⟩
    · rw [exec_lidReadFailure busy, lidFailure_tenth ninth]
    · have noted : Beyond failed (noteFault .lidSensor failed) := ⟨rfl, rfl, rfl, rfl, rfl, rfl, rfl⟩
      exact (raiseFault_of_noted (beyond_stable failed) noted).pins
    · show (raiseFault .lidSensor failed).rqu = _
      rw [raiseFault_noted (s := failed) quiet]
      rfl
    · have first := raiseFault_firstPlaced (k := .lidSensor) (s := failed) unmasked clear heard
      simp only [faultRecord, noteFault_entry] at first
      rw [drivePins_hlc_firstFault, pointer]
      exact first
  · obtain ⟨t, e, moved⟩ := exec_staleTimerExpiry runs
    have beyond : BeyondCommit { s with pse := { s.pse with staleTimer := none, hinge := .unknown } } t := by
      rcases moved with rfl | rfl
      · exact .refl _
      · exact (beyondCommit_poised _).evaluate (.refl _)
    have pse := Pse.eq_of_senses beyond.senses
    refine ⟨⟨_, e, by rw [drivePins_pse, pse], by rw [drivePins_pse, pse], beyond.pins⟩, fun forcing => ?_⟩
    have forced : s.dlc.state.forcesSlate = true := by
      revert forcing; cases s.dlc.state <;> decide
    rcases moved with rfl | rfl
    · exact e
    · rw [e, evaluate_of_forced (by exact forced)]

/-! ## Rotation and the lock (O21) -/

/-- A settled candidate that may rotate is committed with its record, and one that may not is blocked (R17). -/
theorem rotExpire_settled {s : State} {o : Orientation} (settling : s.pse.candidate = .settling o) :
    rotExpire false s = if mayRotate s then
      (let s1 := s.onPse fun p => { p with orient := o, candidate := .none, rotTimer := none }
       place (orientRecord s.pse.orient .rotated s1) s1)
    else s.onPse fun p => { p with candidate := .blocked o, rotTimer := none } := by
  simp [rotExpire, settling]

theorem exec_rotSettleExpiry {s : State} {n : Nat} (runs : s.pse.rotTimer = some n) :
    exec .rotSettleExpiry s = .next (drivePins (rotExpire false s)) := by
  show done (if s.pse.rotTimer.isSome then rotExpire false s else s) = _
  simp [runs, done]

/-- A write of the lock that stands changes nothing. -/
theorem lock_same {s : State} {on : Bool} (h : s.pse.lock = on) : s = s.onPse fun p => { p with lock := on } := by
  subst h
  rfl

/-- ORIENT_LOCK writes the lock, also where it writes what stands there, and on a release re-checks a candidate. -/
theorem exec_orientLock (tag : Byte) (s : State) :
    exec (.orientLock tag 1) s = .next (answered 0x9A tag .ok [] (s.onPse fun p => { p with lock := true }))
      ∧ exec (.orientLock tag 0) s = .next (answered 0x9A tag .ok []
        (if s.pse.lock then recheckBlocked (s.onPse fun p => { p with lock := false })
          else s.onPse fun p => { p with lock := false })) := by
  have on : setLock true s = s.onPse fun p => { p with lock := true } := by
    by_cases locked : s.pse.lock = true
    · rw [setLock, if_pos locked]
      exact lock_same locked
    · rw [setLock, if_neg locked]
      rfl
  have off : setLock false s = if s.pse.lock then recheckBlocked (s.onPse fun p => { p with lock := false })
      else s.onPse fun p => { p with lock := false } := by
    cases locked : s.pse.lock
    · rw [setLock, if_pos locked]
      exact lock_same locked
    · rw [setLock, if_neg (by simp [locked])]
      rfl
  exact ⟨by rw [← on]; rfl, by rw [← off]; rfl⟩

/-- Settles O21, by the branches of the settle's expiry and of the lock's release. -/
theorem rotationSettlesAndLocks : Obligations.RotationSettlesAndLocks := by
  intro s o n tag
  obtain ⟨on, off⟩ := exec_orientLock tag s
  refine ⟨fun settling runs => ⟨fun ⟨free, named⟩ => ?_, fun stays => ?_⟩, on, fun locked blocked named => ?_,
    fun rests => ?_⟩
  · have may : mayRotate s = true := by simp [mayRotate, free, named]
    let turned : State := { s with pse := { s.pse with orient := o, candidate := .none, rotTimer := none } }
    have record : orientRecord s.pse.orient .rotated turned
        = partRecord .orient ([o.code, s.pse.orient.code, boolByte s.pse.flat, 0, 0] ++ natBytes s.pse.rho) := by
      simp [orientRecord, turned, free, OrientCause.code, boolByte]
    refine ⟨_, exec_rotSettleExpiry runs, ?_⟩
    rw [rotExpire_settled settling, if_pos may]
    exact record ▸ place_placesLast _ turned
  · have mayNot : mayRotate s = false := by
      rcases stays with locked | outside <;> simp [mayRotate, *]
    rw [exec_rotSettleExpiry runs, rotExpire_settled settling, mayNot]
    rfl
  · let released := s.onPse fun p => { p with lock := false }
    have may : mayRotate released = true := by simpa [released, mayRotate, State.posture] using named
    rw [off, if_pos locked, recheckBlocked_start (s := released) blocked may]
    rfl
  · rw [off]
    by_cases locked : s.pse.lock = true
    · rw [if_pos locked, recheckBlocked_rest]
      · rfl
      · rcases rests with free | none | outside
        · exact absurd locked (by simp [free])
        · exact .inl none
        · exact .inr (by simpa [mayRotate, State.posture] using outside)
    · rw [if_neg locked]
      rfl

end Sys2Proof.Machine
end

section
/-! PROOFS. A lid sample (O20): the orientation step, the hinge's move and the evaluation behind it. -/

namespace Sys2Proof.Machine

/-! ## The orientation step (R15 to R17) -/

/-- A state's PSE with the orientation, its candidate and their timer as named. -/
abbrev Pse.turnedTo (o : Orientation) (c : Candidate) (r : Timer) (p : Pse) : Pse :=
  { p with orient := o, candidate := c, rotTimer := r }

theorem rotExpire_pse (quiet : Bool) (s : State) : ∃ o c r, (rotExpire quiet s).pse = s.pse.turnedTo o c r := by
  unfold rotExpire
  split
  · split
    · simp only
      split
      · exact ⟨_, _, _, rfl⟩
      · rw [blind_pse.place]
        exact ⟨_, _, _, rfl⟩
    · exact ⟨_, _, _, rfl⟩
  all_goals exact ⟨_, _, _, rfl⟩

/-- ρ lies within the hysteresis limit of the committed orientation (R16). -/
abbrev nearOrient (rho : Nat) (s : State) : Prop :=
  circularDistance rho s.pse.orient.centre ≤ 450 + s.params.rotHyst.toNat

theorem compareRho_near {rho : Nat} {s : State} (near : nearOrient rho s) (quiet : Bool) :
    (compareRho quiet rho s).pse = s.pse.turnedTo s.pse.orient .none none := by
  rw [compareRho, if_pos near]
  rfl

/-- Beyond the limit a newly indicated orientation starts to settle. -/
theorem compareRho_new {rho : Nat} {s : State} (far : ¬ nearOrient rho s)
    (new : s.pse.candidate.orientation ≠ some (sectorOf rho)) (timed : s.params.rotSettle ≠ 0) (quiet : Bool) :
    (compareRho quiet rho s).pse
      = s.pse.turnedTo s.pse.orient (.settling (sectorOf rho)) (some s.params.rotSettle.toNat) := by
  have : s.params.rotSettle.toNat ≠ 0 := fun e => timed (BitVec.eq_of_toNat_eq e)
  simp only [compareRho, if_neg far, if_neg new, if_neg this]
  rfl

theorem compareRho_pse (quiet : Bool) (rho : Nat) (s : State) :
    ∃ o c r, (compareRho quiet rho s).pse = s.pse.turnedTo o c r := by
  unfold compareRho
  split
  · exact ⟨_, _, _, rfl⟩
  · split
    · exact ⟨_, _, _, rfl⟩
    · simp only
      split
      · obtain ⟨o, c, r, e⟩ := rotExpire_pse quiet (startRotSettle (sectorOf rho) s)
        exact ⟨o, c, r, e⟩
      · exact ⟨_, _, _, rfl⟩

/-- The lid is flat by FLAT_LEVEL (R15). -/
abbrev lidFlat (s : State) : Prop := larger s.pse.lid.x s.pse.lid.y < s.params.flatLevel.toNat

theorem orientStep_flat {s : State} (flat : lidFlat s) :
    (orientStep s).pse = Pse.turnedTo s.pse.orient .none none { s.pse with flat := true } := by
  simp only [orientStep, if_pos flat]
  split
  · rfl
  · rw [blind_pse.place]
    rfl

/-- Where the lid is not flat, the orientation step compares ρ. -/
theorem orientStep_tilted {s : State} (tilted : ¬ lidFlat s) :
    (orientStep s).pse = (compareRho s.pse.flat (sectorAngle s.pse.lid.y s.pse.lid.x)
      (s.onPse fun p => { p with flat := false, rho := sectorAngle s.pse.lid.y s.pse.lid.x })).pse := by
  simp only [orientStep, if_neg tilted]
  split
  · rw [blind_pse.place]
  · rfl

/-- ρ after the orientation step (R15). -/
abbrev rhoAfter (s : State) : Nat := if lidFlat s then s.pse.rho else sectorAngle s.pse.lid.y s.pse.lid.x

/-- What the orientation step leaves of the PSE: flat flag and ρ in full, and the candidate where no settle of 0 ms
and no candidate already settling for the sector decides it. -/
theorem orientStep_pse (s : State) : ∃ o c r, (orientStep s).pse
      = Pse.turnedTo o c r { s.pse with flat := decide (lidFlat s), rho := rhoAfter s }
    ∧ (lidFlat s ∨ nearOrient (rhoAfter s) s → o = s.pse.orient ∧ c = .none ∧ r = none)
    ∧ (¬ lidFlat s → ¬ nearOrient (rhoAfter s) s → s.pse.candidate.orientation ≠ some (sectorOf (rhoAfter s)) →
        s.params.rotSettle ≠ 0 →
        o = s.pse.orient ∧ c = .settling (sectorOf (rhoAfter s)) ∧ r = some s.params.rotSettle.toNat) := by
  by_cases flat : lidFlat s
  · refine ⟨_, _, _, ?_, fun _ => ⟨rfl, rfl, rfl⟩, fun tilted => absurd flat tilted⟩
    rw [orientStep_flat flat]
    simp only [rhoAfter, flat, if_true, decide_true]
  · let tilted := s.onPse fun p => { p with flat := false, rho := sectorAngle s.pse.lid.y s.pse.lid.x }
    have e := orientStep_tilted flat
    have rho : rhoAfter s = sectorAngle s.pse.lid.y s.pse.lid.x := if_neg flat
    simp only [rho, flat, false_or, decide_false]
    by_cases near : nearOrient (sectorAngle s.pse.lid.y s.pse.lid.x) tilted
    · rw [compareRho_near near] at e
      exact ⟨_, _, _, e, fun _ => ⟨rfl, rfl, rfl⟩, fun _ far => absurd near far⟩
    · by_cases new : s.pse.candidate.orientation ≠ some (sectorOf (sectorAngle s.pse.lid.y s.pse.lid.x))
          ∧ s.params.rotSettle ≠ 0
      · rw [compareRho_new (s := tilted) near new.1 new.2] at e
        exact ⟨_, _, _, e, fun close => absurd close near, fun _ _ _ _ => ⟨rfl, rfl, rfl⟩⟩
      · obtain ⟨o, c, r, compared⟩ :=
          compareRho_pse s.pse.flat (sectorAngle s.pse.lid.y s.pse.lid.x) tilted
        exact ⟨o, c, r, e.trans compared, fun close => absurd close near,
          fun _ _ other timed => absurd ⟨other, timed⟩ new⟩

/-- The orientation step sees nothing beside the PSE but the URGENT lane. -/
theorem orientStep_beside (s : State) : besidePse (orientStep s) = besidePse s :=
  (blind_besidePse.stable (· = besidePse s)).orientStep (fun _ _ _ h => h) rfl

/-! ## The hinge (R9 to R11) -/

/-- The pairing gate passes, by the PSE's block and the parameters (R9). -/
abbrev Pse.paired (p : Params) (q : Pse) : Prop :=
  q.baseValid = true ∧ q.pairTimer.isSome = true ∧ p.minPlane.toNat ≤ larger q.lid.y q.lid.z
    ∧ p.minPlane.toNat ≤ larger q.base.y q.base.z

theorem pairingGate_iff (s : State) : pairingGate s = true ↔ s.pse.paired s.params := by
  simp [pairingGate, Pse.paired, and_assoc]

/-- The hinge record moved by a lid sample, before the evaluation that its change may bring (R10, R11). -/
def Pse.moveHinge (p : Params) (now : Half) (q : Pse) : Pse :=
  if q.paired p then
    { q with
      hf := if q.hinge = .unknown then rawHinge q.lid q.base p.cal
        else smoothHinge (rawHinge q.lid q.base p.cal) q.hf p.smoothShift.toNat
      hinge := .valid
      hingeStamp := now
      staleTimer := some p.staleLimit.toNat }
  else { q with hinge := if q.hinge = .valid then .held else q.hinge }

theorem Pse.moveHinge_of_paired {p : Params} {q : Pse} (h : q.paired p) (now : Half) : q.moveHinge p now =
    { q with
      hf := if q.hinge = .unknown then rawHinge q.lid q.base p.cal
        else smoothHinge (rawHinge q.lid q.base p.cal) q.hf p.smoothShift.toNat
      hinge := .valid
      hingeStamp := now
      staleTimer := some p.staleLimit.toNat } := if_pos h

theorem Pse.moveHinge_of_unpaired {p : Params} {q : Pse} (h : ¬ q.paired p) (now : Half) : q.moveHinge p now =
    { q with hinge := if q.hinge = .valid then .held else q.hinge } := if_neg h

/-- Of the PSE's block the hinge computation moves the hinge record alone. -/
theorem Pse.moveHinge_eq (p : Params) (now : Half) (q : Pse) : ∃ hf hinge stamp stale,
    q.moveHinge p now = { q with hf := hf, hinge := hinge, hingeStamp := stamp, staleTimer := stale } := by
  unfold Pse.moveHinge
  split <;> exact ⟨_, _, _, _, rfl⟩

/-- The state with the hinge record moved. -/
abbrev hingeMoved (s : State) : State := s.onPse (Pse.moveHinge s.params s.time)

/-- The hinge computation moves the hinge record and evaluates for it, unless its status stays. -/
theorem hingeStepOf_eq (s : State) : hingeStepOf s = evaluate (hingeMoved s) ∨ hingeStepOf s = hingeMoved s := by
  unfold hingeStepOf hingeMoved
  by_cases gate : s.pse.paired s.params
  · rw [if_pos ((pairingGate_iff s).mpr gate)]
    exact .inl (by simp only [hingeUpdate, State.onPse, Pse.moveHinge_of_paired gate])
  · rw [if_neg (mt (pairingGate_iff s).mp gate), gateFailure]
    by_cases valid : s.pse.hinge = .valid
    · exact .inl (by simp only [State.onPse, Pse.moveHinge_of_unpaired gate, valid, if_true])
    · exact .inr (by simp only [State.onPse, Pse.moveHinge_of_unpaired gate, valid, if_false])

theorem hingeStepOf_keeps {P : State → Prop} (h : Poised P) {s : State} (hs : P (hingeMoved s)) : P (hingeStepOf s) := by
  rcases hingeStepOf_eq s with e | e <;> rw [e]
  · exact h.evaluate hs
  · exact hs

/-- A commit leaves an orientation candidate that is not blocked, and its timer, as they are. -/
theorem candidate_poised {c : Candidate} (r : Timer) (free : ∀ o, c ≠ .blocked o) :
    Poised fun s => s.pse.candidate = c ∧ s.pse.rotTimer = r :=
  { blind_pse.stable fun p => p.candidate = c ∧ p.rotTimer = r with
    commit := fun _ _ _ _ h => h
    settle := fun _ _ _ h => h
    rearm := fun o _ blocked h => absurd (h.1.symm.trans blocked) (free o) }

theorem exec_lidSampleArrival {s : State} (busy : s.pse.readBusy.isSome = true) (x0 x1 y0 y1 z0 z1 : Byte) :
    exec (.lidSampleArrival (x0, x1) (y0, y1) (z0, z1)) s
      = .next (drivePins (lidArrival (Vec3.ofBytes x0 x1 y0 y1 z0 z1) s)) := by
  show done (if s.pse.readBusy.isSome then _ else s) = _
  rw [if_pos busy]
  rfl

/-- The PSE after a lid sample: what the hinge record's move leaves, but for what a commit may change. -/
theorem lidArrival_pse (v : Vec3) (s : State) :
    let sampled := s.onPse fun p => { p with lid := v, failures := 0, readBusy := none }
    let moved := hingeMoved (orientStep sampled)
    BeyondCommit moved (lidArrival v s)
      ∧ ((∀ o, moved.pse.candidate ≠ .blocked o) → (lidArrival v s).pse.candidate = moved.pse.candidate
        ∧ (lidArrival v s).pse.rotTimer = moved.pse.rotTimer) := by
  intro sampled moved
  have presented {P : State → Prop} (h : Poised P) (hit : ∀ i, Keeps P (countHit i)) (hs : P moved) :
      P (lidArrival v s) := h.toStable.local.classify hit _ (hingeStepOf_keeps h hs)
  refine ⟨presented (beyondCommit_poised moved) ?_ (.refl _), fun free => ?_⟩
  · exact fun _ _ h => ⟨h.time, h.params, h.link, h.senses, h.dock, h.choices, h.pending⟩
  · exact presented (candidate_poised moved.pse.rotTimer free) (fun _ _ h => h) ⟨rfl, rfl⟩

/-- Settles O20: the orientation step and the hinge record's move in full, and the frame of `BeyondCommit` for the
evaluation and the local frame behind them. -/
theorem lidSampleOrientsAndMovesHinge : Obligations.LidSampleOrientsAndMovesHinge := by
  intro s x0 x1 y0 y1 z0 z1 busy
  refine ⟨_, exec_lidSampleArrival busy x0 x1 y0 y1 z0 z1, ?_⟩
  intro lx ly lz flat rho raw near
  let sampled := s.onPse fun p => { p with lid := Vec3.ofBytes x0 x1 y0 y1 z0 z1, failures := 0, readBusy := none }
  -- the statement's flat flag, ρ and hysteresis limit are those of the orientation step
  have flatIff : lidFlat sampled ↔ flat = true := decide_eq_true_iff.symm
  have rhoEq : rhoAfter sampled = rho := if_congr flatIff rfl rfl
  have nearIff : nearOrient (rhoAfter sampled) sampled ↔ near := by rw [rhoEq]; rfl
  obtain ⟨o, c, r, turned, settled, started⟩ := orientStep_pse sampled
  obtain ⟨time, params, link, dock, -⟩ : _ ∧ _ ∧ _ ∧ _ ∧ _ := by
    simpa only [besidePse, Prod.mk.injEq] using orientStep_beside sampled
  have moved : (hingeMoved (orientStep sampled)).pse = Pse.moveHinge s.params s.time (orientStep sampled).pse := by
    rw [hingeMoved, State.onPse_pse, params, time]
    rfl
  rw [turned, rhoEq] at moved
  obtain ⟨beyond, kept⟩ := lidArrival_pse (Vec3.ofBytes x0 x1 y0 y1 z0 z1) s
  have pse := Pse.eq_of_senses beyond.senses
  rw [moved] at pse kept
  obtain ⟨hf, hinge, stamp, stale, hingeAlone⟩ := Pse.moveHinge_eq s.params s.time
    (Pse.turnedTo o c r { sampled.pse with flat := decide (lidFlat sampled), rho := rho })
  have orient : (lidArrival (Vec3.ofBytes x0 x1 y0 y1 z0 z1) s).pse.orient = o := by rw [pse, hingeAlone]
  rw [hingeAlone] at kept
  rw [drivePins_pse]
  refine ⟨by rw [pse, hingeAlone]; rfl, fun rests => ?_, fun tilted far new timed => ?_, beyond.time.trans time,
    beyond.params.trans params, beyond.link.trans link, beyond.dock.trans dock, ?_⟩
  · obtain ⟨ho, rfl, rfl⟩ := settled (by rwa [flatIff, nearIff])
    obtain ⟨candidate, timer⟩ := kept (fun _ => by simp)
    exact ⟨orient.trans ho, candidate, timer⟩
  · obtain ⟨ho, hc, hr⟩ := started (by simpa [flatIff] using tilted) (mt nearIff.mp far) (by rwa [rhoEq]) timed
    obtain ⟨candidate, timer⟩ := kept (fun _ => by simp [hc])
    exact ⟨orient.trans ho, candidate.trans (by simp [hc, rhoEq]), timer.trans hr⟩
  · split
    · next gate =>
      rw [Pse.moveHinge_of_paired (by exact gate)] at pse
      rw [pse]
      exact ⟨rfl, rfl, rfl, rfl⟩
    · next gate =>
      rw [Pse.moveHinge_of_unpaired (by exact gate)] at pse
      rw [pse]
      exact ⟨rfl, rfl, rfl, rfl⟩

end Sys2Proof.Machine
end

section
/-! PROOFS. The hall inputs (O22): the millisecond's counts, the acceptance and its local frame's hit. -/

namespace Sys2Proof.Machine

/-! ## A local frame's hit -/

/-- Every route entry keeps its host fields and its hits. -/
abbrev routesKept (s t : State) : Prop := ∀ i : Fin 64,
  t.tcl.routes[i].hostFields = s.tcl.routes[i].hostFields ∧ t.tcl.routes[i].hits = s.tcl.routes[i].hits

/-- A predicate on the route entries that their host fields and hits decide is stable. -/
theorem Stable.of_routes {R : Vector RouteEntry 64 → Prop}
    (same : ∀ v w : Vector RouteEntry 64, (∀ i : Fin 64, w[i].hostFields = v[i].hostFields ∧ w[i].hits = v[i].hits) →
      R v → R w) : Stable fun s => R s.tcl.routes where
  enter _ _ _ _ h := h
  lose _ h := h
  rqu _ _ _ h := h
  sdu _ _ h := h
  tcl _ hf s h := same _ _ (fun i => ⟨hf.host s.tcl i, hf.hits s.tcl i⟩) h
  pcc _ _ h := h
  fault _ _ _ h := h
  unstall _ _ h := h
  notice _ _ h := h

theorem routesKept_poised (s : State) : Poised (routesKept s) :=
  have stable : Stable (routesKept s) := .of_routes
    (R := fun v => ∀ i : Fin 64, v[i].hostFields = s.tcl.routes[i].hostFields ∧ v[i].hits = s.tcl.routes[i].hits)
    fun _ _ e h i => ⟨(e i).1.trans (h i).1, (e i).2.trans (h i).2⟩
  stable.poised fun _ _ h => h

/-- The entry that takes a frame depends on host fields alone (R48). -/
theorem lookupRoute_congr {v w : Vector RouteEntry 64} (h : ∀ i : Fin 64, v[i].hostFields = w[i].hostFields)
    (source cls : BitVec 4) : lookupRoute v source cls = lookupRoute w source cls := by
  have key : ∀ i : Fin 64, v[i].valid = w[i].valid ∧ v[i].source = w[i].source ∧ v[i].cls = w[i].cls :=
    fun i =>
    ⟨(congrArg RouteEntry.valid (h i) :), (congrArg RouteEntry.source (h i) :), (congrArg RouteEntry.cls (h i) :)⟩
  simp only [lookupRoute, findRoute, key]

theorem countHit_hits (i : Fin 64) (s : State) :
    (countHit i s).tcl.routes[i].hits = min 65535 (s.tcl.routes[i].hits + 1) := by
  simp [countHit, State.onRoute]

/-- A local frame counts one hit of the entry that takes it, whatever follows (R42, R48). -/
theorem presentLocal_hits {source cls : BitVec 4} (payload : List Byte) {s : State} {i : Fin 64}
    (taken : lookupRoute s.tcl.routes source cls = some i) :
    (presentLocal source cls payload s).tcl.routes[i].hits = min 65535 (s.tcl.routes[i].hits + 1) := by
  have counted : Stable fun t => t.tcl.routes[i].hits = min 65535 (s.tcl.routes[i].hits + 1) :=
    .of_routes (R := fun v => v[i].hits = min 65535 (s.tcl.routes[i].hits + 1)) fun _ _ e h => (e i).2.trans h
  simp only [presentLocal, classify, taken]
  exact counted.local.handleMatched i _ (countHit_hits i s)

/-! ## Hall inputs (O22) -/

theorem acceptHall_beyond (i : HallInput) (l : HallLevel) (s : State) :
    BeyondCommit (setHall i ⟨l, 0, false⟩ s) (acceptHall i l s) :=
  have h := beyondCommit_poised (setHall i ⟨l, 0, false⟩ s)
  h.toStable.local.classify
    (fun _ _ b => ⟨b.time, b.params, b.link, b.senses, b.dock, b.choices, b.pending⟩) _ (h.evaluate (.refl _))

theorem setHall_tcl (i : HallInput) (x : Hall) (s : State) : (setHall i x s).tcl = s.tcl := by cases i <;> rfl

/-- An accepted change counts a hit of the entry that its frame of source 9 matches. -/
theorem acceptHall_hits {i : HallInput} {s : State} {j : Fin 64}
    (taken : lookupRoute s.tcl.routes 9 (hallClass i) = some j) (l : HallLevel) :
    (acceptHall i l s).tcl.routes[j].hits = min 65535 (s.tcl.routes[j].hits + 1) := by
  have kept : routesKept s (evaluate (setHall i ⟨l, 0, false⟩ s)) :=
    (routesKept_poised s).evaluate fun _ => by rw [setHall_tcl]; exact ⟨rfl, rfl⟩
  have same := lookupRoute_congr (fun i => (kept i).1) 9 (hallClass i)
  rw [acceptHall, presentLocal_hits _ (same.trans taken), (kept j).2]

/-- An accepted change writes its own input's debounce over whatever stood there. -/
theorem acceptHall_congr {i : HallInput} {l : HallLevel} {s t : State}
    (h : setHall i ⟨l, 0, false⟩ s = setHall i ⟨l, 0, false⟩ t) : acceptHall i l s = acceptHall i l t := by
  rw [acceptHall, acceptHall, h]

/-- An accepted change writes its own input's debounce and no other. -/
theorem acceptHall_halls (i : HallInput) (l : HallLevel) (s : State) :
    (acceptHall i l s).pse.hall = (setHall i ⟨l, 0, false⟩ s).pse.hall := by
  rw [Pse.eq_of_senses (acceptHall_beyond i l s).senses]
  rfl

theorem exec_hallChange (i : HallInput) (l : HallLevel) (s : State) : exec (.hallChange i l) s
    = .next (drivePins (if (s.pse.hall i).level = l then s else acceptHall i l s)) := rfl

/-- A run below HALL_DEBOUNCE, or a level that is the accepted one, accepts nothing. -/
theorem settleHall_rest {i : HallInput} {l : HallLevel} {s : State}
    (h : (s.pse.hall i).level = l ∨ (s.pse.hall i).run < s.params.hallDebounce.toNat) : settleHall i l s = s := by
  rw [settleHall, if_neg]
  rintro ⟨differs, due⟩
  rcases h with same | short
  · exact differs same
  · exact absurd due (Nat.not_le.mpr short)

/-- The accepted level of a run that a millisecond brings to HALL_DEBOUNCE. -/
theorem settleHall_due {i : HallInput} {l : HallLevel} {s : State} (differs : (s.pse.hall i).level ≠ l)
    (due : s.params.hallDebounce.toNat ≤ (s.pse.hall i).run) : settleHall i l s = acceptHall i l s :=
  if_pos ⟨differs, due⟩

/-- Both inputs of a millisecond counted. -/
abbrev hallsCounted (lid fold : HallLevel) (s : State) : State := countHall .fold fold (countHall .lid lid s)

/-- With nothing to accept a millisecond only counts, in either order. -/
theorem hallMillisecond_rest {lid fold : HallLevel} {s : State}
    (restLid : (s.pse.lidHall.count lid).level = lid
      ∨ (s.pse.lidHall.count lid).run < s.params.hallDebounce.toNat)
    (restFold : (s.pse.foldHall.count fold).level = fold
      ∨ (s.pse.foldHall.count fold).run < s.params.hallDebounce.toNat) :
    hallMillisecond lid fold s = hallsCounted lid fold s := by
  have lidRests : settleHall .lid lid (hallsCounted lid fold s) = hallsCounted lid fold s := settleHall_rest restLid
  have foldRests : settleHall .fold fold (hallsCounted lid fold s) = hallsCounted lid fold s :=
    settleHall_rest restFold
  simp only [hallMillisecond, lidRests, foldRests, ite_self]

/-- The acceptance of one input leaves the other at rest, so that the order of the two does not matter. -/
theorem settleHall_accepts {i j : HallInput} (other : i ≠ j) {l m : HallLevel} {s : State}
    (differs : (s.pse.hall i).level ≠ l) (due : s.params.hallDebounce.toNat ≤ (s.pse.hall i).run)
    (same : (s.pse.hall j).level = m) :
    settleHall j m (settleHall i l s) = acceptHall i l s ∧ settleHall i l (settleHall j m s) = acceptHall i l s := by
  have kept : (acceptHall i l s).pse.hall j = s.pse.hall j := by
    rw [acceptHall_halls i l s]
    match i, j, other with
    | .lid, .fold, _ => rfl
    | .fold, .lid, _ => rfl
  rw [settleHall_due differs due, settleHall_rest (i := j) (.inl same), settleHall_due differs due,
    settleHall_rest (.inl (kept ▸ same))]
  exact ⟨rfl, rfl⟩

/-- A level that differs, short of the run's bound, adds 1 to the run (R6). -/
theorem Hall.count_differs {h : Hall} {l : HallLevel} (fresh : h.fresh = false) (differs : l ≠ h.level)
    (below : h.run < 255) : h.count l = { h with run := h.run + 1 } := by
  simp [Hall.count, fresh, differs, Nat.min_eq_right (Nat.succ_le_of_lt below)]

theorem Hall.count_same {h : Hall} {l : HallLevel} (fresh : h.fresh = false) (same : l = h.level) :
    h.count l = { h with run := 0 } := by
  simp [Hall.count, fresh, same]

theorem Hall.count_fresh {h : Hall} (l : HallLevel) (fresh : h.fresh = true) : h.count l = ⟨l, 0, false⟩ := by
  simp [Hall.count, fresh]

/-- A millisecond in which the lid input's run reaches HALL_DEBOUNCE and the fold input stands accepts for the lid. -/
theorem hallMillisecond_lid {lid fold : HallLevel} {s : State} (fresh : s.pse.lidHall.fresh = false)
    (differs : lid ≠ s.pse.lidHall.level) (due : s.params.hallDebounce.toNat ≤ s.pse.lidHall.run + 1)
    (below : s.pse.lidHall.run < 255) (still : s.pse.foldHall.fresh = false) (same : fold = s.pse.foldHall.level) :
    hallMillisecond lid fold s = acceptHall .lid lid
      { s with pse := { s.pse with foldHall := { s.pse.foldHall with run := 0 } } } := by
  have counted : hallsCounted lid fold s = { s with pse := { s.pse with
      lidHall := { s.pse.lidHall with run := s.pse.lidHall.run + 1 }
      foldHall := { s.pse.foldHall with run := 0 } } } := by
    rw [← Hall.count_differs fresh differs below, ← Hall.count_same still same]
    rfl
  simp only [hallMillisecond, show countHall .fold fold (countHall .lid lid s) = _ from counted]
  obtain ⟨lidFirst, foldFirst⟩ := settleHall_accepts (i := .lid) (j := .fold) (l := lid) (m := fold) (by decide)
    (s := { s with pse := { s.pse with
      lidHall := { s.pse.lidHall with run := s.pse.lidHall.run + 1 }
      foldHall := { s.pse.foldHall with run := 0 } } }) (Ne.symm differs) due same.symm
  rw [lidFirst, foldFirst, ite_self]
  exact acceptHall_congr rfl

/-- The same for the fold input. -/
theorem hallMillisecond_fold {lid fold : HallLevel} {s : State} (fresh : s.pse.foldHall.fresh = false)
    (differs : fold ≠ s.pse.foldHall.level) (due : s.params.hallDebounce.toNat ≤ s.pse.foldHall.run + 1)
    (below : s.pse.foldHall.run < 255) (still : s.pse.lidHall.fresh = false) (same : lid = s.pse.lidHall.level) :
    hallMillisecond lid fold s = acceptHall .fold fold
      { s with pse := { s.pse with lidHall := { s.pse.lidHall with run := 0 } } } := by
  have counted : hallsCounted lid fold s = { s with pse := { s.pse with
      lidHall := { s.pse.lidHall with run := 0 }
      foldHall := { s.pse.foldHall with run := s.pse.foldHall.run + 1 } } } := by
    rw [← Hall.count_differs fresh differs below, ← Hall.count_same still same]
    rfl
  simp only [hallMillisecond, show countHall .fold fold (countHall .lid lid s) = _ from counted]
  obtain ⟨foldFirst, lidFirst⟩ := settleHall_accepts (i := .fold) (j := .lid) (l := fold) (m := lid) (by decide)
    (s := { s with pse := { s.pse with
      lidHall := { s.pse.lidHall with run := 0 }
      foldHall := { s.pse.foldHall with run := s.pse.foldHall.run + 1 } } }) (Ne.symm differs) due same.symm
  rw [lidFirst, foldFirst, ite_self]
  exact acceptHall_congr rfl

/-- In a quiet millisecond an input's debounce becomes what the statement names, and accepts nothing. -/
theorem Hall.count_quiet {h : Hall} {l : HallLevel} {n : Nat}
    (quiet : h.fresh = true ∨ l = h.level ∨ (h.run + 1 < n ∧ h.run < 255)) :
    h.count l = (if h.fresh then ⟨l, 0, false⟩ else if l = h.level then { h with run := 0 }
        else { h with run := h.run + 1 })
      ∧ ((h.count l).level = l ∨ (h.count l).run < n) := by
  by_cases fresh : h.fresh = true
  · rw [if_pos fresh, Hall.count_fresh l fresh]
    exact ⟨rfl, .inl rfl⟩
  · rw [if_neg fresh]
    rw [Bool.not_eq_true] at fresh
    by_cases same : l = h.level
    · rw [if_pos same, Hall.count_same fresh same]
      exact ⟨rfl, .inl same.symm⟩
    · obtain ⟨short, below⟩ := (quiet.resolve_left (by simp [fresh])).resolve_left same
      rw [if_neg same, Hall.count_differs fresh same below]
      exact ⟨rfl, .inr short⟩

/-- Settles O22, by one lemma per count of a millisecond and the acceptance's frame. -/
theorem hallInputsDebounce : Obligations.HallInputsDebounce := by
  intro s l1 l2 l3 f1 f2 f3 l lid fold after quiet
  have exec_level : exec (.hallMillisecondLevel l1 l2 l3 f1 f2 f3) s = .next (drivePins (hallMillisecond lid fold s)) :=
    rfl
  refine ⟨fun quietLid quietFold => ?_, fun fresh differs due below still same => ?_,
    fun fresh differs due below still same => ?_, fun differs => ?_, fun differs => ?_, fun same => ?_, fun same => ?_⟩
  · obtain ⟨countedLid, restLid⟩ := Hall.count_quiet quietLid
    obtain ⟨countedFold, restFold⟩ := Hall.count_quiet quietFold
    rw [exec_level, hallMillisecond_rest restLid restFold]
    simp only [after, ← countedLid, ← countedFold]
    rfl
  · refine ⟨_, by rw [exec_level, hallMillisecond_lid fresh differs due below still same], ?_, ?_⟩
    · rw [exec_hallChange, if_neg (by exact (Ne.symm differs))]
    · exact congrFun (acceptHall_halls .lid lid _) .lid
  · refine ⟨_, by rw [exec_level, hallMillisecond_fold fresh differs due below still same], ?_, ?_⟩
    · rw [exec_hallChange, if_neg (by exact (Ne.symm differs))]
    · exact congrFun (acceptHall_halls .fold fold _) .fold
  · rw [exec_hallChange, if_neg (by exact differs)]
    exact ⟨_, rfl, (acceptHall_beyond .lid l s).pins, fun i taken => acceptHall_hits (i := .lid) taken l⟩
  · rw [exec_hallChange, if_neg (by exact differs)]
    exact ⟨_, rfl, (acceptHall_beyond .fold l s).pins, fun i taken => acceptHall_hits (i := .fold) taken l⟩
  · rw [exec_hallChange, if_pos (by exact same)]
  · rw [exec_hallChange, if_pos (by exact same)]

end Sys2Proof.Machine
end

section
/-! PROOFS. The tap of a base sample (O30). -/

namespace Sys2Proof.Machine

/-! ## The Dock Receive Buffer through the taking of its head -/

/-- No frame is stalled and the buffer holds the frames named. -/
abbrev bufferIs (b : List Frame) (s : State) : Prop := s.tcl.stall = none ∧ s.dlc.buffer = b

/-- The head frame has left the buffer, or it is stalled there (R41, R60). -/
abbrev headTaken (f : Frame) (rest : List Frame) (s : State) : Prop :=
  bufferIs rest s ∨ (s.tcl.stall.isSome = true ∧ s.dlc.buffer = f :: rest)

theorem bufferIs_poised (b : List Frame) : Poised (bufferIs b) :=
  have stable : Stable (bufferIs b) :=
    { enter := fun _ _ _ _ h => h
      lose := fun _ h => h
      rqu := fun _ _ _ h => h
      sdu := fun _ _ h => h
      tcl := fun _ hf s h => ⟨(hf.stall s.tcl).trans h.1, h.2⟩
      pcc := fun _ _ h => h
      fault := fun _ _ _ h => h
      unstall := fun _ stalled h => by rw [h.1] at stalled; contradiction
      notice := fun _ _ h => h }
  stable.poised fun _ _ h => h

theorem headTaken_stable (f : Frame) (rest : List Frame) : Stable (headTaken f rest) where
  enter _ _ _ _ h := h
  lose _ h := h
  rqu _ _ _ h := h
  sdu _ _ h := h
  tcl _ hf s h := h.imp (fun free => ⟨(hf.stall s.tcl).trans free.1, free.2⟩)
    fun held => ⟨(congrArg Option.isSome (hf.stall s.tcl)).trans held.1, held.2⟩
  pcc _ _ h := h
  fault _ _ _ h := h
  unstall s stalled h := by
    rcases h with ⟨free, -⟩ | ⟨-, held⟩
    · rw [free] at stalled
      contradiction
    · exact .inl ⟨rfl, congrArg List.tail held⟩
  notice _ _ h := h

/-- The handling of the head frame takes it from the buffer or stalls it there. -/
theorem head_leads (f : Frame) (rest : List Frame) : FrameLeads true (bufferIs (f :: rest)) (headTaken f rest) where
  before := (bufferIs_poised _).toStable
  after := headTaken_stable f rest
  ends _ h := .inl ⟨h.1, congrArg List.tail h.2⟩
  stalls _ _ _ h := .inr ⟨rfl, h.2⟩

/-- The handling of a dock frame stays in the frame of `BeyondCommit`, which leaves the buffer out. -/
theorem beyondCommit_leads (s : State) : FrameLeads true (BeyondCommit s) (BeyondCommit s) where
  before := (beyondCommit_poised s).toStable
  after := (beyondCommit_poised s).toStable
  ends _ h := ⟨h.time, h.params, h.link, h.senses, h.dock, h.choices, h.pending⟩
  stalls _ _ _ h := ⟨h.time, h.params, h.link, h.senses, h.dock, h.choices, h.pending⟩

/-! ## The tap -/

/-- The base vector may be marked valid: the base is in use and node 3 in the node list (R5). -/
theorem usable_eq (s : State) : (s.dlc.state.inUse && s.dlc.identity.hasNode 3)
    = (decide (s.dlc.state = .attached ∨ s.dlc.state = .detachRequested)
      && s.dlc.identity.nodes.any (fun n => n.node = 3)) := by
  cases h : s.dlc.state <;> simp [DockState.inUse, Identity.hasNode]

/-- A face written, whether it changes or not, with the evaluation that a change triggers. -/
theorem setFace_keeps {P : State → Prop} (h : Poised P) {f : Face} {s : State}
    (hs : P (s.onPse fun p => { p with face := f })) : P (setFace f s) := by
  rw [setFace]
  split
  · next same =>
    subst same
    exact hs
  · exact h.evaluate hs

/-- The base vector, its marks and the face as a base sample leaves them (R4, R5, R14). -/
abbrev baseTapped (v : Vec3) (s : State) : State := s.onPse fun p =>
  let ok := s.dlc.state.inUse && s.dlc.identity.hasNode 3
  { p with
    base := v
    baseStamp := s.time
    baseValid := ok
    pairTimer := some s.params.pairWindow.toNat
    face := if ok then faceOf v.z else .none }

theorem tap_keeps {P : State → Prop} (h : Poised P) {f : Frame} {v : Vec3} {s : State} (source : f.source = 3)
    (cls : f.cls = 1) (axes : baseAxes f.payload = some v) (hs : P (baseTapped v s)) : P (tap f s) := by
  simp only [tap, source, cls, axes, and_self, if_true]
  exact setFace_keeps h hs

/-- The first taking of a head frame that is no RESTART taps it and hands it to the classifier (R42). -/
theorem exec_dockFrameTaken {s : State} {f : Frame} {rest : List Frame} (head : s.dlc.buffer = f :: rest)
    (free : s.tcl.stall = none) (plain : f.restart = false) :
    exec .dockFrameTaken s = .next (drivePins (classify true f (tap f s))) := by
  show done (takeHead s) = _
  simp only [takeHead, head, free, takeDock, plain, Bool.false_eq_true, if_false]
  rfl

/-- Settles O30: the tap stands in the frame of `BeyondCommit` through its evaluation and the classifier, and the
head frame's handling takes it from the buffer or stalls it. -/
theorem baseSampleIsTapped : Obligations.BaseSampleIsTapped := by
  intro s f rest x0 x1 y0 y1 z0 z1 head free plain source cls payload z ok
  have axes : baseAxes f.payload = some (Vec3.ofBytes x0 x1 y0 y1 z0 z1) := by rw [payload]; rfl
  have tapped : BeyondCommit (baseTapped (Vec3.ofBytes x0 x1 y0 y1 z0 z1) s) (classify true f (tap f s)) :=
    (beyondCommit_leads _).classify
      (fun _ _ b => ⟨b.time, b.params, b.link, b.senses, b.dock, b.choices, b.pending⟩) f
      (tap_keeps (beyondCommit_poised _) source cls axes (.refl _))
  have taken : headTaken f rest (classify true f (tap f s)) :=
    (head_leads f rest).classify (fun _ _ h => h) f
      (tap_keeps (bufferIs_poised _) source cls axes ⟨free, head⟩)
  refine ⟨_, exec_dockFrameTaken head free plain, ?_, ?_⟩
  · simp only [ok, ← usable_eq]
    exact tapped.pins
  · exact taken.imp And.right fun held => ⟨held.2, held.1⟩

end Sys2Proof.Machine
end

section
/-! PROOFS. The refusals of the requests (O16): which codes the readers of a payload accept, and each request's
refusal by the check that fails. -/

namespace Sys2Proof.Machine

/-! ## Codes that stand for a value -/

theorem flagOfCode_isSome {b : Byte} : (flagOfCode b).isSome ↔ b.toNat ≤ 1 := by
  unfold flagOfCode
  generalize b.toNat = n
  split <;> grind

theorem tablePosture_isSome {b : Byte} : (TablePosture.ofCode b).isSome ↔ b ≠ 0 ∧ b.toNat ≤ 6 := by
  have zero : b = 0 ↔ b.toNat = 0 := by bv_omega
  rw [TablePosture.ofCode, Ne, zero]
  generalize b.toNat = n
  split <;> grind

theorem faceCond_isSome {b : Byte} : (FaceCond.ofCode b).isSome ↔ b.toNat ≤ 3 := by
  unfold FaceCond.ofCode
  generalize b.toNat = n
  split <;> grind

theorem hallCond_isSome {b : Byte} : (HallCond.ofCode b).isSome ↔ b.toNat ≤ 2 := by
  unfold HallCond.ofCode
  generalize b.toNat = n
  split <;> grind

theorem supplyOf_isSome {b : Byte} : (supplyOf b).isSome ↔ b.toNat ≤ 2 := by
  unfold supplyOf
  generalize b.toNat = n
  split <;> grind

theorem holdClassOf_isSome {b : Byte} : (holdClassOf b).isSome ↔ b.toNat ≤ 1 := by
  unfold holdClassOf
  generalize b.toNat = n
  split <;> grind

theorem laneChoice_isSome {b : Byte} : (laneChoice b).isSome ↔ b.toNat ≤ 2 := by
  unfold laneChoice
  generalize b.toNat = n
  split <;> grind

theorem routeAction_isSome : ∀ {b : BitVec 2}, (RouteAction.ofCode b).isSome ↔ b ≠ 3 := by decide

theorem actionsOf_isSome {a : Half} : (actionsOf a).isSome ↔ ∀ k : Fin 8, a.extractLsb' (2 * k) 2 ≠ 3 := by
  simp only [← routeAction_isSome, Option.isSome_iff_exists]
  simp only [actionsOf, Option.pure_def, Option.bind_eq_bind, Option.bind_eq_some_iff, Fin.forall_fin_succ,
    Fin.isValue, Fin.coe_ofNat_eq_mod, Nat.zero_mod, mul_zero, Fin.val_succ, zero_add, mul_one, Nat.reduceAdd,
    Nat.reduceMul, Fin.val_eq_zero, forall_const]
  constructor
  · rintro ⟨_, _, h0, _, h1, _, h2, _, h3, _, h4, _, h5, _, h6, _, h7, -⟩
    exact ⟨⟨_, h0⟩, ⟨_, h1⟩, ⟨_, h2⟩, ⟨_, h3⟩, ⟨_, h4⟩, ⟨_, h5⟩, ⟨_, h6⟩, ⟨_, h7⟩⟩
  · rintro ⟨⟨_, h0⟩, ⟨_, h1⟩, ⟨_, h2⟩, ⟨_, h3⟩, ⟨_, h4⟩, ⟨_, h5⟩, ⟨_, h6⟩, ⟨_, h7⟩⟩
    exact ⟨#v[_, _, _, _, _, _, _, _], _, h0, _, h1, _, h2, _, h3, _, h4, _, h5, _, h6, _, h7, rfl⟩

theorem classKey_isSome {b : Byte} : (ClassKey.ofCode b).isSome ↔ b = 0xFF ∨ (b ≠ 0 ∧ b.toNat ≤ 15) := by
  have zero : b = 0 ↔ b.toNat = 0 := by bv_omega
  unfold ClassKey.ofCode
  split <;> grind [noneByte]

theorem lengthOf_isSome {b : Byte} : (lengthOf b).isSome ↔ b = 0xFF ∨ b.toNat ≤ 32 := by
  unfold lengthOf
  split <;> grind [noneByte]

/-! ## Fields that spell an entry, a row or a set -/

/-- The fields of a ROUTE_LOAD that spell no entry (R45 step 3). -/
abbrev badRoute (source cls : Byte) (actions : Half) (flags errorLimit length : Byte) : Prop :=
  15 < source.toNat ∨ (cls ≠ 0xFF ∧ (cls = 0 ∨ 15 < cls.toNat))
    ∨ (∃ k : Fin 8, actions.extractLsb' (2 * k) 2 = 3) ∨ 15 < flags.toNat ∨ 15 < errorLimit.toNat
    ∨ (length ≠ 0xFF ∧ 32 < length.toNat) ∨ (flags.getLsbD 2 = true ∧ length.toNat < 2)

/-- The expected length of a paired entry leaves room for item and edge. -/
theorem lengthOf_short {b : Byte} {len : Option Nat} (h : lengthOf b = some len) :
    (len = some 0 ∨ len = some 1) ↔ b.toNat < 2 := by
  unfold lengthOf at h
  grind [noneByte]

theorem not_badRoute_iff {source cls : Byte} {actions : Half} {flags errorLimit length : Byte} :
    ¬ badRoute source cls actions flags errorLimit length ↔
      (ClassKey.ofCode cls).isSome ∧ (actionsOf actions).isSome ∧ (lengthOf length).isSome
        ∧ source.toNat ≤ 15 ∧ flags.toNat < 16 ∧ errorLimit.toNat ≤ 15
        ∧ ¬ (flags.getLsbD 2 = true ∧ length.toNat < 2) := by
  rw [classKey_isSome, actionsOf_isSome, lengthOf_isSome]
  grind

/-- Fields outside their ranges spell no entry. -/
theorem routeEntryOf_bad {source cls : Byte} {actions : Half} {flags errorLimit length : Byte}
    (bad : badRoute source cls actions flags errorLimit length) (wakeMask : Byte) :
    routeEntryOf source cls actions flags wakeMask errorLimit length = none := by
  by_contra spelt
  obtain ⟨e, spelt⟩ := Option.ne_none_iff_exists'.mp spelt
  simp only [routeEntryOf, Option.bind_eq_bind, Option.bind_eq_some_iff] at spelt
  obtain ⟨key, hk, acts, ha, len, hl, rest⟩ := spelt
  split at rest
  · next inside =>
    rw [lengthOf_short hl] at inside
    exact not_badRoute_iff.mpr ⟨Option.isSome_of_mem hk, Option.isSome_of_mem ha, Option.isSome_of_mem hl, inside⟩ bad
  · cases rest

/-- Fields within their ranges spell an entry with the key that they name. -/
theorem routeEntryOf_good {source cls : Byte} {actions : Half} {flags errorLimit length : Byte}
    (good : ¬ badRoute source cls actions flags errorLimit length) (wakeMask : Byte) :
    ∃ e, routeEntryOf source cls actions flags wakeMask errorLimit length = some e
      ∧ e.source = source.setWidth 4 ∧ ClassKey.ofCode cls = some e.cls := by
  obtain ⟨hk, ha, hl, inside⟩ := not_badRoute_iff.mp good
  obtain ⟨key, hk⟩ := Option.isSome_iff_exists.mp hk
  obtain ⟨acts, ha⟩ := Option.isSome_iff_exists.mp ha
  obtain ⟨len, hl⟩ := Option.isSome_iff_exists.mp hl
  rw [← lengthOf_short hl] at inside
  simp only [routeEntryOf, hk, ha, hl, Option.bind_eq_bind, Option.bind_some, if_pos inside]
  exact ⟨_, rfl, rfl, rfl⟩

/-- A class key's code is read as that key, or, for class 0, as none. -/
theorem ofCode_code (c : ClassKey) : ClassKey.ofCode c.code = none ∨ ClassKey.ofCode c.code = some c := by
  cases c with
  | any => exact .inr rfl
  | exact c => revert c; decide

/-- A POSTURE_LOAD spells a row only where every field lies within its range (R24 step 3). -/
theorem postureRowOf_isSome {valid posture angle : Byte} {low high : Half} {face lidHall foldHall : Byte}
    {settle : Half} (h : (postureRowOf valid posture angle low high face lidHall foldHall settle).isSome) :
    valid.toNat ≤ 1 ∧ posture ≠ 0 ∧ posture.toNat ≤ 6 ∧ angle.toNat ≤ 1 ∧ low.toNat ≤ 3599 ∧ high.toNat ≤ 3599
      ∧ face.toNat ≤ 3 ∧ lidHall.toNat ≤ 2 ∧ foldHall.toNat ≤ 2 ∧ settle.toNat ≤ 5000 := by
  obtain ⟨r, h⟩ := Option.isSome_iff_exists.mp h
  simp only [postureRowOf, Option.bind_eq_bind, Option.bind_eq_some_iff] at h
  obtain ⟨_, hv, _, hp, _, ha, _, hf, _, hl, _, hh, rest⟩ := h
  split at rest
  · next numbers =>
    obtain ⟨low, high, settle⟩ := numbers
    obtain ⟨named, small⟩ := tablePosture_isSome.mp (Option.isSome_of_mem hp)
    exact ⟨flagOfCode_isSome.mp (Option.isSome_of_mem hv), named, small, flagOfCode_isSome.mp (Option.isSome_of_mem ha),
      low, high, faceCond_isSome.mp (Option.isSome_of_mem hf), hallCond_isSome.mp (Option.isSome_of_mem hl),
      hallCond_isSome.mp (Option.isSome_of_mem hh), settle⟩
  · cases rest

/-- A PEN_CONFIG spells a set exactly where ENABLE and PEN_WAKE are on or off (R120 step 1). -/
theorem penSetOf_isSome {enable : Byte} {period burst : Half}
    {taper resume keep absent progress session postures wake : Byte} :
    (penSetOf enable period burst taper resume keep absent progress session postures wake).isSome
      ↔ enable.toNat ≤ 1 ∧ wake.toNat ≤ 1 := by
  simp only [← flagOfCode_isSome, penSetOf]
  cases flagOfCode enable <;> cases flagOfCode wake <;> simp

/-! ## The refusals -/

/-- A request whose function answers a refusal is refused, with the state as it is but for the answer. -/
theorem refuse {f s : State} {ty tag : Byte} {code : Status} (h : f = respond ty tag code [] s) :
    done f = .next (answered (responseType ty) tag code [] s) := by
  rw [h, done_respond]

theorem configGet_unnumbered {s : State} {tag number : Byte} (h : number.toNat = 0 ∨ 31 < number.toNat) :
    configGet tag number s = respond 0x04 tag .badArg [] s := by
  have : s.params.get number.toNat = none := by
    rw [Params.get_eq_values]
    split
    · rfl
    · rw [List.getElem?_eq_none]
      rw [Params.values_length]
      omega
  rw [configGet, this]

theorem configSet_frozen {s : State} {tag number : Byte} {value : Half} (frozen : s.hlc.frozen = true)
    (kept : number.toNat ∈ [6, 12, 13, 30, 31]) :
    configSet tag number value s = respond 0x03 tag .frozen [] s := by
  have numbered : ¬ (number.toNat < 1 ∨ 31 < number.toNat) := by
    simp only [List.mem_cons, List.not_mem_nil, or_false] at kept
    omega
  have locked : paramFrozen number.toNat = true := by simpa [paramFrozen, or_assoc] using kept
  simp only [configSet, numbered, locked, frozen, Bool.and_self, if_true, if_false]

theorem configSet_code {s : State} {tag number : Byte} {value : Half}
    (coded : number.toNat = 19 ∨ (number.toNat = 13 ∧ s.hlc.frozen = false)) (outside : 1 < value.toNat) :
    configSet tag number value s = respond 0x03 tag .badArg [] s := by
  rcases coded with number | ⟨number, thawed⟩
  · simp [configSet, number, outside, paramFrozen, paramEnumerated]
  · simp [configSet, number, thawed, outside, paramFrozen, paramEnumerated]

theorem loadRoute_badArg {s : State} {tag index : Byte} {fields : Option RouteEntry} (thawed : s.hlc.frozen = false)
    (h : 64 ≤ index.toNat ∨ fields = none) : loadRoute tag index fields s = respond 0x10 tag .badArg [] s := by
  rcases h with outside | none
  · simp [loadRoute, thawed, routeIndex, Nat.not_lt.mpr outside]
  · simp [loadRoute, thawed, none]

theorem loadRoute_duplicate {s : State} {tag index : Byte} {e : RouteEntry} (thawed : s.hlc.frozen = false)
    (inside : index.toNat < 64) (taken : keyTaken s.tcl.routes ⟨index.toNat, inside⟩ e.source e.cls = true) :
    loadRoute tag index (some e) s = respond 0x10 tag .duplicate [] s := by
  simp [loadRoute, thawed, routeIndex, inside, taken]

/-- Another valid entry with the key of the fields holds the key. -/
theorem keyTaken_of_entry {s : State} {i j : Fin 64} {source cls : Byte} {e : RouteEntry} (narrow : source.toNat ≤ 15)
    (spelt : e.source = source.setWidth 4) (key : ClassKey.ofCode cls = some e.cls) (other : j ≠ i)
    (valid : s.tcl.routes[j].valid = true) (same : s.tcl.routes[j].source.toNat = source.toNat)
    (code : s.tcl.routes[j].cls.code = cls) : keyTaken s.tcl.routes i e.source e.cls = true := by
  have source' : s.tcl.routes[j].source = e.source := by
    rw [spelt]
    bv_omega
  have class' : s.tcl.routes[j].cls = e.cls := by
    rcases ofCode_code s.tcl.routes[j].cls with unread | read
    · rw [code, key] at unread
      cases unread
    · rw [code, key] at read
      exact (Option.some.inj read).symm
  exact List.any_eq_true.mpr ⟨j, List.mem_finRange j, by
    simp only [other, valid, source', class', ne_eq, not_false_eq_true, decide_true, Bool.and_self]⟩

theorem sendFits_iff {node cls len : Byte} {payload : List Byte} : sendFits node cls len payload = true ↔
    1 ≤ node.toNat ∧ node.toNat ≤ 7 ∧ 1 ≤ cls.toNat ∧ cls.toNat ≤ 15 ∧ len.toNat ≤ 32
      ∧ payload.length = len.toNat := by
  simp [sendFits, Config.framePayload, and_assoc]

theorem setSupply_badArg {s : State} {tag arg : Byte} (h : 2 < arg.toNat) :
    setSupply tag arg s = respond 0x29 tag .badArg [] s := by
  have : supplyOf arg = none := by simpa using mt supplyOf_isSome.mp (Nat.not_le.mpr h)
  rw [setSupply, this]

theorem orientLock_badArg {s : State} {tag arg : Byte} (h : 1 < arg.toNat) :
    orientLock tag arg s = respond 0x1A tag .badArg [] s := by
  have : flagOfCode arg = none := by simpa using mt flagOfCode_isSome.mp (Nat.not_le.mpr h)
  rw [orientLock, this]

theorem setHostState_badArg {s : State} {tag arg : Byte} (h : 1 < arg.toNat) :
    setHostState tag arg s = respond 0x30 tag .badArg [] s := by
  rw [setHostState, if_neg (by bv_omega), if_neg (by bv_omega)]

theorem answerDetach_wrongState {s : State} {tag arg : Byte} (known : arg.toNat ≤ 1)
    (state : s.dlc.state ≠ .detachRequested) : answerDetach tag arg s = respond 0x21 tag .wrongState [] s := by
  rw [answerDetach, if_neg (Nat.not_lt.mpr known), if_pos state]

theorem sendDock_unfit {s : State} {tag node cls len : Byte} {payload : List Byte}
    (unfit : sendFits node cls len payload = false) :
    sendDock tag node cls len payload s = respond 0x20 tag .badArg [] s := by
  simp only [sendDock, unfit, Bool.not_false, if_true]

theorem sendDock_unused {s : State} {tag node cls len : Byte} {payload : List Byte}
    (fit : sendFits node cls len payload = true) (unused : s.dlc.state.inUse = false) :
    sendDock tag node cls len payload s = respond 0x20 tag .wrongState [] s := by
  simp [sendDock, fit, unused]

theorem sendDock_full {s : State} {tag node cls len : Byte} {payload : List Byte}
    (fit : sendFits node cls len payload = true) (used : s.dlc.state.inUse = true) (full : 4 ≤ s.dlc.slots.length) :
    sendDock tag node cls len payload s = respond 0x20 tag .full [] s := by
  simp [sendDock, fit, used, Config.transmitSlots, full]

theorem readRoute_badArg {s : State} {tag index : Byte} (outside : 64 ≤ index.toNat) :
    readRoute tag index s = respond 0x12 tag .badArg [] s := by
  simp [readRoute, routeIndex, Nat.not_lt.mpr outside]

theorem clearRoute_badArg {s : State} {tag index : Byte} (thawed : s.hlc.frozen = false)
    (outside : 64 ≤ index.toNat) : clearRoute tag index s = respond 0x11 tag .badArg [] s := by
  simp [clearRoute, thawed, routeIndex, Nat.not_lt.mpr outside]

theorem readPosture_badArg {s : State} {tag row : Byte} (outside : 12 ≤ row.toNat) :
    readPosture tag row s = respond 0x19 tag .badArg [] s := by
  simp [readPosture, rowIndex, Nat.not_lt.mpr outside]

theorem loadPosture_badArg {s : State} {tag row : Byte} {fields : Option PostureRow} (thawed : s.hlc.frozen = false)
    (h : 12 ≤ row.toNat ∨ fields = none) : loadPosture tag row fields s = respond 0x18 tag .badArg [] s := by
  rcases h with outside | none
  · simp [loadPosture, thawed, rowIndex, Nat.not_lt.mpr outside]
  · simp [loadPosture, thawed, none]

theorem holdSlot_eq_some {b : Byte} {i : Fin 8} (h : holdSlot b = some i) : b.toNat < 8 := by
  unfold holdSlot at h
  grind

theorem holdClaim_badArg {s : State} {tag slot cls owner : Byte} {lifetime : Half}
    (h : 8 ≤ slot.toNat ∨ 1 < cls.toNat ∨ owner = 0) :
    holdClaim tag slot cls owner lifetime s = respond 0x31 tag .badArg [] s := by
  unfold holdClaim
  split
  · next slotted classed =>
    have inside := holdSlot_eq_some slotted
    have known := holdClassOf_isSome.mp (Option.isSome_of_mem classed)
    rw [if_pos ((h.resolve_left (by omega)).resolve_left (by omega))]
  · rfl

theorem holdClaim_held {s : State} {tag slot cls owner : Byte} {lifetime : Half} (inside : slot.toNat < 8)
    (known : cls.toNat ≤ 1) (named : owner ≠ 0#8) (held : s.sdu.holds[slot.toNat].isSome = true) :
    holdClaim tag slot cls owner lifetime s = respond 0x31 tag .held [] s := by
  obtain ⟨c, classed⟩ := Option.isSome_iff_exists.mp (holdClassOf_isSome.mpr known)
  simp [holdClaim, holdSlot, inside, classed, named, held]

theorem holdRelease_badArg {s : State} {tag slot owner : Byte} (h : 8 ≤ slot.toNat ∨ owner = 0) :
    holdRelease tag slot owner s = respond 0x32 tag .badArg [] s := by
  unfold holdRelease
  split
  · next slotted =>
    have inside := holdSlot_eq_some slotted
    rw [if_pos (h.resolve_left (by omega))]
  · rfl

theorem holdRelease_free {s : State} {tag slot owner : Byte} (inside : slot.toNat < 8) (named : owner ≠ 0#8)
    (free : s.sdu.holds[slot.toNat] = none) :
    holdRelease tag slot owner s = respond 0x32 tag .wrongState [] s := by
  simp [holdRelease, holdSlot, inside, named, free]

theorem holdRelease_other {s : State} {tag slot owner : Byte} {x : Hold} (inside : slot.toNat < 8)
    (named : owner ≠ 0#8) (held : s.sdu.holds[slot.toNat] = some x) (other : x.owner ≠ owner) :
    holdRelease tag slot owner s = respond 0x32 tag .notOwner [] s := by
  simp [holdRelease, holdSlot, inside, named, held, other]

theorem drainQueue_badArg {s : State} {tag count lane : Byte}
    (h : count = 0 ∨ 16 < count.toNat ∨ 2 < lane.toNat) : drainQueue tag count lane s = respond 0x38 tag .badArg [] s := by
  rw [drainQueue]
  split
  · rfl
  · next counted =>
    have unknown : laneChoice lane = none := by
      have : ¬ lane.toNat ≤ 2 := by bv_omega
      simpa using mt laneChoice_isSome.mp this
    rw [unknown]

theorem configPen_badArg {s : State} {tag : Byte} {raw : Option PenSet} (h : ¬ raw.isSome) :
    configPen tag raw s = respond 0x28 tag .badArg [] s := by
  rw [Option.not_isSome_iff_eq_none.mp h]
  rfl

theorem configPen_collision {s : State} {tag : Byte} {raw : Option PenSet} (spelt : raw.isSome)
    (staged : s.pcc.staged.isSome = true) :
    configPen tag raw s = respond 0x28 tag .collision [] (s.onPcc fun q => { q with collision := true }) := by
  obtain ⟨p, rfl⟩ := Option.isSome_iff_exists.mp spelt
  simp only [configPen, staged, if_true]

/-- Settles O16: each refusal is the branch of the request's function that its condition selects. -/
theorem requestsRefuse : Obligations.RequestsRefuse := by
  intro s tag refuses
  refine ⟨fun number value => ⟨fun unnumbered => ⟨?_, refuse (configGet_unnumbered unnumbered)⟩,
      fun frozen kept => refuse (configSet_frozen frozen kept),
      fun coded outside => refuse (configSet_code coded outside)⟩,
    fun index source cls actions flags wakeMask errorLimit length => ?_,
    fun row valid posture angle low high face lidHall foldHall settle => ?_,
    fun node cls len payload => ?_,
    fun arg => ⟨fun h => ⟨refuse (orientLock_badArg h), refuse (if_pos h : answerDetach tag arg s = _),
        refuse (setHostState_badArg h)⟩, fun h => refuse (setSupply_badArg h), fun h state => ?_⟩,
    fun state => refuse (if_neg state : retryDock tag s = _),
    fun enable period burst taper resume keep absent progress session postures wake => ?_,
    fun slot cls owner lifetime => ⟨fun h => refuse (holdClaim_badArg h), fun h => refuse (holdRelease_badArg h),
      fun inside named => ⟨fun known held => refuse (holdClaim_held inside known named held),
        fun free => refuse (holdRelease_free inside named free),
        fun x held other => refuse (holdRelease_other inside named held other)⟩⟩,
    fun count lane h => refuse (drainQueue_badArg h)⟩
  case refine_1 => exact refuse (if_pos (by omega) : configSet tag number value s = _)
  case refine_2 =>
    refine ⟨fun frozen => ⟨refuse (if_pos frozen : loadRoute tag index _ s = _),
        refuse (if_pos frozen : clearRoute tag index s = _)⟩,
      fun thawed bad => refuse (loadRoute_badArg thawed (bad.imp_right fun bad => routeEntryOf_bad bad wakeMask)),
      fun thawed inside good taken => ?_, fun outside => ⟨refuse (readRoute_badArg outside),
        fun thawed => refuse (clearRoute_badArg thawed outside)⟩⟩
    obtain ⟨e, spelt, sourced, classed⟩ := routeEntryOf_good good wakeMask
    obtain ⟨j, other, valid, sameSource, sameClass⟩ := taken
    obtain ⟨-, -, -, narrow, -⟩ := not_badRoute_iff.mp good
    have held := keyTaken_of_entry narrow sourced classed (i := ⟨index.toNat, inside⟩)
      (fun same => other (congrArg Fin.val same)) valid sameSource sameClass
    exact refuse (spelt ▸ loadRoute_duplicate thawed inside held)
  case refine_3 =>
    refine ⟨fun frozen => refuse (if_pos frozen : loadPosture tag row _ s = _),
      fun thawed bad => refuse (loadPosture_badArg thawed (bad.imp_right fun bad => ?_)),
      fun outside => refuse (readPosture_badArg outside)⟩
    by_contra spelt
    have := postureRowOf_isSome (Option.isSome_iff_ne_none.mpr spelt)
    grind
  case refine_4 =>
    intro fits used
    have usedIff : s.dlc.state.inUse = true ↔ used := by
      cases h : s.dlc.state <;> simp [used, h, DockState.inUse]
    have fitsIff : sendFits node cls len payload = true ↔ fits := sendFits_iff
    exact ⟨fun unfit => refuse (sendDock_unfit (by simpa using mt fitsIff.mp unfit)),
      fun fit unused => refuse (sendDock_unused (fitsIff.mpr fit) (by simpa using mt usedIff.mp unused)),
      fun fit inUse full => refuse (sendDock_full (fitsIff.mpr fit) (usedIff.mpr inUse) full)⟩
  case refine_5 => exact refuse (answerDetach_wrongState h state)
  case refine_6 =>
    refine ⟨fun bad => refuse (configPen_badArg (mt penSetOf_isSome.mp (by omega))), fun on wakes staged => ?_⟩
    exact congrArg done (configPen_collision (penSetOf_isSome.mpr ⟨on, wakes⟩) staged)

end Sys2Proof.Machine
end

section
/-! PROOFS. The resets (O17). -/

namespace Sys2Proof.Machine

/-- The choice of a probe writes its count and its mark alone. -/
theorem Pcc.chooseProbe_eq (p : Pcc) : ∃ n b, p.chooseProbe = { p with silentCycles := n, probed := b } := by
  unfold Pcc.chooseProbe
  split
  · split
    · exact ⟨_, _, rfl⟩
    · exact ⟨_, _, rfl⟩
  · exact ⟨_, _, rfl⟩

/-- The next cycle writes the cycle's own fields of the PCC alone. -/
theorem runCycle_eq (s : State) : ∃ q, runCycle s = { s with pcc := q } ∧ q.active = s.pcc.active
    ∧ q.supply = s.pcc.supply ∧ q.staged = s.pcc.staged ∧ q.level = s.pcc.level ∧ q.state = s.pcc.state := by
  unfold runCycle
  split
  · exact ⟨_, rfl, rfl, rfl, rfl, rfl, rfl⟩
  · obtain ⟨n, b, chosen⟩ := s.pcc.chooseProbe_eq
    refine ⟨_, rfl, ?_⟩
    rw [Pcc.startCycle, chosen]
    exact ⟨rfl, rfl, rfl, rfl, rfl⟩

/-- The active pen set outlives a warm reset (R141). -/
theorem Pcc.active_of_warm (p : Pcc) : p.warm.active = p.active := by
  simp only [Pcc.warm, Pcc.clearWork, Pcc.closeSession]
  split <;> rfl

/-- Every block's own part of a warm reset, with the PCC's block named. -/
def warmBlocks (c : WarmCause) (q : Pcc) (s : State) : State :=
  { s with
    time := 0
    hlc := s.hlc.warm
    pse := s.pse.warm s.params
    tcl := s.tcl.warm
    dlc := Dlc.reset
    pcc := q
    sdu := Sdu.reset
    rqu := Rqu.warm c }

/-- A warm reset is its blocks' parts with the routes' actions and the idle timer; of the PCC the charge cycle that
starts last leaves what the reset names. -/
theorem warmReset_eq (c : WarmCause) (s : State) :
    ∃ q, warmReset c s = idleRestart (computeActions (warmBlocks c q s))
      ∧ q.active = s.pcc.active ∧ q.supply = .battery ∧ q.staged = none ∧ q.level = none
      ∧ q.state = if s.pcc.state = .off then .off else .searching := by
  obtain ⟨q, started, active, rest⟩ := runCycle_eq (idleRestart (computeActions (warmBlocks c s.pcc.warm s)))
  exact ⟨q, started, active.trans s.pcc.active_of_warm, rest⟩

/-- A warm reset keeps a route's host fields, resets its part fields and computes its action (R44). -/
theorem warmBlocks_route (c : WarmCause) (q : Pcc) (s : State) (i : Fin 64) :
    (computeActions (warmBlocks c q s)).tcl.routes[i] = { s.tcl.routes[i].warm with
      effective := effectiveAction (warmBlocks c q s) s.tcl.routes[i].warm } := by
  simp [computeActions, warmBlocks, Tcl.warm]

/-- Settles O17: a warm reset is its blocks' own parts, which the charge cycle started last does not touch. -/
theorem resetsReturnTheirState : Obligations.ResetsReturnTheirState := by
  intro s tag
  have urgent (c : WarmCause) : (warmReset c s).rqu.urgent = [warmStart c] := by
    obtain ⟨q, e, -⟩ := warmReset_eq c s
    rw [e]
    rfl
  refine ⟨rfl, _, _, rfl, rfl, ?_, rfl, urgent .pin, urgent .request, fun v either => ?_⟩
  · obtain ⟨q, e, -⟩ := warmReset_eq .pin s
    rw [e]
    rfl
  obtain ⟨c, r, rfl⟩ : ∃ c r, v = drivePins ((warmReset c s).onHlc fun h => { h with response := r }) := by
    rcases either with rfl | rfl
    · exact ⟨.pin, _, rfl⟩
    · exact ⟨.request, _, rfl⟩
  obtain ⟨q, e, active, supply, staged, level, state⟩ := warmReset_eq c s
  rw [e]
  refine ⟨rfl, rfl, rfl, rfl, rfl, rfl, rfl, ?_, rfl, fun i => ?_, rfl, rfl, rfl, active, supply, staged, level, state,
    rfl, rfl, rfl, rfl, rfl, rfl, rfl, rfl, rfl, rfl⟩
  · show s.hlc.transfer.warm = _
    cases s.hlc.transfer <;> simp [Transfer.warm]
  · have route : (drivePins ((idleRestart (computeActions (warmBlocks c q s))).onHlc fun h =>
        { h with response := r })).tcl.routes[i] = _ := warmBlocks_route c q s i
    rw [route]
    exact ⟨rfl, rfl, rfl, rfl, rfl, rfl⟩

end Sys2Proof.Machine
end

section
/-! PROOFS. The Posture Table (O24, O25): the bytes of a row that POSTURE_LOAD spells, the widened band, and the row
that an evaluation takes. -/

namespace Sys2Proof.Machine

/-! ## A row through POSTURE_LOAD and POSTURE_READ (O25) -/

theorem boolByte_of_flagOfCode {b : Byte} {v : Bool} (h : flagOfCode b = some v) : boolByte v = b := by
  unfold flagOfCode at h
  split at h <;> cases h <;> exact BitVec.eq_of_toNat_eq (by simp [boolByte, *])

theorem code_of_tablePosture {b : Byte} {p : TablePosture} (h : TablePosture.ofCode b = some p) :
    p.toPosture.code = b := by
  unfold TablePosture.ofCode at h
  split at h <;> cases h <;>
    exact BitVec.eq_of_toNat_eq (by simp [TablePosture.toPosture, Posture.code, Posture.index, natByte, *])

theorem code_of_faceCond {b : Byte} {c : FaceCond} (h : FaceCond.ofCode b = some c) : c.code = b := by
  unfold FaceCond.ofCode at h
  split at h <;> cases h <;> exact BitVec.eq_of_toNat_eq (by simp [FaceCond.code, *])

theorem code_of_hallCond {b : Byte} {c : HallCond} (h : HallCond.ofCode b = some c) : c.code = b := by
  unfold HallCond.ofCode at h
  split at h <;> cases h <;> exact BitVec.eq_of_toNat_eq (by simp [HallCond.code, *])

/-- A field's number is sent as the field's bytes. -/
theorem natBytes_toNat (w : Half) : natBytes w.toNat = halfBytes w := by
  simp [natBytes]

/-- Fields within their ranges spell a row, whose bytes are the fields (R23, R195). -/
theorem postureRowOf_bytes {valid posture angle : Byte} {low high : Half} {face lidHall foldHall : Byte} {settle : Half}
    (hv : valid.toNat ≤ 1) (hp : 1 ≤ posture.toNat) (hp' : posture.toNat ≤ 6) (ha : angle.toNat ≤ 1)
    (hl : low.toNat ≤ 3599) (hh : high.toNat ≤ 3599) (hf : face.toNat ≤ 3) (hlh : lidHall.toNat ≤ 2)
    (hfh : foldHall.toNat ≤ 2) (hs : settle.toNat ≤ 5000) :
    ∃ r, postureRowOf valid posture angle low high face lidHall foldHall settle = some r
      ∧ r.bytes = [valid, posture, angle] ++ halfBytes low ++ halfBytes high ++ [face, lidHall, foldHall]
        ++ halfBytes settle := by
  have named : posture ≠ 0 := by rintro rfl; simp at hp
  obtain ⟨v, ev⟩ := Option.isSome_iff_exists.mp (flagOfCode_isSome.mpr hv)
  obtain ⟨p, ep⟩ := Option.isSome_iff_exists.mp (tablePosture_isSome.mpr ⟨named, hp'⟩)
  obtain ⟨b, eb⟩ := Option.isSome_iff_exists.mp (flagOfCode_isSome.mpr ha)
  obtain ⟨f, ef⟩ := Option.isSome_iff_exists.mp (faceCond_isSome.mpr hf)
  obtain ⟨lh, elh⟩ := Option.isSome_iff_exists.mp (hallCond_isSome.mpr hlh)
  obtain ⟨fh, efh⟩ := Option.isSome_iff_exists.mp (hallCond_isSome.mpr hfh)
  simp only [postureRowOf, ev, ep, eb, ef, elh, efh, Option.bind_eq_bind, Option.bind_some, hl, hh, hs, and_self,
    if_true]
  refine ⟨_, rfl, ?_⟩
  simp only [PostureRow.bytes, natBytes_toNat, boolByte_of_flagOfCode ev, boolByte_of_flagOfCode eb,
    code_of_tablePosture ep, code_of_faceCond ef, code_of_hallCond elh, code_of_hallCond efh]

theorem rowIndex_of_lt {b : Byte} (h : b.toNat < 12) : rowIndex b = some ⟨b.toNat, h⟩ := dif_pos h

/-- A POSTURE_LOAD that its checks pass replaces the row and cancels a settle (R24). -/
theorem loadPosture_accepted {s : State} {row : Byte} (tag : Byte) (r : PostureRow) (thawed : s.hlc.frozen = false)
    (h : row.toNat < 12) : loadPosture tag row (some r) s = respond 0x18 tag .ok []
      { s with pse := { s.pse with rows := s.pse.rows.set row.toNat r h, settle := none } } := by
  simp only [loadPosture, thawed, Bool.false_eq_true, if_false, rowIndex_of_lt h]
  rfl

/-- POSTURE_READ of a row in range answers its bytes between the index and the evaluation record (R25). -/
theorem readPosture_row {s : State} {row : Byte} (tag : Byte) (h : row.toNat < 12) : readPosture tag row s
    = respond 0x19 tag .ok (row :: s.pse.rows[row.toNat].bytes ++ [s.posture.code] ++ settleBytes s.pse.settle) s := by
  simp only [readPosture, rowIndex_of_lt h]
  rfl

/-- Settles O25: the fields spell a row whose bytes they are, and POSTURE_READ answers the bytes of the row stored. -/
theorem postureRowReadsBack : Obligations.PostureRowReadsBack := by
  intro s tag tag' row valid posture angle low high face lidHall foldHall settle thawed h hv hp hp' ha hl hh hf hlh hfh hs
  obtain ⟨r, spelt, bytes⟩ := postureRowOf_bytes hv hp hp' ha hl hh hf hlh hfh hs
  refine ⟨r, _, ?_, rfl, ?_⟩
  · show done (loadPosture tag row _ s) = _
    rw [spelt, loadPosture_accepted tag r thawed h]
    rfl
  · show done (readPosture tag' row _) = _
    rw [readPosture_row tag' h]
    have stored : (s.pse.rows.set row.toNat r h)[row.toNat] = r := Vector.getElem_set_self h
    simp only [answered, drivePins_pse, stored, bytes, settleBytes, State.posture]
    rfl

/-! ## The widened band (R28, R29) -/

theorem inBand_iff {low high hf : Nat} : inBand low high hf = true ↔
    (low ≤ high ∧ low ≤ hf ∧ hf ≤ high) ∨ (high < low ∧ (low ≤ hf ∨ hf ≤ high)) := by
  unfold inBand
  split <;> simp <;> omega

/-- The widened band, with its ends brought back into the circle, or all of it (R29). -/
theorem inWideBand_cases {low high hyst hf : Nat} :
    inWideBand low high hyst hf = true ↔ 3600 ≤ bandSpan low high + 2 * hyst
      ∨ inBand ((low + 3600 - hyst) % 3600) ((high + hyst) % 3600) hf = true := by
  unfold inWideBand
  split <;> simp [*]

theorem circularDistance_le {a b n : Nat} (ha : a < 3600) (hb : b < 3600) : circularDistance a b ≤ n ↔
    (a ≤ b ∧ (b ≤ a + n ∨ a + 3600 ≤ b + n)) ∨ (b ≤ a ∧ (a ≤ b + n ∨ b + 3600 ≤ a + n)) := by
  simp only [circularDistance]
  omega

/-- The widened band holds the angles that lie within `hyst` of an angle of the loaded band: the gap that a full circle
leaves open is at most twice as wide. -/
theorem inWideBand_iff {low high hyst hf : Nat} (hl : low < 3600) (hh : high < 3600) (hy : hyst ≤ 200)
    (hhf : hf < 3600) :
    inWideBand low high hyst hf = true ↔ ∃ a < 3600, inBand low high a = true ∧ circularDistance a hf ≤ hyst := by
  rw [inWideBand_cases, inBand_iff]
  constructor
  · intro wide
    by_cases inside : inBand low high hf = true
    · exact ⟨hf, hhf, inside, by rw [circularDistance_le hhf hhf]; omega⟩
    · have near : circularDistance low hf ≤ hyst ∨ circularDistance high hf ≤ hyst := by
        rw [circularDistance_le hl hhf, circularDistance_le hh hhf]
        rw [inBand_iff] at inside
        unfold bandSpan at wide
        split at wide <;> omega
      rcases near with near | near
      · exact ⟨low, hl, by rw [inBand_iff]; omega, near⟩
      · exact ⟨high, hh, by rw [inBand_iff]; omega, near⟩
  · rintro ⟨a, ha, inside, near⟩
    rw [circularDistance_le ha hhf] at near
    rw [inBand_iff] at inside
    unfold bandSpan
    split <;> omega

/-! ## The row that an evaluation takes (R26, R30, R31) -/

theorem forcesSlate_iff (k : DockState) :
    k.forcesSlate = true ↔ k ∈ [DockState.absent, .sensed, .identifying, .faulted] := by
  cases k <;> decide

/-- The first matching row is one that matches with none before it. -/
theorem firstMatch_eq_some {s : State} {i : Fin 12} (matching : rowMatches s.pse.rows[i] s = true)
    (first : ∀ j : Fin 12, j < i → rowMatches s.pse.rows[j] s = false) : firstMatch s = some i := by
  refine List.find?_eq_some_iff_getElem.mpr ⟨matching, i.val, by simp, by simp, fun j before => ?_⟩
  simpa using first ⟨j, before.trans i.isLt⟩ (by simpa [Fin.lt_def] using before)

theorem firstMatch_eq_none {s : State} (no : ∀ j : Fin 12, rowMatches s.pse.rows[j] s = false) :
    firstMatch s = none :=
  List.find?_eq_none.mpr fun j _ => by simpa using no j

theorem evaluate_of_match {s : State} {i : Fin 12} (free : s.dlc.state.forcesSlate = false)
    (first : firstMatch s = some i) : evaluate s = settleRow i s := by
  simp [evaluate, free, first]

theorem evaluate_of_none {s : State} (free : s.dlc.state.forcesSlate = false) (none : firstMatch s = none) :
    evaluate s = cancelSettle s := by
  simp [evaluate, free, none]

/-- A row that names the committed posture cancels a settle (R31). -/
theorem settleRow_committed {s : State} {i : Fin 12} (same : s.pse.rows[i].posture.toPosture = s.posture) :
    settleRow i s = cancelSettle s := if_pos same

/-- A row that names the settling candidate changes nothing (R31). -/
theorem settleRow_candidate {s : State} {i : Fin 12} {c : Settle}
    (other : s.pse.rows[i].posture.toPosture ≠ s.posture) (settles : s.pse.settle = some c)
    (same : c.posture = s.pse.rows[i].posture) : settleRow i s = s := by
  simp only [settleRow, if_neg other, settles, Option.map_some, same, if_true]

/-- A row that names another posture than the committed one and than the candidate starts its settle, or with
settle 0 commits (R31). -/
theorem settleRow_new {s : State} {i : Fin 12} (other : s.pse.rows[i].posture.toPosture ≠ s.posture)
    (new : ∀ c, s.pse.settle = some c → c.posture ≠ s.pse.rows[i].posture) :
    settleRow i s = if s.pse.rows[i].settle = 0
      then commitPosture s.pse.rows[i].posture.toPosture .immediate (some i) (cancelSettle s)
      else s.onPse fun p => { p with settle := some ⟨s.pse.rows[i].posture, i, s.pse.rows[i].settle⟩ } := by
  have unsettled : s.pse.settle.map (·.posture) ≠ some s.pse.rows[i].posture := by
    cases h : s.pse.settle with
    | none => simp
    | some c => simpa using new c h
  simp only [settleRow, if_neg other, if_neg unsettled]

/-- The Posture Record and the settle. -/
abbrev pose (s : State) := (s.pse.record, s.pse.settle)

theorem blind_pose : Blind pose :=
  ⟨fun _ _ => rfl, fun _ _ => rfl, fun _ _ => rfl, fun _ _ => rfl, fun _ _ _ => rfl, fun _ _ => rfl, fun _ _ => rfl⟩

theorem recheckBlocked_pose (s : State) : pose (recheckBlocked s) = pose s := by
  unfold recheckBlocked
  split
  · split <;> rfl
  all_goals rfl

/-- A commit leaves the Posture Record as it is written first, and the settle (R33). -/
theorem commitPosture_pose (p : Posture) (c : CommitCause) (r : Option (Fin 12)) (s : State) :
    pose (commitPosture p c r s) = pose (writeCommit p c r s) := by
  simp only [commitPosture]
  rw [recheckBlocked_pose, BlindDock.readers (blind_pose.recompute _) (blind_pose.penAllowance blind_pose.place)
    (blind_pose.sleepOnCommit _ _), blind_pose.place]

/-- Settles O24, by the first matching row and the branches of its settle. -/
theorem evaluationTakesFirstRow : Obligations.EvaluationTakesFirstRow := by
  refine ⟨fun low high h hf hl hh hy hhf => inWideBand_iff hl hh hy hhf, fun s => ⟨fun forced => ?_, fun free => ?_⟩⟩
  · exact evaluate_of_forced ((forcesSlate_iff _).mpr forced)
  · have free : s.dlc.state.forcesSlate = false := by simpa using mt (forcesSlate_iff _).mp free
    refine ⟨fun i matching first => ?_, fun no => evaluate_of_none free (firstMatch_eq_none no)⟩
    rw [evaluate_of_match free (firstMatch_eq_some matching first)]
    refine ⟨settleRow_committed, fun other => ⟨fun c => settleRow_candidate other, fun new timed => ?_, fun new at0 => ?_⟩⟩
    · rw [settleRow_new other new, if_neg timed]
      rfl
    · rw [settleRow_new other new, if_pos at0]
      have written := congrArg Prod.fst (commitPosture_pose s.pse.rows[i].posture.toPosture .immediate (some i)
        (cancelSettle s))
      exact ⟨congrArg PostureRecord.posture written, congrArg PostureRecord.cause written,
        congrArg PostureRecord.row written⟩

end Sys2Proof.Machine
end

section
/-! PROOFS. What placing, waking and stirring leave alone. `Stable` allows every update of the SDU's and of the TCL's
block; here the updates are bounded by what the operations do: outside HOST_STATE the sleep state never crosses from
asleep to awake or back and WAKING stays, placing and waking do not reach the TCL and the DLC, and a recomputation writes
of a route entry its effective action and its overflow mark alone. -/

namespace Sys2Proof.Machine

/-! ## Placing, waking and activity -/

/-- A sleep state that waking or activity may lead to: none crosses between awake and asleep, and WAKING stays. -/
abbrev SleepState.leadsTo (old new : SleepState) : Prop := new.asleep = old.asleep ∧ (old = .waking → new = .waking)

/-- A predicate that placing, waking and activity carry over: these reach nothing but the URGENT lane with its gap count,
the Fault Summary, the PCC and, within `leadsTo`, the SDU. -/
structure Calm (P : State → Prop) : Prop where
  enter : ∀ b r s, urgentRoom s = true → P s → P (enterUrgent b r s)
  lose : Keeps P countUrgentLoss
  fault : ∀ k, Keeps P (noteFault k)
  pcc : ∀ f, Keeps P (State.onPcc f)
  sdu : ∀ f s, s.sdu.sleep.leadsTo (f s.sdu).sleep → P s → P (s.onSdu f)

theorem loseUrgentWith_keeps {P : State → Prop} {g : State → State} (lose : Keeps P countUrgentLoss) (hg : Keeps P g) :
    Keeps P (loseUrgentWith g) := by
  intro s hs
  unfold loseUrgentWith
  split
  · exact hg (lose hs)
  · exact lose hs

theorem placeSilent_keeps {P : State → Prop} (enter : ∀ r s, urgentRoom s = true → P s → P (enterUrgent false r s)) :
    PlacerHolds P placeSilent := by
  intro r s hs
  unfold placeSilent
  split
  · next room => exact enter r s room hs
  · exact hs

/-- A re-evaluation of allowance writes the PCC and places a record. -/
theorem penAllowance_keeps {P : State → Prop} {pl : Placer} (hp : PlacerHolds P pl)
    (pcc : ∀ f, Keeps P (State.onPcc f)) : Keeps P (penAllowance pl) := by
  intro s hs
  have charges : ∀ o, P (beginSession pl o s) := fun o => hp _ (pcc _ hs)
  unfold penAllowance
  split
  · split
    · exact hs
    · exact hp _ (pcc _ hs)
  · split
    · exact hs
    · split
      · exact hp _ (pcc _ hs)
      · exact charges _
  · split
    · split
      · exact charges _
      · exact hs
    · exact hs
  all_goals exact hs

/-- A change among the awake states hands nothing on (R152). -/
theorem sleepHandOn_awake (pl : Placer) {old new : SleepState} (ho : old.asleep = false) (hn : new.asleep = false)
    (s : State) : sleepHandOn pl old new s = s := by
  have quiet : ∀ t, suppressOn old new t = t := by
    intro t; cases new <;> simp_all [suppressOn, SleepState.asleep]
  have unnoticed : ∀ t, noticeOn old new t = t := by
    intro t; cases new <;> simp_all [noticeOn, SleepState.asleep]
  simp only [sleepHandOn, recomputeOn_same pl old new _ (ho.trans hn.symm), allowanceOn_awake pl old new _ ho hn, quiet,
    unnoticed, ite_self]

/-- The change from STANDBY to WAKING hands on allowance alone (R152). -/
theorem sleepHandOn_waking (pl : Placer) (s : State) : sleepHandOn pl .standby .waking s = penAllowance pl s := by
  have same : ∀ t, recomputeOn pl .standby .waking t = t := fun t => recomputeOn_same _ _ _ _ rfl
  simp [sleepHandOn, same, allowanceOn, suppressOn, noticeOn, SleepState.asleep]

/-- RESUME from an awake state is the SDU's update and its verdict (R142). -/
theorem resumeActive_eq {s : State} (awake : s.sdu.sleep.asleep = false) : resumeActive s
    = giveVerdict .resume .none s.sdu.sleep (s.onSdu fun u => { u with sleep := .active, advised := .none }) := by
  rw [resumeActive, changeSleep]
  exact sleepHandOn_awake place awake rfl _

/-- SLEEP advised from an awake state is the SDU's update and its verdict (R145, R146). -/
theorem adviseSleep_eq {s : State} (reason : Advice) (awake : s.sdu.sleep.asleep = false) : adviseSleep reason s
    = giveVerdict .sleep reason s.sdu.sleep
        (s.onSdu fun u => { u with sleep := .sleepAdvised, advised := reason }) := by
  rw [adviseSleep, changeSleep]
  exact sleepHandOn_awake place awake rfl _

theorem wakeWith_awake (pl : Placer) (k : WakeKind) {s : State} (awake : s.sdu.sleep.asleep = false) :
    wakeWith pl k s = s := by
  unfold wakeWith
  cases h : s.sdu.sleep <;> simp_all [SleepState.asleep]

namespace Calm

variable {P : State → Prop} (h : Calm P)
include h

/-- An update of the SDU that keeps the sleep state. -/
theorem sameSleep {f : Sdu → Sdu} {s} (hs : P s) (same : ∀ u, (f u).sleep = u.sleep := by intro; rfl) :
    P (s.onSdu f) := h.sdu f s (by rw [same]; exact ⟨rfl, id⟩) hs

theorem gatherAtOnce {pl : Placer} (hp : PlacerHolds P pl) : Keeps P (gatherAtOnce pl) := by
  intro s hs
  unfold Machine.gatherAtOnce
  split
  · exact hp _ (h.sameSleep hs)
  · exact hs

theorem wakeWith {pl : Placer} (hp : PlacerHolds P pl) (k) : Keeps P (wakeWith pl k) := by
  intro s hs
  have allowance := penAllowance_keeps hp h.pcc
  unfold Machine.wakeWith
  split
  · next standby =>
    have woken : P (gatherStart k (s.onSdu fun u => { u with sleep := .waking })) :=
      h.sameSleep (h.sdu _ s (by rw [standby]; exact ⟨rfl, fun _ => rfl⟩) hs)
    simp only [sleepHandOn_waking]
    split
    · exact allowance (h.gatherAtOnce hp woken)
    · exact h.gatherAtOnce hp (allowance woken)
  · split
    · split
      · exact hs
      · exact h.sameSleep hs
    · exact h.gatherAtOnce hp (h.sameSleep hs)
  all_goals exact hs

theorem placeQuiet : PlacerHolds P placeQuiet := by
  intro r s hs
  unfold Machine.placeQuiet placeWith
  split
  · next room => exact h.enter _ _ _ room hs
  · exact loseUrgentWith_keeps h.lose (h.fault _) hs

theorem raiseUrgentLoss : Keeps P raiseUrgentLoss :=
  Stable.raiseWith (placeSilent_keeps fun r s => h.enter _ r s) (h.wakeWith h.placeQuiet _) (h.fault _)

theorem place : PlacerHolds P place := by
  intro r s hs
  unfold Machine.place placeWith
  split
  · next room => exact h.enter _ _ _ room hs
  · exact loseUrgentWith_keeps h.lose h.raiseUrgentLoss hs

theorem wake (k) : Keeps P (wake k) := h.wakeWith h.place k

theorem raiseFault (k) : Keeps P (raiseFault k) := Stable.raiseWith h.place (h.wake _) (h.fault k)

theorem penAllowance : Keeps P (penAllowance Machine.place) := penAllowance_keeps h.place h.pcc

/-- The SDU's update to an awake state from an awake one, with its verdict. -/
theorem verdict {f : Sdu → Sdu} {s} (v r o) (awake : s.sdu.sleep.asleep = false) (still : (f s.sdu).sleep.asleep = false)
    (hs : P s) : P (giveVerdict v r o (s.onSdu f)) :=
  h.place _ (h.sdu f s ⟨still.trans awake.symm, fun w => by simp [w, SleepState.asleep] at awake⟩ hs)

theorem activity : Keeps P activity := by
  intro s hs
  unfold Machine.activity
  split
  · exact h.sameSleep hs
  iterate 2
    next sleep =>
      have awake : (idleRestart s).sdu.sleep.asleep = false := congrArg SleepState.asleep sleep
      rw [resumeActive_eq awake]
      exact h.verdict _ _ _ awake rfl (h.sameSleep hs)
  all_goals exact hs

theorem lidClosed : Keeps P lidClosed := by
  intro s hs
  have advised (awake : s.sdu.sleep.asleep = false) : P (adviseSleep .lidClosed (idleRestart s)) := by
    rw [adviseSleep_eq (s := idleRestart s) _ awake]
    exact h.verdict _ _ _ (s := idleRestart s) awake rfl (h.sameSleep hs)
  unfold Machine.lidClosed
  split
  iterate 2
    next sleep =>
      split
      · exact h.activity hs
      · exact advised (congrArg SleepState.asleep sleep)
  · next sleep =>
    split
    · exact h.activity hs
    · exact h.place _ (h.sameSleep (h.sameSleep hs))
  all_goals exact hs

theorem sleepOnCommit (a b) : Keeps P (sleepOnCommit a b) := by
  intro s hs
  have told : P (if b = .closed then Machine.lidClosed s else Machine.activity s) := by
    split
    · exact h.lidClosed hs
    · exact h.activity hs
  unfold Machine.sleepOnCommit
  simp only
  split
  · exact h.wake _ told
  · exact told

end Calm

/-! ## Recomputation -/

/-- An update of the TCL's block writes of a route entry nothing but its overflow mark. -/
abbrev TclRests (f : Tcl → Tcl) : Prop :=
  ∀ t (i : Fin 64), ∃ o, (f t).routes[i] = { t.routes[i] with overflow := o }

/-- A predicate that the updates of a recomputation carry over, its records apart: the stall's retry, the pool, and the
effective action that R54 gives at that moment. -/
structure Reread (P : State → Prop) : Prop where
  forward : ∀ r s, urgentRoom s = true → P s → P (enterUrgent true r s)
  tcl : ∀ f, TclRests f → Keeps P (State.onTcl f)
  act : ∀ (i : Fin 64) s, P s → P (s.onRoute i fun e => { e with effective := effectiveAction s s.tcl.routes[i] })
  drop : Keeps P dropHead

theorem TclRests.overflow (i : Fin 64) (o : Bool) :
    TclRests fun t => { t with routes := t.routes.set i { t.routes[i] with overflow := o } } := by
  intro t j
  dsimp only
  rw [routes_set_getElem]
  split
  · next e => exact ⟨o, by rw [e]⟩
  · exact ⟨_, rfl⟩

namespace Reread

variable {P : State → Prop} (h : Reread P)
include h

theorem pool (g : Tcl → List PoolSlot) : Keeps P (State.onTcl fun t => { t with pool := g t }) :=
  h.tcl _ fun _ _ => ⟨_, rfl⟩

theorem overflow (i o) : Keeps P (State.onRoute i fun e => { e with overflow := o }) := h.tcl _ (.overflow i o)

theorem poolEffect (i f b) : Keeps P (poolEffect i f b) := by
  intro s hs
  unfold Machine.poolEffect
  split
  · split
    · split
      · exact hs
      · split
        · exact h.pool _ hs
        · exact h.overflow _ _ hs
    · split
      · simp only; split
        · exact h.pool _ hs
        · exact h.overflow _ _ (h.pool _ hs)
      · exact hs
    · exact hs
  · exact hs

theorem endStall : Keeps P endStall := fun _ hs =>
  h.drop (h.tcl (fun t => { t with stall := none }) (fun _ _ => ⟨_, rfl⟩) hs)

theorem retryStall : Keeps P retryStall := by
  intro s hs
  unfold Machine.retryStall
  split
  · split
    · split
      · next room =>
        simp only [forwardRoom, Bool.and_eq_true] at room
        exact h.poolEffect _ _ _ (h.endStall (h.forward _ _ room.1 hs))
      · exact hs
    · exact h.endStall hs
  · exact hs

theorem retryIfChanged (b) : Keeps P (retryIfChanged b) := by
  intro s hs
  unfold Machine.retryIfChanged
  split
  · exact h.retryStall hs
  · exact hs

variable {pl : Placer} (hp : PlacerHolds P pl)
include hp

theorem releaseSlots (e c) : ∀ l, Keeps P (releaseSlots pl e c l)
  | [], _, hs => hs
  | _ :: rest, _, hs => releaseSlots e c rest (h.pool _ (hp _ hs))

theorem synthesize (c i) : Keeps P (synthesize pl c i) := by
  intro s hs
  unfold Machine.synthesize
  simp only
  split
  · exact h.overflow _ _ (hp _ (h.releaseSlots hp _ _ _ hs))
  · exact h.releaseSlots hp _ _ _ hs

theorem recomputeEntry (c i) : Keeps P (recomputeEntry pl c i) := by
  intro s hs
  simp only [Machine.recomputeEntry]
  split
  · exact hs
  · split
    · exact h.synthesize hp _ _ (h.act i s hs)
    · exact h.act i s hs

theorem recomputeWith (c) : Keeps P (recomputeWith pl c) :=
  fun _ hs => h.retryIfChanged _ (Stable.fold (fun i => h.recomputeEntry hp c i) _ hs)

omit hp in
theorem recompute (hp : PlacerHolds P place) (c) : Keeps P (recompute c) := h.recomputeWith hp c

end Reread

end Sys2Proof.Machine
end

section
/-! PROOFS. The settle timer's expiry (O23): the records of a command in their order as a stable predicate, the SDU's
block through placements and recomputations, and what activity, lid-close advice and a wake reason make of it. -/

namespace Sys2Proof.Machine

/-! ## The order of a command's records -/

/-- The URGENT lane is full. -/
abbrev laneFull (s : State) : Prop := 32 ≤ s.rqu.urgent.length

theorem laneFull_stable : Stable laneFull where
  enter _ _ s _ h := by simpa [laneFull, enterUrgent] using Nat.le_succ_of_le h
  lose _ h := h
  rqu f hf s h := by simpa only [laneFull, State.onRqu_rqu, hf.urgent] using h
  sdu _ _ h := h
  tcl _ _ _ h := h
  pcc _ _ h := h
  fault _ _ _ h := h
  unstall _ _ h := h
  notice _ _ h := h

/-- What `placesAmong` reads of a record. -/
abbrev Record.content (r : Record) : RecordKind × List Byte := (r.kind, r.payload)

/-- Behind the records `l` the lane holds `rs` in this order, others possibly among them, unless it is full. -/
abbrev placed (l rs : List Record) (s : State) : Prop :=
  l <+: s.rqu.urgent ∧ (s.rqu.urgent.length < 32 →
    (rs.map Record.content).Sublist ((s.rqu.urgent.drop l.length).map Record.content))

theorem placed_nil (s : State) : placed s.rqu.urgent [] s := ⟨List.prefix_rfl, fun _ => List.nil_sublist _⟩

theorem placed_of_full {l rs : List Record} {s : State} (behind : l <+: s.rqu.urgent) (full : laneFull s) :
    placed l rs s := ⟨behind, fun room => absurd full (Nat.not_le.mpr room)⟩

theorem placed_stable (l rs : List Record) : Stable (placed l rs) where
  enter b r s _ h := by
    refine ⟨h.1.trans (List.prefix_append _ _), fun room => ?_⟩
    have before := h.2 ((by simpa [enterUrgent] using room : _ + 1 < 32).trans' (Nat.lt_succ_self _))
    simp only [enterUrgent, State.onRqu_rqu, List.drop_append_of_le_length h.1.length_le, List.map_append]
    exact before.trans (List.sublist_append_left _ _)
  lose _ h := h
  rqu f hf s h := by simpa only [placed, State.onRqu_rqu, hf.urgent] using h
  sdu _ _ h := h
  tcl _ _ _ h := h
  pcc _ _ h := h
  fault _ _ _ h := h
  unstall _ _ h := h
  notice _ _ h := h

/-- A record that a command places joins those that it placed before: it finds room, or the lane is full. -/
theorem placed_place {l rs : List Record} {s : State} (h : placed l rs s) (r : Record) :
    placed l (rs ++ [r]) (place r s) := by
  by_cases room : s.rqu.urgent.length < 32
  · have lane := place_urgent (r := r) (s := s) room
    refine ⟨((placed_stable l rs).place r h).1, fun _ => ?_⟩
    rw [lane, List.drop_append_of_le_length h.1.length_le, List.map_append, List.map_append]
    exact (h.2 room).append (List.Sublist.refl _)
  · exact placed_of_full ((placed_stable l rs).place r h).1 (laneFull_stable.place r (Nat.not_lt.mp room))

/-! ## The SDU's block through placements and recomputations -/

theorem Reread.of_sdu (p : Sdu → Prop) : Reread fun s => p s.sdu :=
  ⟨fun _ _ _ h => h, fun _ _ _ h => h, fun _ _ h => h, fun _ h => h⟩

/-- A predicate on the sleep state that holds of every state that it leads to. -/
theorem Calm.of_sleep {p : SleepState → Prop} (leads : ∀ a b, a.leadsTo b → p a → p b) : Calm fun s => p s.sdu.sleep where
  enter _ _ _ _ h := h
  lose _ h := h
  fault _ _ h := h
  pcc _ _ h := h
  sdu _ _ := leads _ _

theorem asleep_calm (b : Bool) : Calm fun s => s.sdu.sleep.asleep = b := .of_sleep fun _ _ leads h => leads.1.trans h

theorem waking_calm : Calm fun s => s.sdu.sleep = .waking := .of_sleep fun _ _ leads h => leads.2 h

/-- A wake reason in STANDBY or WAKING leaves WAKING (R154). -/
theorem wake_waking (k : WakeKind) {s : State} (asleep : s.sdu.sleep.asleep = true) : (wake k s).sdu.sleep = .waking := by
  have h := waking_calm
  cases sleep : s.sdu.sleep
  case standby =>
    simp only [wake, wakeWith, sleep, sleepHandOn_waking]
    split
    · exact h.penAllowance (h.gatherAtOnce h.place (s := gatherStart k (s.onSdu _)) rfl)
    · exact h.gatherAtOnce h.place (h.penAllowance (s := gatherStart k (s.onSdu _)) rfl)
  case waking => exact h.wake k sleep
  all_goals simp [sleep, SleepState.asleep] at asleep

/-- The SDU's block stands as `u`, unless it is asleep and the lane full: a record lost there may hand it a wake reason
(R167, R189). -/
abbrev sduIs (u : Sdu) (s : State) : Prop := s.sdu = u ∨ (u.sleep.asleep = true ∧ laneFull s)

/-- While the SDU is awake a lost record tells it nothing. -/
theorem place_sdu_awake (r : Record) {s : State} (awake : s.sdu.sleep.asleep = false) : (place r s).sdu = s.sdu := by
  have raises : Keeps (fun t => t.sdu = s.sdu) raiseUrgentLoss :=
    Stable.raiseWith (placeSilent_keeps fun _ _ _ h => h)
      (fun t (h : t.sdu = s.sdu) => by rwa [wakeWith_awake _ _ (h ▸ awake)]) (fun _ h => h)
  unfold place placeWith
  split
  · rfl
  · exact loseUrgentWith_keeps (P := fun t => t.sdu = s.sdu) (fun _ h => h) raises rfl

theorem sduIs_place (u : Sdu) : PlacerHolds (sduIs u) place := by
  rintro r s (rfl | ⟨asleep, full⟩)
  · by_cases awake : s.sdu.sleep.asleep = false
    · exact .inl (place_sdu_awake r awake)
    · by_cases room : urgentRoom s = true
      · exact .inl (by rw [place, placeWith, if_pos room]; rfl)
      · exact .inr ⟨by simpa using awake,
          laneFull_stable.place r (by simpa [urgentRoom, Config.urgentRecords] using room)⟩
  · exact .inr ⟨asleep, laneFull_stable.place r full⟩

theorem sduIs_reread (u : Sdu) : Reread (sduIs u) where
  forward r s room h := h.imp_right fun ⟨asleep, full⟩ => ⟨asleep, laneFull_stable.enter _ r s room full⟩
  tcl _ _ _ h := h
  act _ _ h := h
  drop _ h := h

/-! ## What the readers of a commit keep -/

/-- A predicate that the TCL's and the PCC's reading of a commit carry over, and the orientation re-check behind them. -/
structure Handed (P : State → Prop) : Prop where
  recompute : ∀ c, Keeps P (recompute c)
  allowance : Keeps P (penAllowance place)
  pse : ∀ f, Keeps P (State.onPse f)

theorem Handed.and {P Q : State → Prop} (hP : Handed P) (hQ : Handed Q) : Handed fun s => P s ∧ Q s :=
  ⟨fun c _ h => ⟨hP.recompute c h.1, hQ.recompute c h.2⟩, fun _ h => ⟨hP.allowance h.1, hQ.allowance h.2⟩,
    fun f _ h => ⟨hP.pse f h.1, hQ.pse f h.2⟩⟩

theorem Stable.handed {P : State → Prop} (h : Stable P) (pse : ∀ f, Keeps P (State.onPse f)) : Handed P :=
  ⟨h.recompute, h.penAllowance h.place, pse⟩

theorem Calm.handed {P : State → Prop} (h : Calm P) (r : Reread P) (pse : ∀ f, Keeps P (State.onPse f)) : Handed P :=
  ⟨r.recompute h.place, h.penAllowance, pse⟩

/-- A predicate that a recomputation's updates and a placement carry over. -/
theorem Reread.handed {P : State → Prop} (h : Reread P) (hp : PlacerHolds P place)
    (pcc : ∀ f, Keeps P (State.onPcc f)) (pse : ∀ f, Keeps P (State.onPse f)) : Handed P :=
  ⟨h.recompute hp, penAllowance_keeps hp pcc, pse⟩

theorem sduIs_handed (u : Sdu) : Handed (sduIs u) :=
  (sduIs_reread u).handed (sduIs_place u) (fun _ _ h => h) fun _ _ h => h

theorem asleep_handed (b : Bool) : Handed fun s => s.sdu.sleep.asleep = b :=
  (asleep_calm b).handed (.of_sdu fun u => u.sleep.asleep = b) fun _ _ h => h

theorem waking_handed : Handed fun s => s.sdu.sleep = .waking :=
  waking_calm.handed (.of_sdu fun u => u.sleep = .waking) fun _ _ h => h

theorem recheckBlocked_keeps {P : State → Prop} (rearm : ∀ o, Keeps P (startRotSettle o)) :
    Keeps P recheckBlocked := by
  intro s hs
  unfold recheckBlocked
  split
  · split
    · exact rearm _ hs
    · exact hs
  all_goals exact hs

/-- The last of three readers leads from `P` to `Q` and the others carry both over: so do the three in any order. -/
theorem ReaderOrder.run_leads_last {P Q : State → Prop} {a b c : State → State} (ha : Keeps P a) (ha' : Keeps Q a)
    (hb : Keeps P b) (hb' : Keeps Q b) (hc : ∀ ⦃s⦄, P s → Q (c s)) (o : ReaderOrder) {s : State} (hs : P s) :
    Q (o.run a b c s) := by
  cases o
  · exact hc (hb (ha hs))
  · exact hb' (hc (ha hs))
  · exact hc (ha (hb hs))
  · exact ha' (hc (hb hs))
  · exact hb' (ha' (hc hs))
  · exact ha' (hb' (hc hs))

/-- A commit leads where the SDU's reading of it leads, in any order of the readers. -/
theorem commitPosture_leads {P Q : State → Prop} (hP : Handed P) (hQ : Handed Q) {p c r s}
    (recorded : P (place (postureRecord (writeCommit p c r s).pse.record) (writeCommit p c r s)))
    (sdu : ∀ ⦃t⦄, P t → Q (sleepOnCommit s.posture p t)) : Q (commitPosture p c r s) :=
  recheckBlocked_keeps (fun _ _ h => hQ.pse _ h) (ReaderOrder.run_leads_last (hP.recompute _)
    (hQ.recompute _) hP.allowance hQ.allowance sdu _ recorded)

/-! ## The SDU told of a commit -/

/-- The parameters of `s0`, its lane with `rs` placed behind, and the SDU as `u`. -/
abbrev toldSo (s0 : State) (rs : List Record) (u : Sdu) (s : State) : Prop :=
  s.params = s0.params ∧ placed s0.rqu.urgent rs s ∧ sduIs u s

theorem toldSo_place {s0 rs u s} (h : toldSo s0 rs u s) (r : Record) : toldSo s0 (rs ++ [r]) u (place r s) :=
  ⟨(blind_params.place r s).trans h.1, placed_place h.2.1 r, sduIs_place u r h.2.2⟩

theorem toldSo_handed (s0 rs u) : Handed (toldSo s0 rs u) :=
  ((blind_params.stable (· = s0.params)).handed fun _ _ h => h).and
    (((placed_stable _ rs).handed fun _ _ h => h).and (sduIs_handed u))

/-- An update of the SDU. -/
theorem toldSo_onSdu {s0 rs u s v} {f : Sdu → Sdu} (h : toldSo s0 rs u s) (e : f s.sdu = v) :
    toldSo s0 rs v (s.onSdu f) := ⟨h.1, h.2.1, .inl e⟩

/-- With the SDU awake its block is known. -/
theorem sdu_of_awake {u : Sdu} {s : State} (awake : u.sleep.asleep = false) (h : sduIs u s) : s.sdu = u :=
  h.resolve_right fun ⟨asleep, _⟩ => by simp [awake] at asleep

theorem holdCount_congr {s t : State} (h : t.sdu.holds = s.sdu.holds) : holdCount t = holdCount s := by
  simp only [holdCount, h]

/-- A FULL hold is claimed (R158). -/
theorem blocksLid_iff (s : State) :
    blocksLid s = true ↔ ∃ (i : Fin 8) (h : Hold), s.sdu.holds[i] = some h ∧ h.cls = .full := by
  simp only [blocksLid, List.any_eq_true, Vector.mem_toList_iff, Vector.mem_iff_getElem]
  constructor
  · rintro ⟨_, ⟨i, hi, rfl⟩, full⟩
    split at full
    · next h held => exact ⟨⟨i, hi⟩, h, held, by simpa using full⟩
    · contradiction
  · rintro ⟨i, h, held, full⟩
    exact ⟨some h, ⟨i.val, i.isLt, held⟩, by simpa using full⟩

theorem onSdu_congr {f g : Sdu → Sdu} {s : State} (h : f s.sdu = g s.sdu) : s.onSdu f = s.onSdu g :=
  congrArg (fun u => { s with sdu := u }) h

/-- Activity in ACTIVE restarts the idle timer alone (R142). -/
theorem activity_active {s : State} (sleep : s.sdu.sleep = .active) : activity s = s.onSdu (Sdu.stirred s.params) := by
  simp only [activity, sleep]
  exact onSdu_congr (by simp only [Sdu.stirred, sleep, Sdu.restarted])

/-- Activity in DROWSY and SLEEP_ADVISED resumes (R142). -/
theorem activity_resumes {s : State} (sleep : s.sdu.sleep = .drowsy ∨ s.sdu.sleep = .sleepAdvised) :
    activity s = giveVerdict .resume .none s.sdu.sleep (s.onSdu (Sdu.stirred s.params)) := by
  have awake : (idleRestart s).sdu.sleep.asleep = false := by
    rcases sleep with e | e <;> simp [idleRestart, e, SleepState.asleep]
  have resumed : activity s = resumeActive (idleRestart s) := by
    rcases sleep with e | e <;> simp only [activity, e]
  have stirred : (idleRestart s).onSdu (fun u => { u with sleep := .active, advised := .none })
      = s.onSdu (Sdu.stirred s.params) :=
    onSdu_congr (g := Sdu.stirred s.params) (s := s)
      (f := fun u => { u.restarted s.params with sleep := .active, advised := .none })
      (by rcases sleep with e | e <;> simp only [Sdu.stirred, e])
  rw [resumed, resumeActive_eq awake, stirred]
  rfl

theorem stirred_holds (p : Params) (u : Sdu) : (u.stirred p).holds = u.holds := by
  unfold Sdu.stirred
  split <;> rfl

/-- What an activity event makes of an SDU that is awake, and its verdict. -/
theorem activity_told {s0 rs s} (awake : s0.sdu.sleep.asleep = false) (h : toldSo s0 rs s0.sdu s) :
    toldSo s0 (rs ++ resumeVerdict s0) (s0.sdu.stirred s0.params) (activity s) := by
  have sdu := sdu_of_awake awake h.2.2
  have stirred : toldSo s0 rs (s0.sdu.stirred s0.params) (s.onSdu (Sdu.stirred s.params)) :=
    toldSo_onSdu h (by rw [sdu, h.1])
  by_cases active : s0.sdu.sleep = .active
  · rw [activity_active (by rw [sdu, active])]
    simpa [resumeVerdict, active] using stirred
  · have resumes : s0.sdu.sleep = .drowsy ∨ s0.sdu.sleep = .sleepAdvised := by
      cases e : s0.sdu.sleep <;> simp_all [SleepState.asleep]
    have count : holdCount (s.onSdu (Sdu.stirred s.params)) = holdCount s0 :=
      holdCount_congr (by rw [State.onSdu_sdu, stirred_holds, sdu])
    have sleep : (s.onSdu (Sdu.stirred s.params)).sdu.sleep = .active := by
      rw [State.onSdu_sdu, sdu]
      rcases resumes with e | e <;> simp only [Sdu.stirred, e]
    have told := toldSo_place stirred (verdictRecord .resume .none s0.sdu.sleep (s.onSdu (Sdu.stirred s.params)))
    rw [activity_resumes (by rwa [sdu]), giveVerdict, resumeVerdict, if_pos resumes, sdu]
    simp only [verdictRecord, count, sleep] at told ⊢
    exact told

/-- The SDU after lid-close advice (R143, R146). -/
abbrev Sdu.shut (p : Params) (u : Sdu) : Sdu := { u.restarted p with sleep := .sleepAdvised, advised := .lidClosed }

/-- A lid that closes with no FULL hold in an awake state is advice, also where it was advised before (R146). -/
theorem lidClosed_advises {s : State} (awake : s.sdu.sleep.asleep = false) (unheld : blocksLid s = false) :
    lidClosed s = giveVerdict .sleep .lidClosed s.sdu.sleep (s.onSdu (Sdu.shut s.params)) := by
  have advised := adviseSleep_eq (s := idleRestart s) .lidClosed awake
  cases sleep : s.sdu.sleep
  case active =>
    simp only [lidClosed, sleep, unheld, Bool.false_eq_true, if_false, advised]
    rw [show (idleRestart s).sdu.sleep = .active from sleep]
    rfl
  case drowsy =>
    simp only [lidClosed, sleep, unheld, Bool.false_eq_true, if_false, advised]
    rw [show (idleRestart s).sdu.sleep = .drowsy from sleep]
    rfl
  case sleepAdvised =>
    simp only [lidClosed, sleep, unheld, Bool.false_eq_true, if_false]
    refine congrArg (giveVerdict .sleep .lidClosed .sleepAdvised) ?_
    exact onSdu_congr (s := s) (f := fun u => { u.restarted s.params with advised := .lidClosed })
      (g := Sdu.shut s.params) (by simp only [Sdu.shut, Sdu.restarted, sleep])
  all_goals simp [sleep, SleepState.asleep] at awake

/-- A FULL hold makes a lid that closes an activity event (R146). -/
theorem lidClosed_held {s : State} (held : blocksLid s = true) : lidClosed s = activity s := by
  cases sleep : s.sdu.sleep <;> simp [lidClosed, activity, sleep, held]

theorem lidClosed_told {s0 rs s} (awake : s0.sdu.sleep.asleep = false) (unheld : blocksLid s0 = false)
    (h : toldSo s0 rs s0.sdu s) :
    toldSo s0 (rs ++ [partRecord .verdict [natByte (holdCount s0) <<< 4, 1, 1, 2, s0.sdu.sleep.code]])
      (s0.sdu.shut s0.params) (lidClosed s) := by
  have sdu := sdu_of_awake awake h.2.2
  have shut : toldSo s0 rs (s0.sdu.shut s0.params) (s.onSdu (Sdu.shut s.params)) :=
    toldSo_onSdu h (by rw [sdu, h.1])
  have count : holdCount (s.onSdu (Sdu.shut s.params)) = holdCount s0 := holdCount_congr (by rw [← sdu]; rfl)
  have told := toldSo_place shut (verdictRecord .sleep .lidClosed s0.sdu.sleep (s.onSdu (Sdu.shut s.params)))
  rw [lidClosed_advises (by rwa [sdu]) (by simpa only [blocksLid, sdu] using unheld), giveVerdict, sdu]
  simp only [verdictRecord, count] at told ⊢
  exact told

/-! ## The SDU told of a wake reason -/

/-- In a full lane whatever is told afterwards stands by its two escapes. -/
theorem toldSo_of_full {s0 rs u s} (params : s.params = s0.params) (behind : s0.rqu.urgent <+: s.rqu.urgent)
    (asleep : u.sleep.asleep = true) (full : laneFull s) : toldSo s0 rs u s :=
  ⟨params, placed_of_full behind full, .inr ⟨asleep, full⟩⟩

/-- The SDU with a gather started (R154, R155). -/
abbrev Sdu.gathering (k : WakeKind) (g : Nat) (u : Sdu) : Sdu :=
  { u with sleep := .waking, wakeList := [k], gatherTimer := some g }

/-- The end of a gather of length 0 at its start: the verdict names its one reason (R154, R156). -/
theorem gatherAtOnce_told {s0 rs s} (k : WakeKind) (starts : s0.sdu.startsGather = true)
    (h : toldSo s0 rs (s0.sdu.gathering k s0.params.wakeGather.toNat) s) :
    toldSo s0 (rs ++ wakeVerdict k s0) (s0.sdu.told k s0.params.wakeGather.toNat) (gatherAtOnce place s) := by
  obtain ⟨params, records, sdu⟩ := h
  have zero : s0.params.wakeGather = 0 ↔ s0.params.wakeGather.toNat = 0 := by bv_omega
  simp only [gatherAtOnce, params, wakeVerdict, starts, and_true, zero, Sdu.told, if_true]
  split
  · next atOnce =>
    let ended := s.onSdu fun u => { u with wakeList := [], gatherTimer := none }
    show toldSo s0 _ _ (place (wakeRecord s) ended)
    rcases sdu with sdu | ⟨asleep, full⟩
    · have told : toldSo s0 rs { s0.sdu with sleep := .waking, wakeList := [], gatherTimer := none } ended :=
        ⟨params, records, .inl (by simp only [ended, State.onSdu_sdu, sdu])⟩
      have record : wakeRecord s = partRecord .verdict [1 ||| (natByte (holdCount s0) <<< 4), k.code] := by
        have count : holdCount s = holdCount s0 := holdCount_congr (by rw [sdu])
        simp only [wakeRecord, sdu, count]
        rfl
      exact record ▸ toldSo_place told (wakeRecord s)
    · have behind := ((placed_stable _ rs).place (wakeRecord s) (s := ended) records).1
      exact toldSo_of_full ((blind_params.place _ _).trans params) behind rfl (laneFull_stable.place _ full)
  · exact ⟨params, by simpa using records, sdu⟩

/-- What a wake reason makes of an SDU that is asleep, and its verdict (R153 to R156). -/
theorem wake_told {s0 rs s} (k : WakeKind) (asleep : s0.sdu.sleep.asleep = true) (h : toldSo s0 rs s0.sdu s) :
    toldSo s0 (rs ++ wakeVerdict k s0) (s0.sdu.told k s0.params.wakeGather.toNat) (wake k s) := by
  obtain ⟨params, records, sdu⟩ := h
  rcases sdu with sdu | ⟨-, full⟩
  · have gathering : toldSo s0 rs (s0.sdu.gathering k s0.params.wakeGather.toNat)
        (gatherStart k (s.onSdu fun u => { u with sleep := .waking })) :=
      ⟨params, records, .inl (by simp only [gatherStart, State.onSdu_sdu, State.onSdu_params, sdu, params])⟩
    have handed := toldSo_handed s0 (rs ++ wakeVerdict k s0) (s0.sdu.told k s0.params.wakeGather.toNat)
    cases sleep : s0.sdu.sleep
    case standby =>
      have starts : s0.sdu.startsGather = true := by simp [Sdu.startsGather, sleep]
      simp only [wake, wakeWith, sdu, sleep, sleepHandOn_waking]
      split
      · exact handed.allowance (gatherAtOnce_told k starts gathering)
      · exact gatherAtOnce_told k starts ((toldSo_handed _ _ _).allowance gathering)
    case waking =>
      simp only [wake, wakeWith, sdu, sleep]
      cases gather : s0.sdu.gatherTimer with
      | none =>
        have starts : s0.sdu.startsGather = true := by simp [Sdu.startsGather, sleep, gather]
        exact gatherAtOnce_told k starts ⟨params, records, .inl (by
          simp only [gatherStart, State.onSdu_sdu, sdu, params, Sdu.gathering, ← sleep])⟩
      | some m =>
        have joins : s0.sdu.startsGather = false := by simp [Sdu.startsGather, sleep, gather]
        simp only [Option.isSome_some, if_true, Sdu.told, wakeVerdict, joins, Bool.false_eq_true, and_false, if_false,
          List.append_nil, sleep, true_and, List.contains_iff_mem]
        by_cases known : k ∈ s0.sdu.wakeList
        · simp only [known, not_true_eq_false, if_true, if_false]
          exact ⟨params, records, .inl sdu⟩
        · simp only [known, not_false_eq_true, if_true, if_false]
          exact ⟨params, records, .inl (by rw [State.onSdu_sdu, sdu, ← sleep])⟩
    all_goals simp [sleep, SleepState.asleep] at asleep
  · have behind := ((placed_stable _ rs).wake k records).1
    refine toldSo_of_full ((blind_params.wake k s).trans params) behind ?_ (laneFull_stable.wake k full)
    unfold Sdu.told
    split
    · rfl
    · split <;> exact asleep

/-! ## The settle timer's expiry (O23) -/

theorem exec_settleTimerExpiry {s : State} {c : Settle} (settles : s.pse.settle = some c) :
    exec .settleTimerExpiry s = .next (drivePins
      (commitPosture c.posture.toPosture .settled (some c.row) (cancelSettle s))) := by
  show done (match s.pse.settle with
    | some c => commitPosture c.posture.toPosture .settled (some c.row) (cancelSettle s)
    | none => s) = _
  rw [settles]
  rfl

/-- What the SDU makes of a commit while it is awake: lid-close advice for CLOSED with no FULL hold, else activity (R142,
R146). -/
theorem sleepOnCommit_awake {s : State} (old new : Posture) (awake : s.sdu.sleep.asleep = false) :
    sleepOnCommit old new s = if new = .closed ∧ blocksLid s = false then lidClosed s else activity s := by
  have still : ∀ {t}, t = lidClosed s ∨ t = activity s → t.sdu.sleep.asleep = false := by
    have h := asleep_calm false
    rintro t (rfl | rfl)
    · exact h.lidClosed awake
    · exact h.activity awake
  have told : (if new = .closed then lidClosed s else activity s)
      = if new = .closed ∧ blocksLid s = false then lidClosed s else activity s := by
    cases held : blocksLid s
    · simp
    · simp [lidClosed_held held]
  unfold sleepOnCommit
  simp only [told, wake]
  split
  · exact wakeWith_awake _ _ (still (by split <;> simp))
  · rfl

/-- What it makes of a commit while it is asleep: nothing but the wake reason LID_OPENED (R142, R146, R153). -/
theorem sleepOnCommit_asleep {s : State} (old new : Posture) (asleep : s.sdu.sleep.asleep = true) :
    sleepOnCommit old new s = if old = .closed ∧ new ≠ .closed then wake .lidOpened s else s := by
  have rests : lidClosed s = s ∧ activity s = s := by
    cases sleep : s.sdu.sleep <;> simp_all [lidClosed, activity, SleepState.asleep]
  simp [sleepOnCommit, rests]

theorem stirred_awake (p : Params) {u : Sdu} (awake : u.sleep.asleep = false) :
    (u.stirred p).sleep.asleep = false := by
  cases sleep : u.sleep <;> simp_all [Sdu.stirred, Sdu.restarted, SleepState.asleep]

/-- The first record of a command is there as soon as it is placed, and nothing takes it from its place. -/
theorem firstPlaced_of_prefix {r : Record} {s t : State}
    (h : hasRoom 1 s → s.rqu.urgent ++ stampAll s.time s.rqu.urgentGap [r] <+: t.rqu.urgent) : firstPlaced r s t :=
  fun room => (h room).imp fun _ e => e.symm

/-- A commit's POSTURE record is the first record that it places (R34). -/
theorem commitPosture_firstPlaced (p c r s) :
    firstPlaced (postureRecord (writeCommit p c r s).pse.record) s (commitPosture p c r s) := by
  refine firstPlaced_of_prefix fun room => ?_
  have stable := lanePrefix_stable (s.rqu.urgent
    ++ stampAll s.time s.rqu.urgentGap [postureRecord (writeCommit p c r s).pse.record])
  have handed := stable.handed fun _ _ h => h
  exact commitPosture_leads handed handed
    ((place_urgent (s := writeCommit p c r s) room) ▸ List.prefix_rfl) (stable.sleepOnCommit _ _)

/-- Settles O23: the Posture Record is written first and its record placed; the readers then carry over what stands, and
the SDU's reading makes of its block what the statement names. -/
theorem settleExpiryCommits : Obligations.SettleExpiryCommits := by
  intro s c settles old new record fullHold opened
  let written := writeCommit new .settled (some c.row) (cancelSettle s)
  let t := commitPosture new .settled (some c.row) (cancelSettle s)
  have record_eq : postureRecord written.pse.record = record := rfl
  have start : toldSo s [] s.sdu written := ⟨rfl, placed_nil s, .inl rfl⟩
  have recorded : toldSo s [record] s.sdu (place (postureRecord written.pse.record) written) :=
    record_eq ▸ toldSo_place start record
  have pose := commitPosture_pose new .settled (some c.row) (cancelSettle s)
  have leads {Q} (hQ : Handed Q) (sdu : ∀ ⦃t⦄, toldSo s [record] s.sdu t ∧ t.sdu.sleep.asleep = s.sdu.sleep.asleep →
      Q (sleepOnCommit old new t)) : Q t :=
    commitPosture_leads ((toldSo_handed s [record] s.sdu).and (asleep_handed _)) hQ
      ⟨recorded, (asleep_calm _).place _ (s := written) rfl⟩ sdu
  have beyond : BeyondCommit s written := ⟨rfl, rfl, rfl, rfl, rfl, rfl, rfl⟩
  have unheld : ¬ fullHold ↔ blocksLid s = false := by rw [← Bool.not_eq_true, blocksLid_iff]
  refine ⟨drivePins t, exec_settleTimerExpiry settles, congrArg Prod.fst pose, congrArg Prod.snd pose,
    ((beyondCommit_poised s).commitPosture beyond).pins, commitPosture_firstPlaced _ _ _ (cancelSettle s),
    fun awake shuts free => ?_, fun awake stirs => ?_, fun asleep room => ?_, fun asleep opens => ⟨?_, ?_⟩⟩
  · obtain ⟨-, records, sdu⟩ := leads (toldSo_handed s ([record] ++ _) (s.sdu.shut s.params)) fun t ⟨ht, still⟩ => by
      have held : blocksLid t = false := by simpa only [blocksLid, sdu_of_awake awake ht.2.2] using unheld.mp free
      rw [sleepOnCommit_awake _ _ (still.trans awake), if_pos ⟨shuts, held⟩]
      exact lidClosed_told awake (unheld.mp free) ht
    exact ⟨sdu_of_awake rfl sdu, records.2⟩
  · obtain ⟨-, records, sdu⟩ := leads (toldSo_handed s ([record] ++ _) (s.sdu.stirred s.params)) fun t ⟨ht, still⟩ => by
      rw [sleepOnCommit_awake _ _ (still.trans awake), if_neg]
      · exact activity_told awake ht
      · rintro ⟨shuts, free⟩
        rw [blocksLid, sdu_of_awake awake ht.2.2] at free
        exact unheld.mpr free (stirs.resolve_left (not_not_intro shuts))
    exact ⟨sdu_of_awake (stirred_awake _ awake) sdu, records.2⟩
  · have heard (u : Sdu) (h : sduIs u t) : t.sdu = u := h.resolve_right fun full => absurd full.2 (Nat.not_le.mpr room)
    by_cases opens : opened
    · rw [if_pos opens]
      exact heard _ (leads (sduIs_handed _) fun t ⟨ht, still⟩ => by
        rw [sleepOnCommit_asleep _ _ (still.trans asleep), if_pos opens]
        exact (wake_told .lidOpened asleep ht).2.2)
    · rw [if_neg opens]
      exact heard _ (leads (sduIs_handed _) fun t ⟨ht, still⟩ => by
        rw [sleepOnCommit_asleep _ _ (still.trans asleep), if_neg opens]
        exact ht.2.2)
  · exact leads waking_handed fun t ⟨ht, still⟩ => by
      rw [sleepOnCommit_asleep _ _ (still.trans asleep), if_pos opens]
      exact wake_waking _ (still.trans asleep)
  · have records := leads ((placed_stable s.rqu.urgent ([record] ++ _)).handed fun _ _ h => h) fun t ⟨ht, still⟩ => by
      rw [sleepOnCommit_asleep _ _ (still.trans asleep), if_pos opens]
      exact (wake_told .lidOpened asleep ht).2.1
    exact records.2

end Sys2Proof.Machine
end

section
/-! PROOFS. A change of dock state (R101) in full: what it carries over, the DLC's block that it leaves, the postures that
it forces, and so the outcome that `Transition` names. -/

namespace Sys2Proof.Machine

/-! ## What a change of dock state carries over -/

/-- A predicate that posture commits and the PSE's other updates carry over. -/
structure Posed (P : State → Prop) : Prop where
  pse : ∀ f, (∀ p, (f p).record = p.record) → Keeps P (State.onPse f)
  commit : ∀ p c r, Keeps P (commitPosture p c r)

namespace Posed

variable {P : State → Prop} (h : Posed P)
include h

/-- An update of the PSE that keeps the Posture Record. -/
theorem rest {f : Pse → Pse} {s} (hs : P s) (same : ∀ p, (f p).record = p.record := by intro; rfl) : P (s.onPse f) :=
  h.pse f same hs

theorem evaluate : Keeps P evaluate := by
  intro s hs
  unfold Machine.evaluate
  split
  · exact hs
  · split
    · simp only [settleRow]
      split
      · exact h.rest hs
      · split
        · exact hs
        · split
          · exact h.commit _ _ _ (h.rest hs)
          · exact h.rest hs
    · exact h.rest hs

theorem invalidateBase : Keeps P invalidateBase := by
  intro s hs
  rcases invalidateBase_eq s with e | e <;> rw [e]
  · exact h.rest hs
  · exact h.evaluate (h.rest (h.rest hs))

theorem postureOnDock (old) : Keeps P (postureOnDock old) := by
  intro s hs
  have cleared : P (if s.dlc.state.inUse then s else Machine.invalidateBase s) := by
    split
    · exact hs
    · exact h.invalidateBase hs
  unfold Machine.postureOnDock
  simp only
  split
  · split
    · exact cleared
    · exact h.commit _ _ _ (h.rest cleared)
  · split
    · exact h.evaluate (h.commit _ _ _ (h.rest cleared))
    · exact cleared

end Posed

/-- A predicate that the dock state machine and the link carry over, the TCL's re-enable apart. -/
structure Dockable (P : State → Prop) : Prop extends Posed P where
  calm : Calm P
  recompute : ∀ c, Keeps P (recompute c)
  dlc : ∀ f, (∀ d, (f d).state = d.state) → Keeps P (State.onDlc f)
  change : ∀ {new ev cause sdu}, (∀ Q, Calm Q → Keeps Q sdu) → Keeps P (changeDock new ev cause sdu)

/-- What a transition hands to the SDU stays within placing, waking and activity. -/
theorem calm_nothing (P : State → Prop) (_ : Calm P) : Keeps P nothing := fun _ hs => hs

theorem calm_wakeActivity (k : WakeKind) (P : State → Prop) (h : Calm P) : Keeps P fun s => activity (wake k s) :=
  fun _ hs => h.activity (h.wake k hs)

theorem Calm.changeDock {P : State → Prop} (h : Calm P) (recompute : Keeps P (recompute .dock)) (posed : Posed P)
    (dlc : ∀ f, Keeps P (State.onDlc f)) {new ev cause sdu} (hu : Keeps P sdu) :
    Keeps P (changeDock new ev cause sdu) := by
  intro s hs
  have posture := posed.postureOnDock s.dlc.state
  refine ReaderOrder.run_leads posture recompute recompute hu hu _ (dlc _ ?_)
  cases ev
  · exact dlc _ hs
  · exact h.place _ (dlc _ hs)

/-- A predicate that sees nothing of the PSE and the DLC. -/
theorem Calm.dockable {P : State → Prop} (h : Calm P) (recompute : ∀ c, Keeps P (recompute c))
    (pse : ∀ f, Keeps P (State.onPse f)) (dlc : ∀ f, Keeps P (State.onDlc f)) : Dockable P :=
  have handed : Handed P := ⟨recompute, h.penAllowance, pse⟩
  have posed : Posed P := ⟨fun f _ => pse f, fun _ _ _ _ hs =>
    commitPosture_leads handed handed (h.place _ (pse _ hs)) fun _ => h.sleepOnCommit _ _ (s := _)⟩
  { posed with
    calm := h
    recompute := recompute
    dlc := fun f _ => dlc f
    change := fun hu => h.changeDock (recompute _) posed dlc (hu P h) }

/-- The records that a command has placed. -/
theorem placed_dockable (l rs : List Record) : Dockable (placed l rs) :=
  have h := placed_stable l rs
  Calm.dockable ⟨h.enter, h.lose, fun _ _ hs => hs, h.pcc, fun f _ _ hs => h.sdu f hs⟩ h.recompute (fun _ _ hs => hs)
    fun _ _ hs => hs

theorem lanePrefix_dockable (l : List Record) : Dockable fun s => l <+: s.rqu.urgent :=
  have h := lanePrefix_stable l
  Calm.dockable ⟨h.enter, h.lose, fun _ _ hs => hs, h.pcc, fun f _ _ hs => h.sdu f hs⟩ h.recompute (fun _ _ hs => hs)
    fun _ _ hs => hs

theorem asleep_dockable (b : Bool) : Dockable fun s => s.sdu.sleep.asleep = b :=
  (asleep_calm b).dockable (asleep_handed b).recompute (fun _ _ hs => hs) fun _ _ hs => hs

theorem waking_dockable : Dockable fun s => s.sdu.sleep = .waking :=
  waking_calm.dockable waking_handed.recompute (fun _ _ hs => hs) fun _ _ hs => hs

/-! ## The DLC and the record of a change -/

/-- The DLC's block through a change of dock state: the old state left, the new one entered, its entry actions taken. -/
def Dlc.changed (p : Params) (new : DockState) (d : Dlc) : Dlc :=
  Dlc.entryActions p d.state (Dlc.enterState new d.leaveState)

theorem Dlc.changed_state (p : Params) (new : DockState) (d : Dlc) : (d.changed p new).state = new :=
  (Dlc.entryActions_state _ _ _).trans (Dlc.enterState_state _ _)

/-- Placing a record does not reach the DLC. -/
theorem dlc_calm (d : Dlc) : Calm fun s => s.dlc = d :=
  ⟨fun _ _ _ _ h => h, fun _ h => h, fun _ _ h => h, fun _ _ h => h, fun _ _ _ h => h⟩

/-- A change of dock state leads where the PSE's reading of it leads: until then the DLC's block is the one that the
change enters, and of the rest only what `Beyond` leaves open has moved. -/
theorem changeDock_leads {Q : State → Prop} (hQ : Stable Q) {new ev cause sdu s} (hu : ∀ P, Stable P → Keeps P sdu)
    (reads : ∀ t, Beyond (s.onDlc (Dlc.changed s.params new)) t → Q (postureOnDock s.dlc.state t)) :
    Q (changeDock new ev cause sdu s) := by
  let s1 := s.onDlc fun d => Dlc.enterState new d.leaveState
  let w := s.onDlc (Dlc.changed s.params new)
  have recorded : ∀ t, (t = s1 ∨ ∃ r, t = place r s1) → Beyond s1 t ∧ t.dlc = s1.dlc := by
    rintro t (rfl | ⟨r, rfl⟩)
    · exact ⟨.refl _, rfl⟩
    · exact ⟨(beyond_stable s1).place r (.refl _), (dlc_calm _).place r (s := s1) rfl⟩
  have acted : ∀ t, (t = s1 ∨ ∃ r, t = place r s1) →
      Beyond w (t.onDlc fun d => Dlc.entryActions s.params s.dlc.state d) := by
    intro t ht
    obtain ⟨b, d⟩ := recorded t ht
    refine ⟨b.time, b.params, b.link, b.pse, ?_, b.choices, b.pending⟩
    rw [State.onDlc_dlc, d]
    rfl
  refine ReaderOrder.run_leads reads ((beyond_stable w).recompute _) (hQ.recompute _) (hu _ (beyond_stable w)) (hu _ hQ) _
    (acted _ ?_)
  cases ev
  · exact .inl rfl
  · exact .inr ⟨_, rfl⟩

/-- What holds with the record of a change placed holds of the whole change. -/
theorem changeDock_of_recorded {P : State → Prop} (h : Dockable P) {new e cause sdu s} (hu : Keeps P sdu)
    (recorded : P (place (dockRecord e s.dlc.state cause (Dlc.enterState new s.dlc.leaveState))
      (s.onDlc fun d => Dlc.enterState new d.leaveState))) : P (changeDock new (some e) cause sdu s) :=
  ReaderOrder.run_leads (h.postureOnDock s.dlc.state) (h.recompute _) (h.recompute _) hu hu _
    (h.dlc _ (Dlc.entryActions_state _ _) recorded)

/-- A change of dock state places its record behind those of its command (R101). -/
theorem changeDock_placed {l rs : List Record} {new e cause sdu s} (hu : ∀ Q, Calm Q → Keeps Q sdu)
    (h : placed l rs s) : placed l (rs ++ [dockRecord e s.dlc.state cause (Dlc.enterState new s.dlc.leaveState)])
      (changeDock new (some e) cause sdu s) :=
  have kept := placed_dockable l (rs ++ [dockRecord e s.dlc.state cause (Dlc.enterState new s.dlc.leaveState)])
  changeDock_of_recorded kept (hu _ kept.calm)
    (placed_place (s := s.onDlc fun d => Dlc.enterState new d.leaveState) h _)

/-- The record of a change of dock state is the first that it places. -/
theorem changeDock_behind {new e cause sdu s} (hu : ∀ Q, Calm Q → Keeps Q sdu) (room : hasRoom 1 s) :
    s.rqu.urgent ++ stampAll s.time s.rqu.urgentGap
        [dockRecord e s.dlc.state cause (Dlc.enterState new s.dlc.leaveState)]
      <+: (changeDock new (some e) cause sdu s).rqu.urgent :=
  have kept := lanePrefix_dockable (s.rqu.urgent ++ stampAll s.time s.rqu.urgentGap
    [dockRecord e s.dlc.state cause (Dlc.enterState new s.dlc.leaveState)])
  changeDock_of_recorded kept (hu _ kept.calm)
    (place_urgent (s := s.onDlc fun d => Dlc.enterState new d.leaveState) room ▸ List.prefix_rfl)

/-! ## The postures that a change forces (R36, R37) -/

/-- The PSE with the base vector's mark cleared and no face (R5, R14). -/
abbrev Pse.unbased (p : Pse) : Pse := { p with baseValid := false, pairTimer := none, face := .none }

/-- While the dock state forces SLATE the base vector's mark is cleared without an evaluation. -/
theorem invalidateBase_forced {s : State} (forced : s.dlc.state.forcesSlate = true) :
    invalidateBase s = s.onPse Pse.unbased := by
  unfold invalidateBase setFace
  split
  · next same =>
    have face : s.pse.face = .none := same
    simp only [State.onPse, Pse.unbased, face]
  · exact evaluate_of_forced forced

/-- Clearing the base vector's mark stays, of the PSE, within its senses. -/
theorem invalidateBase_beyond (s : State) : BeyondCommit (s.onPse Pse.unbased) (invalidateBase s) :=
  setFace_keeps (beyondCommit_poised _) (.refl _)

/-- The Posture Record after the forced UNKNOWN, which one immediate commit may follow (R37). -/
abbrev forcedUnknown (r : PostureRecord) (t : State) : Prop :=
  (t.pse.record.posture = .unknown ∧ t.pse.record.previous = r.posture ∧ t.pse.record.sequence = r.sequence + 1
      ∧ t.pse.record.cause = .dockForced)
    ∨ (t.pse.record.previous = .unknown ∧ t.pse.record.sequence = r.sequence + 2 ∧ t.pse.record.cause = .immediate)

theorem commitPosture_record (p c r s) : (commitPosture p c r s).pse.record = (writeCommit p c r s).pse.record :=
  congrArg Prod.fst (commitPosture_pose p c r s)

/-- An evaluation keeps the Posture Record or commits once (R31). -/
theorem evaluate_record (s : State) : (evaluate s).pse.record = s.pse.record
    ∨ ∃ p r, (evaluate s).pse.record = (writeCommit p .immediate r s).pse.record := by
  unfold evaluate
  split
  · exact .inl rfl
  · split
    · simp only [settleRow]
      split
      · exact .inl rfl
      · split
        · exact .inl rfl
        · split
          · exact .inr ⟨_, _, commitPosture_record _ _ _ (cancelSettle s)⟩
          · exact .inl rfl
    · exact .inl rfl

/-- The forced UNKNOWN with the evaluation behind it. -/
theorem evaluate_forcedUnknown (s : State) :
    forcedUnknown s.pse.record (evaluate (commitPosture .unknown .dockForced none (cancelSettle s))) := by
  have committed := commitPosture_record .unknown .dockForced none (cancelSettle s)
  rcases evaluate_record (commitPosture .unknown .dockForced none (cancelSettle s)) with e | ⟨p, r, e⟩
  · rw [forcedUnknown, e, committed]
    exact .inl ⟨rfl, rfl, rfl, rfl⟩
  · rw [forcedUnknown, e]
    refine .inr ⟨congrArg PostureRecord.posture committed, ?_, rfl⟩
    have sequence : _ = s.pse.record.sequence + 1 := congrArg PostureRecord.sequence committed
    show (commitPosture .unknown .dockForced none (cancelSettle s)).pse.record.sequence + 1 = _
    rw [sequence, BitVec.add_assoc]
    rfl

/-- A forced commit with what may follow it stays, of the PSE, within its senses. -/
theorem commit_beyond {s t : State} (b : BeyondCommit s t) (p r) :
    BeyondCommit s (commitPosture p .dockForced r (cancelSettle t)) :=
  (beyondCommit_poised s).commitPosture ⟨b.time, b.params, b.link, b.senses, b.dock, b.choices, b.pending⟩

/-- The PSE's reading of a change of dock state stays within its senses but for the base vector's mark and the face, which
only an attached base keeps (R5, R14). -/
theorem postureOnDock_beyond (old : DockState) (s : State) :
    BeyondCommit (if s.dlc.state.inUse then s else s.onPse Pse.unbased) (postureOnDock old s) := by
  have cleared : BeyondCommit (if s.dlc.state.inUse then s else s.onPse Pse.unbased)
      (if s.dlc.state.inUse then s else invalidateBase s) := by
    split
    · exact .refl s
    · exact invalidateBase_beyond s
  simp only [postureOnDock]
  generalize (if s.dlc.state.inUse then s else s.onPse Pse.unbased) = u at cleared ⊢
  generalize (if s.dlc.state.inUse then s else invalidateBase s) = s1 at cleared ⊢
  split
  · split
    · exact cleared
    · exact commit_beyond cleared _ _
  · split
    · exact (beyondCommit_poised _).evaluate (commit_beyond cleared _ _)
    · exact cleared

/-- The PSE's reading of a change to a state that forces SLATE (R36). -/
theorem postureOnDock_forced {old : DockState} {s : State} (forced : s.dlc.state.forcesSlate = true) :
    postureOnDock old s = if old.forcesSlate then s.onPse Pse.unbased
      else commitPosture .slate .dockForced none (cancelSettle (s.onPse Pse.unbased)) := by
  have unused : s.dlc.state.inUse = false := by
    revert forced; cases s.dlc.state <;> decide
  simp only [postureOnDock, unused, forced, Bool.false_eq_true, if_false, if_true, invalidateBase_forced forced]

/-- The PSE's reading of a change to ATTACHED from another state (R37). -/
theorem postureOnDock_attached {old : DockState} {s : State} (attached : s.dlc.state = .attached)
    (other : old ≠ .attached) :
    postureOnDock old s = evaluate (commitPosture .unknown .dockForced none (cancelSettle s)) := by
  simp [postureOnDock, attached, other, DockState.inUse, DockState.forcesSlate]

/-! ## The outcome of a change -/

/-- What survives all that `Beyond` leaves open is stable. -/
theorem Stable.of_beyond {P : State → Prop} (h : ∀ s t, Beyond s t → P s → P t) : Stable P where
  enter b r s room := h s _ ((beyond_stable s).enter b r s room (.refl s))
  lose s := h s _ ((beyond_stable s).lose (.refl s))
  rqu f hf s := h s _ ((beyond_stable s).rqu f hf (.refl s))
  sdu f s := h s _ ((beyond_stable s).sdu f (.refl s))
  tcl f hf s := h s _ ((beyond_stable s).tcl f hf (.refl s))
  pcc f s := h s _ ((beyond_stable s).pcc f (.refl s))
  fault k hk s := h s _ ((beyond_stable s).fault k hk (.refl s))
  unstall s stalled := h s _ ((beyond_stable s).unstall s stalled (.refl s))
  notice s used := h s _ ((beyond_stable s).notice s used (.refl s))

theorem Transition.beyond {s t t' : State} {d : Dlc} (h : Transition s d t) (b : Beyond t t') : Transition s d t' where
  time := b.time.trans h.time
  params := b.params.trans h.params
  link := b.link.trans h.link
  choices := b.choices.trans h.choices
  pending := b.pending.trans h.pending
  dock := b.dock.trans h.dock
  senses := by rw [b.pse]; exact h.senses
  slate := by rw [b.pse]; exact h.slate
  kept := by rw [b.pse]; exact h.kept
  unknown := by rw [b.pse]; exact h.unknown

/-- The same transition told of a state that differs from its first only in what `Beyond` leaves open, and of a DLC that
differs only in what `Dlc.rest` leaves out. -/
theorem Transition.from {s s' t : State} {d d' : Dlc} (h : Transition s d t) (b : Beyond s' s) (rest : d.rest = d'.rest) :
    Transition s' d' t := by
  have state : d.state = d'.state := (congrArg Dlc.state rest :)
  have before : s.dlc.state = s'.dlc.state := (congrArg Dlc.state b.dock :)
  exact
    { time := h.time.trans b.time
      params := h.params.trans b.params
      link := h.link.trans b.link
      choices := h.choices.trans b.choices
      pending := h.pending.trans b.pending
      dock := h.dock.trans rest
      senses := by rw [← b.pse, ← state]; exact h.senses
      slate := by rw [← b.pse, ← b.time, ← state, ← before]; exact h.slate
      kept := by rw [← b.pse, ← state, ← before]; exact h.kept
      unknown := by rw [← b.pse, ← state, ← before]; exact h.unknown }

/-- The PSE's reading of a change of dock state, with the change's other parts done, is its outcome. -/
theorem postureOnDock_transition {s t : State} {d : Dlc} (b : Beyond { s with dlc := d } t) :
    Transition s d (postureOnDock s.dlc.state t) := by
  have state : t.dlc.state = d.state := (congrArg Dlc.state b.dock :)
  have read := postureOnDock_beyond s.dlc.state t
  have pse : (if t.dlc.state.inUse then t else t.onPse Pse.unbased).pse
      = if d.state.inUse then s.pse else s.pse.unbased := by
    rw [state]
    split
    · exact b.pse
    · exact congrArg Pse.unbased b.pse
  have beside : besidePse (if t.dlc.state.inUse then t else t.onPse Pse.unbased) = besidePse t := by
    split <;> rfl
  obtain ⟨sides, senses⟩ := (beyondCommit_iff _ _).mp read
  have whole := sides.trans (beside.trans ((beyond_iff _ _).mp b).1)
  simp only [besidePse, Prod.mk.injEq] at whole
  obtain ⟨time, params, link, dock, choices, pending⟩ := whole
  refine ⟨time, params, link, choices, pending, dock, senses.trans (congrArg Pse.senses pse), fun forced free => ?_,
    fun forced was => ?_, fun attached other => ?_⟩
  · rw [postureOnDock_forced (by rwa [state]), free]
    have pose := commitPosture_pose .slate .dockForced none (cancelSettle (t.onPse Pse.unbased))
    refine ⟨congrArg Prod.snd pose, (congrArg Prod.fst pose).trans ?_⟩
    show PostureRecord.mk _ t.pse.record.posture (t.pse.record.sequence + 1) t.time t.pse.hf t.pse.hinge _ _ = _
    rw [b.pse, b.time]
  · rw [postureOnDock_forced (by rwa [state]), if_pos was]
    show t.pse.record = s.pse.record
    rw [b.pse]
  · rw [postureOnDock_attached (state.trans attached) other]
    rcases evaluate_forcedUnknown t with ⟨posture, -, sequence, cause⟩ | committed
    · exact .inl ⟨posture, by rw [sequence, b.pse], cause⟩
    · rw [b.pse] at committed
      exact .inr committed

/-- A change of dock state has the outcome that `Transition` names. -/
theorem changeDock_transition {new ev cause sdu} (hu : ∀ P, Stable P → Keeps P sdu) (s : State) :
    Transition s (s.dlc.changed s.params new) (changeDock new ev cause sdu s) :=
  changeDock_leads (.of_beyond fun _ _ b h => h.beyond b) hu fun _ => postureOnDock_transition

/-- A change to ATTACHED from another state leaves the forced UNKNOWN or one immediate commit behind it. -/
theorem changeDock_attached {ev cause sdu} (hu : ∀ P, Stable P → Keeps P sdu) {s : State}
    (other : s.dlc.state ≠ .attached) :
    forcedUnknown s.pse.record (changeDock .attached ev cause sdu s) :=
  changeDock_leads (.of_beyond fun _ _ b h => by rwa [forcedUnknown, b.pse]) hu fun t b => by
    have state : t.dlc.state = .attached :=
      (congrArg Dlc.state b.dock :).trans (Dlc.changed_state s.params .attached s.dlc)
    have unknown := evaluate_forcedUnknown t
    rw [b.pse] at unknown
    rwa [postureOnDock_attached state other]

end Sys2Proof.Machine
end

section
/-! PROOFS. Route entries through placing, recomputation, commits and changes of dock state: of an entry these write the
effective action and the overflow mark alone, and after a recomputation the stored action is the one of R54. So too for
the re-enable after a node 0 restart (R52). -/

namespace Sys2Proof.Machine

/-! ## An entry and its effective action -/

theorem onRoute_routes (i j : Fin 64) (f : RouteEntry → RouteEntry) (s : State) :
    (s.onRoute i f).tcl.routes[j] = if i = j then f s.tcl.routes[j] else s.tcl.routes[j] := by
  simp only [State.onRoute, State.onTcl_tcl, routes_set_getElem]
  split
  · next e => rw [e]
  · rfl

/-- The entry at an index stands as `e` but for its effective action and its overflow mark. -/
abbrev entryIs (e : RouteEntry) (i : Fin 64) (s : State) : Prop :=
  ∃ a o, s.tcl.routes[i] = { e with effective := a, overflow := o }

/-- The stored effective action of an entry is the one that R54 gives (R55). -/
abbrev fresh (i : Fin 64) (s : State) : Prop := s.tcl.routes[i].effective = effectiveAction s s.tcl.routes[i]

/-- What R54 reads of the state beside the entry. -/
theorem effectiveAction_congr {s t : State} (used : t.dlc.state.inUse = s.dlc.state.inUse)
    (posture : t.posture = s.posture) (sleep : t.sdu.sleep.asleep = s.sdu.sleep.asleep) (e : RouteEntry) :
    effectiveAction t e = effectiveAction s e := by
  simp only [effectiveAction, used, posture, sleep]

theorem fresh_congr {i : Fin 64} {s t : State} (tcl : t.tcl = s.tcl) (used : t.dlc.state.inUse = s.dlc.state.inUse)
    (posture : t.posture = s.posture) (sleep : t.sdu.sleep.asleep = s.sdu.sleep.asleep) (h : fresh i s) : fresh i t := by
  rwa [fresh, effectiveAction_congr used posture sleep, tcl]

theorem entryIs_calm (e : RouteEntry) (i : Fin 64) : Calm (entryIs e i) :=
  ⟨fun _ _ _ _ h => h, fun _ h => h, fun _ _ h => h, fun _ _ h => h, fun _ _ _ h => h⟩

theorem entryIs_reread (e : RouteEntry) (i : Fin 64) : Reread (entryIs e i) where
  forward _ _ _ h := h
  tcl f hf s := by
    rintro ⟨a, o, h⟩
    obtain ⟨o', h'⟩ := hf s.tcl i
    exact ⟨a, o', by rw [State.onTcl_tcl, h', h]⟩
  act j s := by
    rintro ⟨a, o, h⟩
    rw [entryIs, onRoute_routes, h]
    split
    · exact ⟨_, _, rfl⟩
    · exact ⟨_, _, rfl⟩
  drop _ h := h

theorem fresh_calm (i : Fin 64) : Calm (fresh i) where
  enter _ _ _ _ h := h
  lose _ h := h
  fault _ _ h := h
  pcc _ _ h := h
  sdu _ s leads h := fresh_congr (s := s) rfl rfl rfl leads.1 h

theorem fresh_reread (i : Fin 64) : Reread (fresh i) where
  forward _ _ _ h := h
  tcl f hf s h := by
    obtain ⟨o, e⟩ := hf s.tcl i
    rw [fresh, State.onTcl_tcl, e]
    exact h
  act j s h := by
    rw [fresh, onRoute_routes]
    split
    · next e => subst e; rfl
    · exact h
  drop _ h := h

theorem Calm.and {P Q : State → Prop} (hP : Calm P) (hQ : Calm Q) : Calm fun s => P s ∧ Q s where
  enter b r s room h := ⟨hP.enter b r s room h.1, hQ.enter b r s room h.2⟩
  lose _ h := ⟨hP.lose h.1, hQ.lose h.2⟩
  fault k _ h := ⟨hP.fault k h.1, hQ.fault k h.2⟩
  pcc f _ h := ⟨hP.pcc f h.1, hQ.pcc f h.2⟩
  sdu f s leads h := ⟨hP.sdu f s leads h.1, hQ.sdu f s leads h.2⟩

theorem Reread.and {P Q : State → Prop} (hP : Reread P) (hQ : Reread Q) : Reread fun s => P s ∧ Q s where
  forward r s room h := ⟨hP.forward r s room h.1, hQ.forward r s room h.2⟩
  tcl f hf _ h := ⟨hP.tcl f hf h.1, hQ.tcl f hf h.2⟩
  act i s h := ⟨hP.act i s h.1, hQ.act i s h.2⟩
  drop _ h := ⟨hP.drop h.1, hQ.drop h.2⟩

/-- The entry stands as `e`, with its action as R54 gives it. -/
abbrev entryFresh (e : RouteEntry) (i : Fin 64) (s : State) : Prop := entryIs e i s ∧ fresh i s

theorem entryFresh_calm (e i) : Calm (entryFresh e i) := (entryIs_calm e i).and (fresh_calm i)
theorem entryFresh_reread (e i) : Reread (entryFresh e i) := (entryIs_reread e i).and (fresh_reread i)

/-! ## A recomputation brings every valid entry up to date (R55) -/

/-- A valid entry's own part in a recomputation. -/
theorem recomputeEntry_fresh {e : RouteEntry} (valid : e.valid = true) (c : SynthCause) {i : Fin 64} {s : State}
    (h : entryIs e i s) : entryFresh e i (recomputeEntry place c i s) := by
  refine ⟨(entryIs_reread e i).recomputeEntry (entryIs_calm e i).place c i h, ?_⟩
  obtain ⟨a, o, read⟩ := h
  have valid : s.tcl.routes[i].valid = true := by rw [read]; exact valid
  have written : fresh i (s.onRoute i fun e => { e with effective := effectiveAction s s.tcl.routes[i] }) := by
    rw [fresh, onRoute_routes, if_pos rfl]
    rfl
  simp only [recomputeEntry]
  split
  · next same =>
    simp only [valid, Bool.not_true, Bool.false_or, decide_eq_true_eq] at same
    exact same.symm
  · split
    · exact (fresh_reread i).synthesize (fresh_calm i).place _ _ written
    · exact written

/-- A fold over distinct indices leads where the step at one of them leads, if the steps at the others carry over. -/
theorem foldl_leads {β : Type} {P Q : State → Prop} {f : State → β → State} {b : β} (leads : ∀ s, P s → Q (f s b))
    (before : ∀ c, c ≠ b → Keeps P (f · c)) (behind : ∀ c, c ≠ b → Keeps Q (f · c)) :
    ∀ {l : List β}, b ∈ l → l.Nodup → ∀ {s}, P s → Q (l.foldl f s)
  | c :: l, mem, nodup, s, hs => by
    obtain ⟨new, nodup⟩ := List.nodup_cons.mp nodup
    rw [List.foldl_cons]
    rcases List.mem_cons.mp mem with rfl | mem
    · have rest : ∀ {l : List β} {t}, b ∉ l → Q t → Q (l.foldl f t) := by
        intro l
        induction l with
        | nil => exact fun _ ht => ht
        | cons d l ih =>
          intro t other ht
          simp only [List.mem_cons, not_or] at other
          obtain ⟨ne, other⟩ := other
          exact ih other (behind d (Ne.symm ne) ht)
      exact rest new (leads s hs)
    · exact foldl_leads leads before behind mem nodup (before c (fun e => new (e ▸ mem)) hs)

theorem recompute_fresh {e : RouteEntry} (valid : e.valid = true) (c : SynthCause) {i : Fin 64} {s : State}
    (h : entryIs e i s) : entryFresh e i (recompute c s) := by
  have weak : ∀ j, Keeps (entryIs e i) (recomputeEntry place c j) := fun j =>
    (entryIs_reread e i).recomputeEntry (entryIs_calm e i).place c j
  have strong : ∀ j, Keeps (entryFresh e i) (recomputeEntry place c j) := fun j =>
    (entryFresh_reread e i).recomputeEntry (entryFresh_calm e i).place c j
  have folded := foldl_leads (f := fun s j => recomputeEntry place c j s)
    (fun _ => recomputeEntry_fresh valid c) (fun j _ => weak j) (fun j _ => strong j) (List.mem_finRange i)
    (List.nodup_finRange 64) h
  rw [recompute, recomputeWith]
  exact (entryFresh_reread e i).retryIfChanged _ folded

/-! ## Commits and changes of dock state -/

theorem entryIs_dockable (e : RouteEntry) (i : Fin 64) : Dockable (entryIs e i) :=
  (entryIs_calm e i).dockable ((entryIs_reread e i).recompute (entryIs_calm e i).place) (fun _ _ h => h) fun _ _ h => h

/-- The second of three readers leads from `P` to `Q` and the others carry both over: so do the three in any order. -/
theorem ReaderOrder.run_leads_second {P Q : State → Prop} {a b c : State → State} (ha : Keeps P a) (ha' : Keeps Q a)
    (hb : ∀ ⦃s⦄, P s → Q (b s)) (hc : Keeps P c) (hc' : Keeps Q c) (o : ReaderOrder) {s : State} (hs : P s) :
    Q (o.run a b c s) := by
  cases o
  · exact hc' (hb (ha hs))
  · exact hb (hc (ha hs))
  · exact hc' (ha' (hb hs))
  · exact ha' (hc' (hb hs))
  · exact hb (ha (hc hs))
  · exact ha' (hb (hc hs))

/-- A commit and a change of dock state each recompute, so that a valid entry's action stays as R54 gives it. -/
theorem entryFresh_dockable {e : RouteEntry} (valid : e.valid = true) (i : Fin 64) : Dockable (entryFresh e i) :=
  have weak := entryIs_dockable e i
  have calm := entryFresh_calm e i
  have pse : ∀ f, (∀ p, (f p).record = p.record) → Keeps (entryFresh e i) (State.onPse f) := fun f same s h =>
    ⟨h.1, fresh_congr (s := s) rfl rfl (congrArg PostureRecord.posture (same s.pse)) rfl h.2⟩
  have posed : Posed (entryFresh e i) := ⟨pse, fun p c r s h =>
    recheckBlocked_keeps (fun o t ht => pse (fun q => { q with
      candidate := .settling o, rotTimer := some t.params.rotSettle.toNat }) (fun _ => rfl) ht)
      (ReaderOrder.run_leads (P := entryIs e i)
      (fun _ => recompute_fresh valid _) weak.calm.penAllowance calm.penAllowance (weak.calm.sleepOnCommit _ _)
      (calm.sleepOnCommit _ _) _ (weak.calm.place _ (s := writeCommit p c r s) h.1))⟩
  { posed with
    calm := calm
    recompute := (entryFresh_reread e i).recompute calm.place
    dlc := fun f same s h => ⟨h.1, fresh_congr (s := s) rfl (congrArg DockState.inUse (same s.dlc)) rfl rfl h.2⟩
    change := fun {new ev cause sdu} hu s h => by
      refine ReaderOrder.run_leads_second (P := entryIs e i) (weak.postureOnDock _) (posed.postureOnDock _)
        (fun _ => recompute_fresh valid _) (hu _ weak.calm) (hu _ calm) _ ?_
      cases ev
      · exact h.1
      · exact weak.calm.place _ (s := s.onDlc fun d => Dlc.enterState new d.leaveState) h.1 }

/-! ## The re-enable (R52) -/

/-- An entry re-enabled: ACTIVE with errors 0. -/
abbrev RouteEntry.enabled (e : RouteEntry) : RouteEntry := { e with state := .active, errors := 0 }

/-- The entry is valid and DISABLED, of a source that the re-enable names. -/
def RouteEntry.awaits (named : BitVec 4 → Bool) (e : RouteEntry) : Bool :=
  e.valid && e.state = .disabled && named e.source

/-- The re-enable's step for one entry. -/
def reenableStep (named : BitVec 4 → Bool) (s : State) (i : Fin 64) : State :=
  if s.tcl.routes[i].awaits named then reenableEntry i s else s

theorem reenable_eq (named : BitVec 4 → Bool) (s : State) :
    reenable named s = (List.finRange 64).foldl (reenableStep named) s := rfl

/-- A predicate that re-enabling an entry carries over if writing that entry does. -/
theorem reenableEntry_keeps {P : State → Prop} (c : Calm P) (r : Reread P) {i : Fin 64} {s : State}
    (written : P (s.onRoute i RouteEntry.enabled)) : P (reenableEntry i s) :=
  r.retryIfChanged _ (r.recomputeEntry c.place _ _ (c.place _ written))

theorem reenableStep_keeps {P : State → Prop} (c : Calm P) (r : Reread P) (named : BitVec 4 → Bool) {i : Fin 64}
    (writes : Keeps P (State.onRoute i RouteEntry.enabled)) : Keeps P (reenableStep named · i) := by
  intro s hs
  show P (reenableStep named s i)
  unfold reenableStep
  split
  · exact reenableEntry_keeps c r (writes hs)
  · exact hs

/-- Another entry's re-enable leaves the entry. -/
theorem entryIs_other {e : RouteEntry} {i j : Fin 64} (f : RouteEntry → RouteEntry) (other : j ≠ i) :
    Keeps (entryIs e i) (State.onRoute j f) := by
  intro s h
  rwa [entryIs, onRoute_routes, if_neg other]

theorem entryFresh_other {e : RouteEntry} {i j : Fin 64} (f : RouteEntry → RouteEntry) (other : j ≠ i) :
    Keeps (entryFresh e i) (State.onRoute j f) := by
  intro s h
  refine ⟨entryIs_other f other h.1, ?_⟩
  rw [fresh, onRoute_routes, if_neg other]
  exact h.2

/-- An entry that awaits its re-enable gets it, its action with it. -/
theorem reenable_awaiting {named : BitVec 4 → Bool} {e : RouteEntry} (awaits : e.awaits named = true) {i : Fin 64}
    {s : State} (h : entryIs e i s) : entryFresh e.enabled i (reenable named s) := by
  have valid : e.valid = true := by
    rw [RouteEntry.awaits, Bool.and_eq_true, Bool.and_eq_true] at awaits
    exact awaits.1.1
  have leads : ∀ s, entryIs e i s → entryFresh e.enabled i (reenableStep named s i) := by
    rintro s ⟨a, o, read⟩
    have written : entryIs e.enabled i (s.onRoute i RouteEntry.enabled) := by
      rw [entryIs, onRoute_routes, if_pos rfl, read]
      exact ⟨a, o, rfl⟩
    have now : s.tcl.routes[i].awaits named = true := by rw [read]; exact awaits
    rw [reenableStep, if_pos now]
    exact (entryFresh_reread _ i).retryIfChanged _
      (recomputeEntry_fresh (e := e.enabled) valid _ ((entryIs_calm _ i).place _ written))
  rw [reenable_eq]
  exact foldl_leads (P := entryIs e i) (Q := entryFresh e.enabled i) leads
    (fun j other => reenableStep_keeps (entryIs_calm e i) (entryIs_reread e i) named (entryIs_other _ other))
    (fun j other => reenableStep_keeps (entryFresh_calm _ i) (entryFresh_reread _ i) named (entryFresh_other _ other))
    (List.mem_finRange i) (List.nodup_finRange 64) h

/-- Any other entry stays as it is. -/
theorem reenable_other {named : BitVec 4 → Bool} {e : RouteEntry} (rests : e.awaits named = false) {i : Fin 64}
    {s : State} (h : entryIs e i s) : entryIs e i (reenable named s) := by
  have step : ∀ j, Keeps (entryIs e i) (reenableStep named · j) := by
    intro j
    by_cases same : j = i
    · subst same
      rintro s ⟨a, o, read⟩
      have not : s.tcl.routes[j].awaits named = false := by rw [read]; exact rests
      show entryIs e j (reenableStep named s j)
      rw [reenableStep, not]
      exact ⟨a, o, read⟩
    · exact reenableStep_keeps (entryIs_calm e i) (entryIs_reread e i) named (entryIs_other _ same)
  rw [reenable_eq]
  generalize List.finRange 64 = l
  exact Stable.fold (P := entryIs e i) (f := reenableStep named) step l h

/-- The ROUTE record of an entry's re-enable (R53). -/
abbrev enabledRecord (s : State) (i : Fin 64) : Record :=
  keyedRecord .route s.tcl.routes[i].source s.tcl.routes[i].cls
    ([natByte i.val, 1, natByte s.tcl.routes[i].errors] ++ natBytes s.tcl.routes[i].hits)

theorem placed_calm (l rs : List Record) : Calm (placed l rs) := (placed_dockable l rs).calm

theorem placed_reread (l rs : List Record) : Reread (placed l rs) :=
  have h := placed_stable l rs
  ⟨fun r s => h.enter true r s, fun _ _ _ hs => hs, fun _ _ hs => hs, fun _ hs => hs⟩

theorem enabledRecord_congr {s0 s : State} {i : Fin 64} (h : entryIs s0.tcl.routes[i] i s) :
    enabledRecord s i = enabledRecord s0 i := by
  obtain ⟨a, o, read⟩ := h
  rw [enabledRecord, read]

/-- Re-enabling an entry places its record (R53). -/
theorem reenableEntry_placed {l rs : List Record} {i : Fin 64} {s : State} (h : placed l rs s) :
    placed l (rs ++ [enabledRecord s i]) (reenableEntry i s) := by
  have record : routeRecord .enabled i s.tcl.routes[i].errors (s.onRoute i RouteEntry.enabled).tcl.routes[i]
      = enabledRecord s i := by
    rw [onRoute_routes, if_pos rfl]
    rfl
  have told := placed_place (s := s.onRoute i RouteEntry.enabled) h
    (routeRecord .enabled i s.tcl.routes[i].errors (s.onRoute i RouteEntry.enabled).tcl.routes[i])
  rw [record] at told
  have kept := placed_reread l (rs ++ [enabledRecord s i])
  exact kept.retryIfChanged _ (kept.recomputeEntry (placed_calm _ _).place _ _ (record ▸ told))

/-- The re-enable places the records of the entries that await it, in ascending order (R52, R53). -/
theorem reenable_placed {named : BitVec 4 → Bool} {s0 s : State} {l rs : List Record}
    (entries : ∀ i, entryIs s0.tcl.routes[i] i s) (h : placed l rs s) :
    placed l (rs ++ ((List.finRange 64).filter fun i => s0.tcl.routes[i].awaits named).map (enabledRecord s0))
      (reenable named s) := by
  rw [reenable_eq]
  have steps : ∀ (left : List (Fin 64)) (rs : List Record) (s : State), left.Nodup →
      (∀ i ∈ left, entryIs s0.tcl.routes[i] i s) → placed l rs s →
      placed l (rs ++ (left.filter fun i => s0.tcl.routes[i].awaits named).map (enabledRecord s0))
        (left.foldl (reenableStep named) s) := by
    intro left
    induction left with
    | nil => intro rs s _ _ h; simpa using h
    | cons i left ih =>
      intro rs s nodup entries h
      obtain ⟨new, nodup⟩ := List.nodup_cons.mp nodup
      have own := entries i (List.mem_cons_self ..)
      have rest : ∀ j ∈ left, entryIs s0.tcl.routes[j] j (reenableStep named s i) := fun j mem =>
        reenableStep_keeps (entryIs_calm _ j) (entryIs_reread _ j) named
          (entryIs_other _ fun (same : i = j) => new (same ▸ mem)) (entries j (List.mem_cons_of_mem _ mem))
      have awaits : s.tcl.routes[i].awaits named = s0.tcl.routes[i].awaits named := by
        obtain ⟨a, o, read⟩ := own
        rw [read]
        rfl
      rw [List.foldl_cons]
      cases awaiting : s0.tcl.routes[i].awaits named
      · have next := ih rs _ nodup rest (by rwa [reenableStep, awaits, awaiting])
        simpa only [List.filter_cons, awaiting, Bool.false_eq_true, if_false] using next
      · have next := ih (rs ++ [enabledRecord s0 i]) _ nodup rest (by
          rw [reenableStep, awaits, awaiting, ← enabledRecord_congr own]
          exact reenableEntry_placed h)
        simpa only [List.filter_cons, awaiting, if_true, List.map_cons, List.append_assoc,
          List.singleton_append] using next
  exact steps _ rs s (List.nodup_finRange 64) (fun i _ => entries i) h

end Sys2Proof.Machine
end

section
/-! PROOFS. The management handling of node 0 (R92, R93, R116): what its parts carry over, the restart's change to
IDENTIFYING with the records that it places, and the dispatch of an arriving frame (R83). -/

namespace Sys2Proof.Machine

/-! ## What the management handling carries over -/

namespace Dockable

variable {P : State → Prop} (h : Dockable P)
include h

/-- An update of the DLC that keeps the dock state. -/
theorem onDlc {f : Dlc → Dlc} {s} (hs : P s) (same : ∀ d, (f d).state = d.state := by intro; rfl) : P (s.onDlc f) :=
  h.dlc f same hs

theorem raiseFault (k) : Keeps P (raiseFault k) := h.calm.raiseFault k

theorem linkError : Keeps P linkError := by
  intro s hs
  have counted : P (s.onDlc Dlc.countError) := h.onDlc hs fun d => by
    obtain ⟨n, t, e⟩ := d.countError_eq
    rw [e]
  unfold Machine.linkError
  split
  · simp only
    split
    · exact h.change calm_nothing (h.raiseFault _ (h.onDlc counted))
    · exact counted
  · exact hs

theorem acceptHello (i) : Keeps P (acceptHello i) := by
  intro s hs
  have identified : P (s.onDlc fun d => { d with identity := i }) := h.onDlc hs
  unfold Machine.acceptHello
  simp only
  split
  · exact h.change (calm_wakeActivity .dockAttached) identified
  · exact h.change (calm_wakeActivity .dockAttached) (h.invalidateBase identified)

theorem managementClass (c p) : Keeps P (managementClass c p) := by
  intro s hs
  unfold Machine.managementClass
  split
  · split
    · exact h.acceptHello _ hs
    · exact h.linkError hs
  · split
    · exact h.change calm_nothing hs
    · exact hs

theorem restartDock : Keeps P restartDock := by
  intro s hs
  have restarts : P (changeDock .identifying (some .restarted) .none nothing s) := h.change calm_nothing hs
  unfold Machine.restartDock
  split
  iterate 4 exact restarts
  all_goals exact hs

end Dockable

/-- A node 0 restart leads where the re-enable leads, if the dock state machine carries both sides over. -/
theorem nodeZeroRestart_leads {P Q : State → Prop} (hP : Keeps P restartDock) (hQ : Keeps Q restartDock)
    (leads : ∀ ⦃s⦄, P s → Q (reenableDock s)) {s : State} (hs : P s) : Q (nodeZeroRestart s) := by
  unfold nodeZeroRestart
  split
  · exact hQ (leads hs)
  · exact leads (hP hs)

/-! ## The restart at the dock state machine (R116) -/

/-- In an attached state, which forces no SLATE, a node 0 restart is a change to IDENTIFYING. -/
theorem restartDock_mounted {s : State} (mounted : s.dlc.state.forcesSlate = false) :
    restartDock s = changeDock .identifying (some .restarted) .none nothing s := by
  unfold restartDock
  cases state : s.dlc.state <;> simp_all [DockState.forcesSlate]

theorem restartDock_rest {s : State} (unmounted : s.dlc.state.forcesSlate = true) : restartDock s = s := by
  unfold restartDock
  cases state : s.dlc.state <;> simp_all [DockState.forcesSlate]

/-- The change to IDENTIFYING out of an attached state leaves the DLC as the statements say. -/
theorem Dlc.changed_identifying {d : Dlc} (mounted : d.state.forcesSlate = false) (p : Params) :
    (d.changed p .identifying).rest = (d.toIdentifying p).rest := by
  obtain ⟨state, _⟩ := d
  cases state
  case attached => rfl
  case detachRequested => rfl
  case quiescing => rfl
  case releasing => rfl
  all_goals cases mounted

theorem Dlc.toIdentifying_rest {d d' : Dlc} (h : d.rest = d'.rest) (p : Params) :
    (d.toIdentifying p).rest = (d'.toIdentifying p).rest :=
  (congrArg (fun e => (Dlc.toIdentifying p e).rest) h :)

/-- The record of a node 0 restart (R102, R116). -/
abbrev restartedRecord (old : DockState) : Record := partRecord .dock [12, 2, old.code, 0xFF, 0, 0]

theorem dockRecord_restarted (old : DockState) (d : Dlc) :
    dockRecord .restarted old .none (Dlc.enterState .identifying d) = restartedRecord old := by
  simp only [dockRecord, Dlc.enterState_state, dockPeriods, reduceCtorEq, or_self, if_false]
  rfl

theorem restartDock_transition {s : State} (mounted : s.dlc.state.forcesSlate = false) :
    Transition s (s.dlc.toIdentifying s.params) (restartDock s) := by
  rw [restartDock_mounted mounted]
  exact (changeDock_transition sdu_nothing s).from (.refl s) (Dlc.changed_identifying mounted _)

theorem Stable.reenableDock {P : State → Prop} (h : Stable P) : Keeps P reenableDock := by
  intro s hs
  unfold Machine.reenableDock
  exact h.reenable _ hs

theorem reenableDock_beyond (s : State) : Beyond s (reenableDock s) := (beyond_stable s).reenableDock (.refl s)

theorem Beyond.dockState {s t : State} (b : Beyond s t) : t.dlc.state = s.dlc.state := (congrArg Dlc.state b.dock :)

theorem Beyond.mounted {s t : State} (b : Beyond s t) (mounted : s.dlc.state.forcesSlate = false) :
    t.dlc.state.forcesSlate = false := by
  rwa [b.dockState]

/-- A node 0 restart in an attached state takes the base to IDENTIFYING, in whichever order the part works (R92). -/
theorem nodeZeroRestart_transition {s : State} (mounted : s.dlc.state.forcesSlate = false) :
    Transition s (s.dlc.toIdentifying s.params) (nodeZeroRestart s) := by
  unfold nodeZeroRestart
  split
  · have b := reenableDock_beyond s
    refine (restartDock_transition (b.mounted mounted)).from b ?_
    rw [b.params]
    exact Dlc.toIdentifying_rest b.dock _
  · exact (restartDock_transition mounted).beyond (reenableDock_beyond _)

theorem restartDock_placed {l rs : List Record} {s : State} (mounted : s.dlc.state.forcesSlate = false)
    (h : placed l rs s) : placed l (rs ++ [restartedRecord s.dlc.state]) (restartDock s) := by
  rw [restartDock_mounted mounted, ← dockRecord_restarted _ s.dlc.leaveState]
  exact changeDock_placed calm_nothing h

/-- It places its record, by whichever order (R92, R101). -/
theorem nodeZeroRestart_placed {l rs : List Record} {s : State} (mounted : s.dlc.state.forcesSlate = false)
    (h : placed l rs s) : placed l (rs ++ [restartedRecord s.dlc.state]) (nodeZeroRestart s) := by
  unfold nodeZeroRestart
  split
  · have b := reenableDock_beyond s
    have record := restartDock_placed (b.mounted mounted) ((placed_stable l rs).reenableDock h)
    rwa [b.dockState] at record
  · exact (placed_stable _ _).reenableDock (restartDock_placed mounted h)

/-! ## The re-enable of the dock sources (R52, R92) -/

/-- The dock sources. -/
abbrev dockSource (source : BitVec 4) : Bool := decide (source.toNat ≤ 7)

theorem dormant_eq (s : State) (i : Fin 64) : dormant s i = s.tcl.routes[i].awaits dockSource := rfl

theorem reenableDock_eq (s : State) : reenableDock s = reenable dockSource s := by
  delta reenableDock dockSource
  exact Eq.refl _

theorem reenable_none {named : BitVec 4 → Bool} {s : State} (none : ∀ i : Fin 64, s.tcl.routes[i].awaits named = false) :
    reenable named s = s := by
  rw [reenable_eq]
  generalize List.finRange 64 = l
  induction l with
  | nil => rfl
  | cons i l ih => rw [List.foldl_cons, reenableStep, none i]; exact ih

/-- The restart's record is the first that a node 0 restart places unless the re-enable comes first and places some. -/
theorem nodeZeroRestart_behind {s : State} (mounted : s.dlc.state.forcesSlate = false)
    (first : s.choices.restartTclFirst = false ∨ ∀ i, dormant s i = false) (room : hasRoom 1 s) :
    s.rqu.urgent ++ stampAll s.time s.rqu.urgentGap [restartedRecord s.dlc.state]
      <+: (nodeZeroRestart s).rqu.urgent := by
  have behind : s.rqu.urgent ++ stampAll s.time s.rqu.urgentGap [restartedRecord s.dlc.state]
      <+: (restartDock s).rqu.urgent := by
    rw [restartDock_mounted mounted, ← dockRecord_restarted _ s.dlc.leaveState]
    exact changeDock_behind calm_nothing room
  unfold nodeZeroRestart
  split
  · next tclFirst =>
    have none := first.resolve_left (by simp [tclFirst])
    rw [reenableDock_eq, reenable_none (named := dockSource) none]
    exact behind
  · exact (lanePrefix_stable _).reenableDock behind

end Sys2Proof.Machine
end

section
/-! PROOFS. The arrival of a frame (O36): its dispatch by node, class and dock state, and what a link error and a node 0
frame with RESTART leave. -/

namespace Sys2Proof.Machine

/-! ## Dispatch (R83) -/

/-- DOCK_FRAME_ARRIVAL of a frame that fits hands it on with the receiver in HUNT. -/
theorem exec_dockFrameArrival {payload : List Byte} (fits : payload.length ≤ 32) (node : BitVec 3) (cls : BitVec 4)
    (restart : Bool) (s : State) : exec (.dockFrameArrival node cls restart payload) s
      = .next (drivePins (frameArrives node cls restart payload (setRx .hunt s))) := by
  show done (if Config.framePayload < payload.length then linkError (setRx .hunt s)
    else frameArrives node cls restart payload (setRx .hunt s)) = _
  rw [if_neg (Nat.not_lt.mpr fits), done]

theorem frameArrives_absent {s : State} (absent : s.dlc.state = .absent) (node cls restart payload) :
    frameArrives node cls restart payload s = s := if_pos absent

theorem frameArrives_sensed {s : State} (sensed : s.dlc.state = .sensed) (cls restart payload) :
    frameArrives 0 cls restart payload s = s := by
  simp [frameArrives, nodeRefused, sensed]

theorem frameArrives_managed {s : State} (handled : s.dlc.state ∉ [DockState.absent, .sensed]) (cls restart payload) :
    frameArrives 0 cls restart payload s = management cls restart payload s := by
  obtain ⟨present, identified⟩ : s.dlc.state ≠ .absent ∧ s.dlc.state ≠ .sensed := by simpa using handled
  simp [frameArrives, nodeRefused, present, identified]

/-- The node is on the identity's node list, or the identity holds none (R83). -/
abbrev nodeListed (node : BitVec 3) (s : State) : Prop :=
  s.dlc.identity.nodes = [] ∨ s.dlc.identity.nodes.any (fun n => n.node = node.setWidth 8) = true

theorem nodeRefused_iff {node : BitVec 3} (routed : node ≠ 0) (s : State) :
    nodeRefused node s = true ↔ ¬ nodeListed node s := by
  have routed : node ≠ 0#3 := routed
  simp [nodeRefused, Identity.hasNode, routed]

theorem frameArrives_refused {node : BitVec 3} {s : State} (routed : node ≠ 0) (present : s.dlc.state ≠ .absent)
    (unlisted : ¬ nodeListed node s) (cls restart payload) : frameArrives node cls restart payload s = linkError s := by
  rw [frameArrives, if_neg present, if_pos ((nodeRefused_iff routed s).mpr unlisted)]

/-- A routed frame that the identity allows. -/
theorem frameArrives_routed {node : BitVec 3} {s : State} (routed : node ≠ 0) (present : s.dlc.state ≠ .absent)
    (listed : nodeListed node s) (cls restart payload) : frameArrives node cls restart payload s
      = if cls ≠ 0 && s.dlc.state.inUse then bufferFrame ⟨node.setWidth 4, cls, payload, restart⟩ s else s := by
  have allowed : ¬ nodeRefused node s = true := fun refused => (nodeRefused_iff routed s).mp refused listed
  rw [frameArrives, if_neg present, if_neg allowed, if_neg routed]

theorem inUse_iff {d : DockState} : d.inUse = true ↔ d = .attached ∨ d = .detachRequested := by
  cases d <;> simp [DockState.inUse]

theorem bufferFrame_room {f : Frame} {s : State} (room : s.dlc.buffer.length < 4) :
    bufferFrame f s = s.onDlc fun d => { d with buffer := d.buffer ++ [f] } := if_pos room

theorem bufferFrame_full {f : Frame} {s : State} (full : 4 ≤ s.dlc.buffer.length) :
    bufferFrame f s = raiseFault .dockOverrun s := if_neg (Nat.not_lt.mpr full)

/-- A raise reaches neither the TCL nor the DLC. -/
theorem raiseFault_apart (k : FaultKind) (s : State) :
    (raiseFault k s).tcl = s.tcl ∧ (raiseFault k s).dlc = s.dlc := by
  have tcl : Calm fun t => t.tcl = s.tcl :=
    ⟨fun _ _ _ _ h => h, fun _ h => h, fun _ _ h => h, fun _ _ h => h, fun _ _ _ h => h⟩
  exact ⟨tcl.raiseFault k rfl, (dlc_calm s.dlc).raiseFault k rfl⟩

theorem raiseFault_beyond (k : FaultKind) (s : State) : Beyond s (raiseFault k s) :=
  (beyond_stable s).raiseFault (fun _ b => ⟨b.time, b.params, b.link, b.pse, b.dock, b.choices, b.pending⟩) (.refl s)

/-- A node that the list lacks is told as a broken address character is (R82, R83). -/
theorem exec_brokenAddress {s : State} (present : s.dlc.state ≠ .absent) (data : Byte) :
    exec (.dockCharacter (lineBits data) true false) s = .next (drivePins (linkError (setRx .hunt s))) := by
  show done (if (lineBits data).getLsbD 0 then s else receive (lineData (lineBits data)) true false s) = _
  rw [lineBits_start, lineData_lineBits, receive, if_neg present]
  simp [done]

/-! ## The class of a management frame (R92, R93) -/

theorem managementClass_other {cls : BitVec 4} {s : State} (noHello : ¬ (cls = 1 ∧ s.dlc.state = .identifying))
    (noQuiesced : ¬ (cls = 2 ∧ s.dlc.state = .quiescing)) (payload) : managementClass cls payload s = s := by
  rw [managementClass, if_neg noHello, if_neg noQuiesced]

theorem managementClass_hello {s : State} (identifying : s.dlc.state = .identifying) {payload : List Byte} {i : Identity}
    (hello : helloOf payload = some i) : managementClass 1 payload s = acceptHello i s := by
  simp only [managementClass, identifying, and_self, if_true, hello]

theorem managementClass_badHello {s : State} (identifying : s.dlc.state = .identifying) {payload : List Byte}
    (hello : helloOf payload = none) : managementClass 1 payload s = linkError s := by
  simp only [managementClass, identifying, and_self, if_true, hello]

/-! ## A link error (R84, R106) -/

/-- The error count after a link error. -/
abbrev Dlc.counted (d : Dlc) : Nat := if d.errTimer = none then 1 else d.errors + 1

theorem Dlc.countError_counted (d : Dlc) : d.countError
    = { d with errors := d.counted, errTimer := if d.errTimer = none then some 1000 else d.errTimer } := by
  unfold Dlc.countError Dlc.counted
  split <;> simp [*, Config.errorWindow]

theorem linkError_below {s : State} (counting : s.dlc.state.countsErrors = true)
    (below : s.dlc.counted < s.params.linkErrLimit.toNat) : linkError s = s.onDlc Dlc.countError := by
  have under : ¬ s.params.linkErrLimit.toNat ≤ (s.onDlc Dlc.countError).dlc.errors := by
    rw [State.onDlc_dlc, Dlc.countError_counted]
    exact Nat.not_le.mpr below
  simp only [linkError, counting, if_true, if_neg under]

theorem Transition.dockState {s t : State} {d : Dlc} (h : Transition s d t) : t.dlc.state = d.state :=
  (congrArg Dlc.state h.dock :)

theorem changeDock_state {new ev cause sdu} (hu : ∀ P, Stable P → Keeps P sdu) (s : State) :
    (changeDock new ev cause sdu s).dlc.state = new :=
  (changeDock_transition hu s).dockState.trans (Dlc.changed_state _ _ _)

theorem linkError_limit {s : State} (counting : s.dlc.state.countsErrors = true)
    (limit : s.params.linkErrLimit.toNat ≤ s.dlc.counted) : (linkError s).dlc.state = .faulted := by
  have reached : s.params.linkErrLimit.toNat ≤ (s.onDlc Dlc.countError).dlc.errors := by
    rw [State.onDlc_dlc, Dlc.countError_counted]
    exact limit
  simp only [linkError, counting, if_true, if_pos reached]
  exact changeDock_state sdu_nothing _

/-! ## Transitions told of what follows them -/

/-- A transition with an update of the DLC behind it. -/
theorem Transition.onDlc {s t : State} {d : Dlc} (h : Transition s d t) {f : Dlc → Dlc}
    (state : ∀ d, (f d).state = d.state) (rest : ∀ d, (f d.rest).rest = (f d).rest) : Transition s (f d) (t.onDlc f) where
  time := h.time
  params := h.params
  link := h.link
  choices := h.choices
  pending := h.pending
  dock := by
    rw [State.onDlc_dlc, ← rest, h.dock, rest]
  senses := by rw [state]; exact h.senses
  slate := by rw [state]; exact h.slate
  kept := by rw [state]; exact h.kept
  unknown := by rw [state]; exact h.unknown

/-- A transition of a state that differs from another in its DLC alone, the dock state apart. -/
theorem Transition.of_setRx {s t : State} {r : Receiver} {d : Dlc} (h : Transition (setRx r s) d t) : Transition s d t :=
  ⟨h.time, h.params, h.link, h.choices, h.pending, h.dock, h.senses, h.slate, h.kept, h.unknown⟩

theorem Transition.pins {s t : State} {d : Dlc} (h : Transition s d t) : Transition s d (drivePins t) :=
  h.beyond (Beyond.refl t).pins

/-! ## The re-enable where no base is in use (R52, R54) -/

theorem effectiveAction_unused {s : State} (unused : s.dlc.state.inUse = false) {e : RouteEntry}
    (ofDock : e.ofDock = true) : effectiveAction s e = .drop := by
  simp only [effectiveAction, unused, ofDock, Bool.not_false, Bool.and_self, if_true, ite_self]

/-- An entry of a dock source that awaits its re-enable at DROP stays at DROP: nothing but it and the lane differs. -/
theorem reenableEntry_unused {s : State} {i : Fin 64} (unused : s.dlc.state.inUse = false)
    (ofDock : s.tcl.routes[i].ofDock = true) (drop : s.tcl.routes[i].effective = .drop) (room : hasRoom 1 s) :
    reenableEntry i s = enterUrgent false (enabledRecord s i) (s.onRoute i RouteEntry.enabled) := by
  let written := s.onRoute i RouteEntry.enabled
  have entry : written.tcl.routes[i] = s.tcl.routes[i].enabled := by
    simp only [written, onRoute_routes, if_true]
  have record : routeRecord .enabled i s.tcl.routes[i].errors written.tcl.routes[i] = enabledRecord s i := by
    rw [entry]
    rfl
  have told : place (enabledRecord s i) written = enterUrgent false (enabledRecord s i) written :=
    if_pos (decide_eq_true (Nat.lt_of_succ_le room))
  have still : recomputeEntry place .disabled i (enterUrgent false (enabledRecord s i) written)
      = enterUrgent false (enabledRecord s i) written := by
    have action : effectiveAction (enterUrgent false (enabledRecord s i) written) written.tcl.routes[i]
        = written.tcl.routes[i].effective := by
      rw [entry]
      exact (effectiveAction_unused (s := enterUrgent false _ written) (e := s.tcl.routes[i].enabled) unused
        ofDock).trans drop.symm
    exact if_pos (by simp only [Bool.or_eq_true, decide_eq_true_eq]; exact .inr action)
  show (let s2 := place (routeRecord .enabled i s.tcl.routes[i].errors written.tcl.routes[i]) written
    retryIfChanged (stalledAction s2) (recomputeEntry place .disabled i s2)) = _
  simp only [record, told, still]
  simp [retryIfChanged, written]

/-- The entries of a list that await their re-enable. -/
abbrev awaiting (named : BitVec 4 → Bool) (l : List (Fin 64)) (s : State) : List (Fin 64) :=
  l.filter fun i => s.tcl.routes[i].awaits named

/-- The route table with the entries of a list that await their re-enable enabled. -/
def enabledAmong (named : BitVec 4 → Bool) (l : List (Fin 64)) (v : Vector RouteEntry 64) : Vector RouteEntry 64 :=
  Vector.ofFn fun i => if i ∈ l ∧ v[i].awaits named = true then v[i].enabled else v[i]

theorem enabledAmong_getElem (named l v) (i : Fin 64) : (enabledAmong named l v)[i]
    = if i ∈ l ∧ v[i].awaits named = true then v[i].enabled else v[i] := by
  simp [enabledAmong]

theorem routes_ext {v w : Vector RouteEntry 64} (h : ∀ i : Fin 64, v[i] = w[i]) : v = w :=
  Vector.ext fun i hi => h ⟨i, hi⟩

theorem enabledAmong_nil (named v) : enabledAmong named [] v = v :=
  routes_ext fun i => by rw [enabledAmong_getElem, if_neg (by simp)]

theorem enabledAmong_rests {named : BitVec 4 → Bool} {v : Vector RouteEntry 64} {i : Fin 64}
    (rests : v[i].awaits named = false) (l) : enabledAmong named (i :: l) v = enabledAmong named l v := by
  refine routes_ext fun j => ?_
  rw [enabledAmong_getElem, enabledAmong_getElem]
  by_cases here : j = i
  · rw [here, rests]
    simp
  · simp [here]

/-- An entry enabled is one that no longer awaits it. -/
theorem enabled_rests (named : BitVec 4 → Bool) (e : RouteEntry) : e.enabled.awaits named = false := by
  simp [RouteEntry.awaits]

theorem enabledAmong_awaits {named : BitVec 4 → Bool} {s : State} {i : Fin 64}
    (awaits : s.tcl.routes[i].awaits named = true) (l) :
    enabledAmong named l (s.onRoute i RouteEntry.enabled).tcl.routes = enabledAmong named (i :: l) s.tcl.routes := by
  refine routes_ext fun j => ?_
  rw [enabledAmong_getElem, enabledAmong_getElem, onRoute_routes]
  by_cases here : i = j
  · subst here
    rw [if_pos rfl, if_neg (by simp [enabled_rests]), if_pos ⟨List.mem_cons_self .., awaits⟩]
  · simp [here, Ne.symm here]

theorem lodge_enter (r : Record) (rs : List Record) (s : State) :
    lodge rs (enterUrgent false r s) = lodge (r :: rs) s := by
  simp [lodge, enterUrgent, stampAll, State.onRqu]

theorem enterUrgent_onTcl (b r f) (s : State) : (enterUrgent b r s).onTcl f = enterUrgent b r (s.onTcl f) := rfl

/-- With no base in use, the entries at DROP and room for the records, the re-enable of the dock sources writes the
entries and places their records, and changes nothing else. -/
theorem fold_reenable_unused : ∀ (l : List (Fin 64)) (s : State), l.Nodup → s.dlc.state.inUse = false →
    (∀ i ∈ l, s.tcl.routes[i].awaits dockSource = true → s.tcl.routes[i].effective = .drop) →
    hasRoom (awaiting dockSource l s).length s →
    l.foldl (reenableStep dockSource) s = lodge ((awaiting dockSource l s).map (enabledRecord s))
      (s.onTcl fun t => { t with routes := enabledAmong dockSource l t.routes })
  | [], s, _, _, _, _ => by simp [State.onTcl, lodge, enabledAmong_nil, stampAll]
  | i :: l, s, nodup, unused, drop, room => by
    obtain ⟨new, nodup⟩ := List.nodup_cons.mp nodup
    have dropRest := fun j mem => drop j (List.mem_cons_of_mem i mem)
    rw [List.foldl_cons]
    cases awaits : s.tcl.routes[i].awaits dockSource
    · have same : awaiting dockSource (i :: l) s = awaiting dockSource l s :=
        List.filter_cons_of_neg (by rw [awaits]; exact Bool.false_ne_true)
      rw [same] at room ⊢
      rw [reenableStep, awaits, if_neg Bool.false_ne_true, fold_reenable_unused l s nodup unused dropRest room]
      simp only [State.onTcl, enabledAmong_rests awaits]
    · let next := enterUrgent false (enabledRecord s i) (s.onRoute i RouteEntry.enabled)
      have other : ∀ j ∈ l, next.tcl.routes[j] = s.tcl.routes[j] := fun j mem =>
        (onRoute_routes i j _ s).trans (if_neg fun (same : i = j) => new (same ▸ mem))
      have more : awaiting dockSource (i :: l) s = i :: awaiting dockSource l s :=
        List.filter_cons_of_pos awaits
      have same : awaiting dockSource l next = awaiting dockSource l s :=
        List.filter_congr fun j mem => by rw [other j mem]
      have records : (awaiting dockSource l s).map (enabledRecord next)
          = (awaiting dockSource l s).map (enabledRecord s) :=
        List.map_congr_left fun j mem => by rw [enabledRecord, other j (List.mem_of_mem_filter mem)]
      have ofDock : s.tcl.routes[i].ofDock = true := by
        rw [RouteEntry.awaits, Bool.and_eq_true] at awaits
        exact awaits.2
      rw [more, hasRoom, List.length_cons] at room
      have roomNext : hasRoom (awaiting dockSource l next).length next := by
        rw [same, hasRoom]
        simp only [next, enterUrgent, State.onRqu_rqu, List.length_append, List.length_singleton]
        show s.rqu.urgent.length + 1 + _ ≤ 32
        omega
      rw [reenableStep, awaits, if_pos rfl, reenableEntry_unused unused ofDock (drop i (List.mem_cons_self ..) awaits)
        (by rw [hasRoom]; omega), fold_reenable_unused l next nodup unused
        (fun j mem a => by rw [other j mem] at a ⊢; exact dropRest j mem a) roomNext, same, records, more, List.map_cons]
      have table : ((s.onRoute i RouteEntry.enabled).onTcl fun t => { t with
            routes := enabledAmong dockSource l t.routes })
          = s.onTcl fun t => { t with routes := enabledAmong dockSource (i :: l) t.routes } := by
        have written := enabledAmong_awaits awaits l
        simp only [State.onRoute, State.onTcl] at written ⊢
        rw [written]
      rw [enterUrgent_onTcl, table, lodge_enter]

end Sys2Proof.Machine
end

section
/-! PROOFS. Node 0 frames with RESTART, and O36. -/

namespace Sys2Proof.Machine

/-! ## Node 0 with RESTART (R52, R92, R116) -/

/-- A management frame with RESTART leads where the re-enable leads, if the dock state machine carries both sides over. -/
theorem management_restart_leads {P Q : State → Prop} (hP : Dockable P) (hQ : Dockable Q)
    (leads : ∀ ⦃s⦄, P s → Q (reenableDock s)) (cls payload) {s : State} (hs : P s) : Q (management cls true payload s) :=
  hQ.managementClass _ _ (nodeZeroRestart_leads hP.restartDock hQ.restartDock leads hs)

/-- An entry that awaits the re-enable is ACTIVE afterwards, its action as R54 gives it. -/
theorem management_restart_dormant {s : State} {i : Fin 64} (awaits : dormant s i = true) (cls payload) :
    entryFresh s.tcl.routes[i].enabled i (management cls true payload s) := by
  have valid : s.tcl.routes[i].enabled.valid = true := by
    rw [dormant_eq, RouteEntry.awaits, Bool.and_eq_true, Bool.and_eq_true] at awaits
    exact awaits.1.1
  refine management_restart_leads (entryIs_dockable s.tcl.routes[i] i) (entryFresh_dockable valid i) (fun t ht => ?_) cls
    payload ⟨_, _, rfl⟩
  rw [reenableDock_eq]
  exact reenable_awaiting (named := dockSource) (e := s.tcl.routes[i]) awaits ht

/-- Any other entry keeps what the re-enable writes. -/
theorem management_restart_other {s : State} {i : Fin 64} (rests : dormant s i = false) (cls payload) :
    entryIs s.tcl.routes[i] i (management cls true payload s) := by
  have kept := entryIs_dockable s.tcl.routes[i] i
  refine management_restart_leads kept kept (fun t ht => ?_) cls payload ⟨_, _, rfl⟩
  rw [reenableDock_eq]
  exact reenable_other (named := dockSource) (e := s.tcl.routes[i]) rests ht

/-- The ROUTE records stand in ascending order among those of the command (R53). -/
theorem management_restart_records (s : State) (cls payload) :
    placed s.rqu.urgent ((awaiting dockSource (List.finRange 64) s).map (enabledRecord s))
      (management cls true payload s) := by
  have kept := placed_dockable s.rqu.urgent
  refine (kept _).managementClass _ _ (nodeZeroRestart_leads
    (P := fun t => placed s.rqu.urgent [] t ∧ ∀ i, entryIs s.tcl.routes[i] i t)
    (fun t ht => ⟨(kept _).restartDock ht.1, fun i => (entryIs_dockable _ i).restartDock (ht.2 i)⟩)
    (kept _).restartDock (fun t ht => ?_) ⟨placed_nil s, fun i => ⟨_, _, rfl⟩⟩)
  have told := reenable_placed (named := dockSource) ht.2 ht.1
  rw [reenableDock_eq]
  rwa [List.nil_append] at told

/-- Where neither the dock state machine nor the class acts, a node 0 frame with RESTART is the re-enable alone. -/
theorem management_reenables {s : State} {cls : BitVec 4}
    (state : s.dlc.state = .faulted ∨ (s.dlc.state = .identifying ∧ cls ≠ 1)) (payload) :
    management cls true payload s = reenableDock s := by
  have unmounted : s.dlc.state.forcesSlate = true := by
    rcases state with e | ⟨e, -⟩ <;> rw [e] <;> rfl
  have after := (reenableDock_beyond s).dockState
  have restarted : nodeZeroRestart s = reenableDock s := by
    have still : restartDock (reenableDock s) = reenableDock s := restartDock_rest (by rw [after, unmounted])
    rw [nodeZeroRestart, restartDock_rest unmounted, still, ite_self]
  rw [management, if_pos rfl, restarted]
  refine managementClass_other ?_ ?_ payload
  · rw [after]
    rintro ⟨hello, identifying⟩
    rcases state with e | ⟨-, other⟩
    · rw [e] at identifying
      cases identifying
    · exact other hello
  · rw [after]
    rintro ⟨-, quiescing⟩
    rcases state with e | ⟨e, -⟩ <;> rw [e] at quiescing <;> cases quiescing

/-- With no base in use, the entries at DROP and room for the records, the re-enable is exact (R52, R53). -/
theorem reenableDock_unused {s : State} (unused : s.dlc.state.inUse = false)
    (drop : ∀ i, dormant s i = true → s.tcl.routes[i].effective = .drop)
    (room : hasRoom (awaiting dockSource (List.finRange 64) s).length s) :
    reenableDock s = lodge ((awaiting dockSource (List.finRange 64) s).map (enabledRecord s))
      (s.onTcl fun t => { t with
        routes := Vector.ofFn fun i : Fin 64 => if dormant s i = true then t.routes[i].enabled else t.routes[i] }) := by
  have table : enabledAmong dockSource (List.finRange 64) s.tcl.routes = Vector.ofFn fun i : Fin 64 =>
      if dormant s i = true then s.tcl.routes[i].enabled else s.tcl.routes[i] := by
    refine routes_ext fun i => ?_
    rw [enabledAmong_getElem, ← dormant_eq]
    simp
  rw [reenableDock_eq, reenable_eq, fold_reenable_unused _ s (List.nodup_finRange 64) unused (fun i _ => drop i) room]
  simp only [State.onTcl, table]

/-- A node 0 frame with RESTART in an attached state is the restart with its class handled in IDENTIFYING (R116). -/
theorem management_mounted {s : State} (mounted : s.dlc.state.forcesSlate = false) (cls payload) :
    management cls true payload s = managementClass cls payload (nodeZeroRestart s)
      ∧ (nodeZeroRestart s).dlc.state = .identifying :=
  ⟨by rw [management, if_pos rfl], (nodeZeroRestart_transition mounted).dockState⟩

/-! ## Arrival (O36) -/

/-- A HELLO with RESTART that is not well formed is a link error in the IDENTIFYING that the restart leads to. -/
theorem mounted_badHello {s : State} (mounted : s.dlc.state.forcesSlate = false) {payload : List Byte}
    (hello : helloOf payload = none) :
    (s.dlc.counted < s.params.linkErrLimit.toNat →
      Transition s (s.dlc.toIdentifying s.params).countError (management 1 true payload s)) ∧
    (s.params.linkErrLimit.toNat ≤ s.dlc.counted → (management 1 true payload s).dlc.state = .faulted) := by
  have restarted := nodeZeroRestart_transition mounted
  obtain ⟨handled, identifying⟩ := management_mounted mounted 1 payload
  have counting : (nodeZeroRestart s).dlc.state.countsErrors = true := by rw [identifying]; rfl
  have counted : (nodeZeroRestart s).dlc.counted = s.dlc.counted := (congrArg Dlc.counted restarted.dock :)
  rw [handled, managementClass_badHello identifying hello]
  refine ⟨fun below => ?_, fun limit => linkError_limit counting (by rwa [restarted.params, counted])⟩
  rw [linkError_below counting (by rwa [restarted.params, counted])]
  refine restarted.onDlc (fun d => ?_) (fun d => ?_)
  · rw [Dlc.countError_counted]
  · rw [Dlc.countError_counted, Dlc.countError_counted]
    rfl

/-- A full buffer loses the frame with DOCK_OVERRUN (R85). -/
theorem bufferFrame_overrun {f : Frame} {t : State} (full : 4 ≤ t.dlc.buffer.length) :
    raised .dockOverrun t (drivePins (bufferFrame f t)) ∧ Beyond t (drivePins (bufferFrame f t))
      ∧ (drivePins (bufferFrame f t)).dlc.buffer = t.dlc.buffer ∧ (drivePins (bufferFrame f t)).tcl = t.tcl := by
  obtain ⟨tcl, dlc⟩ := raiseFault_apart .dockOverrun t
  rw [bufferFrame_full full]
  exact ⟨(raised_raiseFault (by decide) (by decide) t).1, (raiseFault_beyond _ t).pins, (congrArg Dlc.buffer dlc :), tcl⟩

section

variable {s : State} {cls : BitVec 4} {payload : List Byte}

/-- An entry through a node 0 frame with RESTART. -/
theorem management_restart_entry (i : Fin 64) :
    let t := drivePins (management cls true payload (setRx .hunt s))
    if dormant s i then t.tcl.routes[i].state = .active ∧ t.tcl.routes[i].errors = 0
        ∧ t.tcl.routes[i].effective = effectiveAction t t.tcl.routes[i]
    else t.tcl.routes[i].state = s.tcl.routes[i].state ∧ t.tcl.routes[i].errors = s.tcl.routes[i].errors := by
  intro t
  cases awaits : dormant s i
  · obtain ⟨a, o, read⟩ := management_restart_other (s := setRx .hunt s) awaits cls payload
    have read : t.tcl.routes[i] = { s.tcl.routes[i] with effective := a, overflow := o } := read
    rw [if_neg Bool.false_ne_true, read]
    exact ⟨rfl, rfl⟩
  · obtain ⟨⟨a, o, read⟩, fresh⟩ := management_restart_dormant (s := setRx .hunt s) awaits cls payload
    have read : t.tcl.routes[i] = { s.tcl.routes[i].enabled with effective := a, overflow := o } := read
    rw [if_pos rfl]
    refine ⟨?_, ?_, fresh⟩ <;> rw [read]

/-- A node 0 frame with RESTART in an attached state: the restart, its record and what its class then does (R116). -/
theorem management_restart_mounted (mounted : s.dlc.state.forcesSlate = false) :
    let t := drivePins (management cls true payload s)
    placed s.rqu.urgent [restartedRecord s.dlc.state] t
      ∧ (s.choices.restartTclFirst = false ∨ (∀ i, dormant s i = false) → hasRoom 1 s →
        s.rqu.urgent ++ stampAll s.time s.rqu.urgentGap [restartedRecord s.dlc.state] <+: t.rqu.urgent)
      ∧ (cls ≠ 1 → Transition s (s.dlc.toIdentifying s.params) t) := by
  obtain ⟨handled, identifying⟩ := management_mounted mounted cls payload
  rw [handled]
  refine ⟨?_, fun first room => ?_, fun other => ?_⟩
  · have kept := placed_dockable s.rqu.urgent [restartedRecord s.dlc.state]
    exact kept.managementClass cls payload (nodeZeroRestart_placed mounted (placed_nil s))
  · have kept := lanePrefix_dockable (s.rqu.urgent ++ stampAll s.time s.rqu.urgentGap [restartedRecord s.dlc.state])
    exact kept.managementClass cls payload (nodeZeroRestart_behind mounted first room)
  · rw [managementClass_other (fun h => other h.1) (by simp [identifying])]
    exact (nodeZeroRestart_transition mounted).pins

theorem mounted_iff {d : DockState} :
    d ∈ [DockState.attached, .detachRequested, .quiescing, .releasing] ↔ d.forcesSlate = false := by
  cases d <;> decide

theorem handled_of_mounted {d : DockState} (mounted : d.forcesSlate = false) : d ∉ [DockState.absent, .sensed] := by
  revert mounted
  cases d <;> decide

/-- A base in use takes a routed frame of a class. -/
theorem taken_of_used {d : DockState} (used : d = .attached ∨ d = .detachRequested) (data : cls ≠ 0) :
    d ≠ .absent ∧ (cls ≠ 0 && d.inUse) = true := by
  refine ⟨by rcases used with rfl | rfl <;> simp, ?_⟩
  rw [Bool.and_eq_true, inUse_iff, decide_eq_true_eq]
  exact ⟨data, used⟩

variable {restart : Bool} (fits : payload.length ≤ 32)
include fits

/-- A node 0 frame that is handled in no way: in SENSED, or without RESTART in no state that takes its class. -/
theorem arrival_discarded (discarded : s.dlc.state = .sensed
    ∨ (restart = false ∧ cls ≠ 1 ∧ (cls ≠ 2 ∨ s.dlc.state ≠ .quiescing))) :
    exec (.dockFrameArrival 0 cls restart payload) s = .next (drivePins (setRx .hunt s)) := by
  rw [exec_dockFrameArrival fits]
  by_cases handled : (setRx .hunt s).dlc.state ∈ [DockState.absent, .sensed]
  · rcases List.mem_cons.mp handled with absent | sensed
    · rw [frameArrives_absent absent]
    · rw [frameArrives_sensed (List.mem_singleton.mp sensed)]
  · obtain ⟨plain, noHello, noQuiesced⟩ := discarded.resolve_left fun sensed => handled (by simp [setRx, sensed])
    rw [frameArrives_managed handled, management, plain, if_neg Bool.false_ne_true]
    rw [managementClass_other (s := setRx .hunt s) (fun h => noHello h.1)
      (fun h : cls = 2 ∧ s.dlc.state = .quiescing => noQuiesced.elim (· h.1) (· h.2))]

/-- A node 0 frame that is handled reaches the management handling. -/
theorem arrival_managed (handled : s.dlc.state ∉ [DockState.absent, .sensed]) :
    exec (.dockFrameArrival 0 cls restart payload) s
      = .next (drivePins (management cls restart payload (setRx .hunt s))) := by
  rw [exec_dockFrameArrival fits, frameArrives_managed (s := setRx .hunt s) handled]

/-- A frame of another node that the identity allows is buffered where a base is in use, and else discarded. -/
theorem arrival_routed {node : BitVec 3} (routed : node ≠ 0) (present : s.dlc.state ≠ .absent)
    (listed : nodeListed node s) : exec (.dockFrameArrival node cls restart payload) s = .next (drivePins
      (if cls ≠ 0 && s.dlc.state.inUse then bufferFrame ⟨node.setWidth 4, cls, payload, restart⟩ (setRx .hunt s)
        else setRx .hunt s)) := by
  rw [exec_dockFrameArrival fits, frameArrives_routed (s := setRx .hunt s) routed present listed]
  rfl

end

/-- Settles O36, clause by clause along the dispatch. The restart's outcome is a change of dock state with the re-enable
before or behind it, and of an entry these carry over all but the action and the overflow mark. -/
theorem frameArrivalIsDispatched : Obligations.FrameArrivalIsDispatched := by
  intro s node cls restart payload fits s0 listed used enabled records restarted begun n
  refine ⟨fun absent => ?_, fun zero discarded => ?_, fun handled => ⟨_, arrival_managed fits handled, ?_, ?_⟩,
    fun resting drop room => ?_, fun attached => ?_, fun routed listed used data room => ?_,
    fun routed listed used data full => ?_, fun routed present listed unused => ?_, fun routed present unlisted => ?_⟩
  · rw [exec_dockFrameArrival fits, frameArrives_absent (s := setRx .hunt s) absent]
    rfl
  · subst zero
    exact arrival_discarded fits discarded
  · exact management_restart_entry
  · exact fun _ => (management_restart_records (setRx .hunt s) cls payload).2
  · have handled : s.dlc.state ∉ [DockState.absent, .sensed] := by
      rcases resting with e | ⟨e, -⟩ <;> simp [e]
    have unused : s.dlc.state.inUse = false := by
      rcases resting with e | ⟨e, -⟩ <;> rw [e] <;> rfl
    rw [arrival_managed fits handled, management_reenables (s := setRx .hunt s) resting,
      reenableDock_unused (s := setRx .hunt s) unused drop room]
    rfl
  · have mounted := mounted_iff.mp attached
    have none : s.choices.restartTclFirst = false ∨ enabled = [] →
        s.choices.restartTclFirst = false ∨ ∀ i, dormant s i = false := by
      simp [enabled, List.filter_eq_nil_iff]
    obtain ⟨records, first, restarts⟩ := management_restart_mounted (s := setRx .hunt s) (cls := cls)
      (payload := payload) mounted
    refine ⟨_, arrival_managed fits (handled_of_mounted mounted), records.2,
      fun h => firstPlaced_of_prefix (first (none h)), fun other => (restarts other).of_setRx,
      fun hello bad below => ?_, fun hello bad limit => ?_⟩
    · subst hello
      have counted := (mounted_badHello (s := setRx .hunt s) mounted bad).1 below
      rw [Dlc.countError_counted] at counted
      exact counted.of_setRx.pins
    · subst hello
      exact (mounted_badHello (s := setRx .hunt s) mounted bad).2 limit
  · obtain ⟨present, taken⟩ := taken_of_used used data
    rw [arrival_routed fits routed present listed, if_pos taken, bufferFrame_room (s := setRx .hunt s) room]
    rfl
  · obtain ⟨present, taken⟩ := taken_of_used used data
    refine ⟨_, by rw [arrival_routed fits routed present listed, if_pos taken], ?_⟩
    exact bufferFrame_overrun (t := setRx .hunt s) full
  · have discarded : ¬ (cls ≠ 0 && s.dlc.state.inUse) = true := by
      rw [Bool.and_eq_true, inUse_iff, decide_eq_true_eq]
      exact fun ⟨data, used⟩ => unused.elim (· used) data
    rw [arrival_routed fits routed present listed, if_neg discarded]
    rfl
  · rw [exec_dockFrameArrival fits, frameArrives_refused (s := setRx .hunt s) routed present unlisted,
      exec_brokenAddress (s := s0) present]
    rfl

end Sys2Proof.Machine
end

section
/-! PROOFS. HELLO and its timer (O41): what an accepted HELLO leaves, alone and behind a restart, and what the changes of
dock state to FAULTED and, by DOCK_RETRY, to IDENTIFYING leave. -/

namespace Sys2Proof.Machine

/-! ## Changes of dock state, further -/

/-- A stable predicate that sees nothing of the PSE. -/
theorem Stable.posed {P : State → Prop} (h : Stable P) (pse : ∀ f, Keeps P (State.onPse f)) : Posed P :=
  ⟨fun f _ => pse f, fun _ _ _ _ hs => commitPosture_leads (h.handed pse) (h.handed pse) (h.place _ (pse _ hs))
    fun _ => h.sleepOnCommit _ _ (s := _)⟩

/-- A stable predicate that sees nothing of the PSE holds of a change of dock state if the entry gives it and the entry
actions carry it over. -/
theorem Stable.changeDock_entered {P : State → Prop} (h : Stable P) (pse : ∀ f, Keeps P (State.onPse f))
    {new ev cause sdu s} (hu : ∀ Q, Stable Q → Keeps Q sdu)
    (acts : Keeps P (State.onDlc (Dlc.entryActions s.params s.dlc.state)))
    (entered : P (s.onDlc fun d => Dlc.enterState new d.leaveState)) : P (changeDock new ev cause sdu s) := by
  refine ReaderOrder.run_leads ((h.posed pse).postureOnDock s.dlc.state) (h.recompute _) (h.recompute _) (hu P h)
    (hu P h) _ (acts ?_)
  cases ev
  · exact entered
  · exact h.place _ entered

/-- A wake reason with activity that a change of dock state hands to the SDU ends the sleep (R154). -/
theorem changeDock_wakes {new ev cause} {k : WakeKind} {s : State} (asleep : s.sdu.sleep.asleep = true) :
    (changeDock new ev cause (fun s => activity (wake k s)) s).sdu.sleep = .waking := by
  have slept := asleep_dockable true
  refine ReaderOrder.run_leads_last (P := fun s => s.sdu.sleep.asleep = true) (Q := fun s => s.sdu.sleep = .waking)
    (slept.postureOnDock _) (waking_dockable.postureOnDock _) (slept.recompute _) (waking_dockable.recompute _)
    (fun t asleep => waking_calm.activity (wake_waking k asleep)) _ ?_
  cases ev
  · exact asleep
  · exact slept.calm.place _ (s := s.onDlc fun d => Dlc.enterState new d.leaveState) asleep

theorem Dlc.entryActions_noticeMark (p : Params) (old : DockState) (d : Dlc) :
    (d.entryActions p old).noticeMark = d.noticeMark := by
  obtain ⟨phase, drv, count, delay, period, on, -, latch⟩ := Dlc.startLatch_cases p d
  unfold Dlc.entryActions
  split
  · rfl
  · rfl
  · rfl
  · rw [latch]
  · split <;> rfl
  all_goals rfl

theorem noticeMark_stable : Stable fun s => s.dlc.noticeMark = true :=
  Stable.of_dlc (R := fun d _ => d.noticeMark = true) (fun _ _ h => h) (fun _ _ _ _ => rfl)

/-! ## An accepted HELLO (R93, R105) -/

/-- The record of an attach (R102). -/
abbrev attachedRecord (i : Identity) : Record := partRecord .dock ([0, 3, 2, 0xFF, 0, 0] ++ halfBytes i.kind
  ++ [i.revision, i.flags, natByte i.nodes.length] ++ i.nodes.flatMap (fun n => [n.node, n.kind]))

theorem dockRecord_attached {d : Dlc} {i : Identity} (identity : d.identity = i) :
    dockRecord .attached .identifying .none (Dlc.enterState .attached d.leaveState) = attachedRecord i := by
  have kept : (Dlc.enterState .attached d.leaveState).identity = i := by
    rw [← identity]
    unfold Dlc.leaveState
    split <;> rfl
  simp only [dockRecord, Dlc.enterState_state, dockPeriods, reduceCtorEq, or_self, if_false, if_true, kept,
    Identity.bytes, attachedRecord, List.append_assoc]
  rfl

/-- An identified base before its change to ATTACHED: the new identity, and of the PSE no more than the base vector's
mark and the face gone. -/
def identified (i : Identity) (s : State) : State :=
  (s.onDlc fun d => { d with identity := i }).onPse fun p => if i.hasNode 3 then p else p.unbased

theorem acceptHello_eq {s : State} (identifying : s.dlc.state = .identifying) (i : Identity) : acceptHello i s
    = changeDock .attached (some .attached) .none (fun s => activity (wake .dockAttached s)) (identified i s) := by
  have forced : (s.onDlc fun d => { d with identity := i }).dlc.state.forcesSlate = true := by
    rw [State.onDlc_dlc, identifying]
    rfl
  simp only [acceptHello, identified]
  split
  · rfl
  · next unlisted => rw [invalidateBase_forced forced]

/-- The DLC's block after an accepted HELLO in IDENTIFYING. -/
abbrev Dlc.attachedAs (i : Identity) (d : Dlc) : Dlc :=
  { d with state := .attached, identity := i, helloTimer := none, identifyMark := false }

theorem Dlc.attachedAs_rest {d d' : Dlc} (h : d.rest = d'.rest) (i : Identity) :
    (d.attachedAs i).rest = (d'.attachedAs i).rest :=
  (congrArg (fun e => (Dlc.attachedAs i e).rest) h :)

/-- What an accepted HELLO leaves, of what it is told of. -/
structure Attaches (i : Identity) (s t : State) : Prop where
  dock : t.dlc.rest = (s.dlc.attachedAs i).rest
  notice : t.dlc.noticeMark = true
  time : t.time = s.time
  params : t.params = s.params
  link : t.hlc.link = s.hlc.link
  record : forcedUnknown s.pse.record t
  wakes : s.sdu.sleep.asleep = true → t.sdu.sleep = .waking

/-- The same told of a state that differs from the first only in what `Beyond` leaves open. -/
theorem Attaches.from {i : Identity} {s s' t : State} (h : Attaches i s t) (b : Beyond s' s)
    (sleep : s'.sdu.sleep.asleep = true → s.sdu.sleep.asleep = true) : Attaches i s' t where
  dock := h.dock.trans (Dlc.attachedAs_rest b.dock i)
  notice := h.notice
  time := h.time.trans b.time
  params := h.params.trans b.params
  link := h.link.trans b.link
  record := b.pse ▸ h.record
  wakes asleep := h.wakes (sleep asleep)

theorem identified_record (i : Identity) (s : State) : (identified i s).pse.record = s.pse.record := by
  simp only [identified, State.onPse_pse]
  split <;> rfl

theorem changed_attached {d : Dlc} (identifying : d.state = .identifying) (p : Params) : (d.changed p .attached).rest
    = ({ d with state := .attached, helloTimer := none, identifyMark := false } : Dlc).rest := by
  simp [Dlc.changed, Dlc.leaveState, identifying, Dlc.enterState, Dlc.entryActions, Dlc.rest, DockState.countsErrors]

/-- Entry to ATTACHED out of IDENTIFYING sets the notice mark (R91). -/
theorem enterState_notice {d : Dlc} (identifying : d.state = .identifying) :
    (Dlc.enterState .attached d.leaveState).noticeMark = true := by
  simp [Dlc.enterState, Dlc.leaveState, identifying, DockState.inUse]

theorem acceptHello_attaches {s : State} (identifying : s.dlc.state = .identifying) (i : Identity) :
    Attaches i s (acceptHello i s) := by
  rw [acceptHello_eq identifying]
  have known : (identified i s).dlc.state = .identifying := identifying
  have changes := changeDock_transition (new := .attached) (ev := some .attached) (cause := .none)
    (sdu_wakeActivity .dockAttached) (identified i s)
  refine ⟨changes.dock.trans (changed_attached known _), ?_, changes.time, changes.params, changes.link, ?_,
    fun asleep => ?_⟩
  · exact noticeMark_stable.changeDock_entered (fun _ _ h => h) (sdu_wakeActivity .dockAttached)
      (fun t ht => (Dlc.entryActions_noticeMark _ _ t.dlc).trans ht) (enterState_notice known)
  · rw [← identified_record i s]
    exact changeDock_attached (sdu_wakeActivity .dockAttached) (by simp [known])
  · exact changeDock_wakes (s := identified i s) asleep

theorem acceptHello_placed {l rs : List Record} {s : State} (identifying : s.dlc.state = .identifying) (i : Identity)
    (h : placed l rs s) : placed l (rs ++ [attachedRecord i]) (acceptHello i s) := by
  have record := changeDock_placed (new := .attached) (e := .attached) (cause := .none) (calm_wakeActivity .dockAttached)
    (s := identified i s) h
  rw [acceptHello_eq identifying]
  rwa [show (identified i s).dlc.state = .identifying from identifying, dockRecord_attached (i := i) rfl] at record

theorem acceptHello_behind {s : State} (identifying : s.dlc.state = .identifying) (i : Identity) (room : hasRoom 1 s) :
    s.rqu.urgent ++ stampAll s.time s.rqu.urgentGap [attachedRecord i] <+: (acceptHello i s).rqu.urgent := by
  have record := changeDock_behind (new := .attached) (e := .attached) (cause := .none) (calm_wakeActivity .dockAttached)
    (s := identified i s) room
  rw [acceptHello_eq identifying]
  rwa [show (identified i s).dlc.state = .identifying from identifying, dockRecord_attached (i := i) rfl] at record

end Sys2Proof.Machine
end

section
/-! PROOFS. O41: HELLO in IDENTIFYING and behind a restart, the HELLO timer and DOCK_RETRY. -/

namespace Sys2Proof.Machine

/-! ## HELLO at the management handling -/

/-- The re-enable leaves an SDU that is asleep so. -/
theorem reenableDock_asleep (b : Bool) : Keeps (fun s => s.sdu.sleep.asleep = b) reenableDock := by
  intro s hs
  have c := asleep_calm b
  have r : Reread fun s => s.sdu.sleep.asleep = b := .of_sdu fun u => u.sleep.asleep = b
  rw [reenableDock_eq, reenable_eq]
  generalize List.finRange 64 = l
  exact Stable.fold (P := fun s => s.sdu.sleep.asleep = b) (f := reenableStep dockSource)
    (fun i => reenableStep_keeps c r _ fun _ h => h) l hs

/-- In IDENTIFYING a node 0 restart is the re-enable alone. -/
theorem nodeZeroRestart_identifying {s : State} (identifying : s.dlc.state = .identifying) :
    nodeZeroRestart s = reenableDock s := by
  have forced : s.dlc.state.forcesSlate = true := by rw [identifying]; rfl
  have still : restartDock (reenableDock s) = reenableDock s :=
    restartDock_rest (by rw [(reenableDock_beyond s).dockState, forced])
  rw [nodeZeroRestart, restartDock_rest forced, still, ite_self]

/-- A HELLO in IDENTIFYING, with or without RESTART (R93, R105). -/
theorem management_hello {s : State} (identifying : s.dlc.state = .identifying) {payload : List Byte} {i : Identity}
    (hello : helloOf payload = some i) (restart : Bool) :
    let t := management 1 restart payload s
    Attaches i s t ∧ placed s.rqu.urgent [attachedRecord i] t
      ∧ (restart = false ∨ (∀ j, dormant s j = false) → hasRoom 1 s →
        s.rqu.urgent ++ stampAll s.time s.rqu.urgentGap [attachedRecord i] <+: t.rqu.urgent) := by
  have plain : management 1 false payload s = acceptHello i s := by
    rw [management, if_neg Bool.false_ne_true, managementClass_hello identifying hello]
  cases restart
  · rw [plain]
    exact ⟨acceptHello_attaches identifying i, acceptHello_placed identifying i (placed_nil s),
      fun _ => acceptHello_behind identifying i⟩
  · have b := reenableDock_beyond s
    have known : (reenableDock s).dlc.state = .identifying := b.dockState.trans identifying
    have handled : management 1 true payload s = acceptHello i (reenableDock s) := by
      rw [management, if_pos rfl, nodeZeroRestart_identifying identifying, managementClass_hello known hello]
    rw [handled]
    refine ⟨(acceptHello_attaches known i).from b (reenableDock_asleep true ·), ?_, fun first => ?_⟩
    · exact acceptHello_placed known i ((placed_stable _ _).reenableDock (placed_nil s))
    · have none := first.resolve_left (by simp)
      have same : reenableDock s = s := by rw [reenableDock_eq, reenable_none (named := dockSource) none]
      rw [same]
      exact acceptHello_behind identifying i

/-- A HELLO with RESTART in an attached state: the restart first, then the attach out of the IDENTIFYING that it leads to
(R92, R116). -/
theorem management_hello_mounted {s : State} (mounted : s.dlc.state.forcesSlate = false) {payload : List Byte}
    {i : Identity} (hello : helloOf payload = some i) :
    let t := management 1 true payload s
    t.dlc.rest = ((s.dlc.toIdentifying s.params).attachedAs i).rest ∧ t.dlc.noticeMark = true ∧ t.time = s.time
      ∧ t.params = s.params ∧ t.hlc.link = s.hlc.link
      ∧ (t.pse.record.posture = .unknown ∧ t.pse.record.previous = .slate
          ∧ t.pse.record.sequence = s.pse.record.sequence + 2
        ∨ t.pse.record.previous = .unknown ∧ t.pse.record.sequence = s.pse.record.sequence + 3)
      ∧ placed s.rqu.urgent [restartedRecord s.dlc.state, attachedRecord i] t
      ∧ (s.sdu.sleep.asleep = true → t.sdu.sleep = .waking) := by
  obtain ⟨handled, identifying⟩ := management_mounted mounted 1 payload
  rw [handled, managementClass_hello identifying hello]
  have restarts := nodeZeroRestart_transition mounted
  have attaches := acceptHello_attaches identifying i
  refine ⟨attaches.dock.trans (Dlc.attachedAs_rest restarts.dock i), attaches.notice, attaches.time.trans restarts.time,
    attaches.params.trans restarts.params, attaches.link.trans restarts.link, ?_,
    acceptHello_placed identifying i (nodeZeroRestart_placed mounted (placed_nil s)), fun asleep => attaches.wakes ?_⟩
  · obtain ⟨-, slate⟩ := restarts.slate rfl mounted
    rcases attaches.record with ⟨posture, previous, sequence, -⟩ | ⟨previous, sequence, -⟩
    · rw [slate] at previous sequence
      exact .inl ⟨posture, previous, by rw [sequence, BitVec.add_assoc]; rfl⟩
    · rw [slate] at sequence
      exact .inr ⟨previous, by rw [sequence, BitVec.add_assoc]; rfl⟩
  · have slept := (asleep_dockable true).restartDock
    exact nodeZeroRestart_leads slept slept (reenableDock_asleep true) asleep

/-! ## The HELLO timer and DOCK_RETRY (R104, R107) -/

/-- A kind's entry stays as it is in the raises of URGENT_LOSS and ROUTE_DISABLED. -/
theorem faultStays_stable {k : FaultKind} (loss : k ≠ .urgentLoss) (disabled : k ≠ .routeDisabled) (e : FaultEntry) :
    Stable fun s => s.hlc.faults[k.index] = e where
  enter _ _ _ _ h := h
  lose _ h := h
  rqu _ _ _ h := h
  sdu _ _ h := h
  tcl _ _ _ h := h
  pcc _ _ h := h
  fault k' hk' s h := by
    have other : k'.index ≠ k.index := by
      rcases hk' with rfl | rfl
      · exact fun e => loss (FaultKind.index_injective e.symm)
      · exact fun e => disabled (FaultKind.index_injective e.symm)
    rw [← h]
    exact Vector.getElem_set_ne k'.index.isLt k.index.isLt (by simpa [Fin.ext_iff] using other)
  unstall _ _ h := h
  notice _ _ h := h

theorem changed_faulted {d : Dlc} (identifying : d.state = .identifying) (p : Params) : (d.changed p .faulted).rest
    = ({ d with state := .faulted, helloTimer := none, identifyMark := false, errors := 0,
                errTimer := none } : Dlc).rest := by
  simp [Dlc.changed, Dlc.leaveState, identifying, Dlc.enterState, Dlc.entryActions, Dlc.rest, DockState.countsErrors,
    DockState.inUse]

theorem changed_retried {d : Dlc} (faulted : d.state = .faulted) (p : Params) : (d.changed p .identifying).rest
    = ({ d with state := .identifying, queries := 1, identifyMark := true, helloTimer := some p.helloTimeout.toNat,
                quiesceMark := none, slots := d.slots.filter (fun y => y.sending) } : Dlc).rest := by
  simp [Dlc.changed, Dlc.leaveState, faulted, Dlc.enterState, Dlc.entryActions, Dlc.rest, DockState.countsErrors,
    DockState.inUse]

/-- The record of the HELLO timer's last expiry (R102, R104). -/
theorem dockRecord_noHello (d : Dlc) :
    dockRecord .faulted .identifying .noHello (Dlc.enterState .faulted d) = partRecord .dock [11, 7, 2, 0, 0, 0] := by
  simp only [dockRecord, Dlc.enterState_state, dockPeriods, reduceCtorEq, or_self, if_false]
  rfl

theorem exec_helloTimerExpiry {s : State} {n : Nat} (runs : s.dlc.helloTimer = some n) :
    exec .helloTimerExpiry s = .next (drivePins (if s.dlc.queries < 3 then
        s.onDlc fun d => { d with
          queries := d.queries + 1, identifyMark := true, helloTimer := some s.params.helloTimeout.toNat }
      else raiseFault .dockLink (changeDock .faulted (some .faulted) .noHello nothing s))) := by
  show done (helloExpired s) = _
  simp only [helloExpired, runs, Option.isSome_some, if_true]
  rfl

/-- The HELLO timer's last expiry: FAULTED with its record, then DOCK_LINK (R104). -/
theorem helloTimer_last {s : State} (identifying : s.dlc.state = .identifying) :
    let t := raiseFault .dockLink (changeDock .faulted (some .faulted) .noHello nothing s)
    Transition s { s.dlc with
        state := .faulted, helloTimer := none, identifyMark := false, errors := 0, errTimer := none } t
      ∧ firstPlaced (partRecord .dock [11, 7, 2, 0, 0, 0]) s t
      ∧ t.hlc.faults[0] = ⟨true, min 255 (s.hlc.faults[0].count + 1)⟩ := by
  have changes := changeDock_transition (new := .faulted) (ev := some .faulted) (cause := .noHello) sdu_nothing s
  have stays := faultStays_stable (k := .dockLink) (by decide) (by decide) s.hlc.faults[FaultKind.dockLink.index]
  have entry : (changeDock .faulted (some .faulted) .noHello nothing s).hlc.faults[FaultKind.dockLink.index]
      = s.hlc.faults[FaultKind.dockLink.index] :=
    stays.changeDock_entered (fun _ _ h => h) sdu_nothing (fun _ h => h) rfl
  refine ⟨(changes.from (.refl s) (changed_faulted identifying _)).beyond (raiseFault_beyond _ _),
    firstPlaced_of_prefix fun room => ?_, ?_⟩
  · have behind := changeDock_behind (new := .faulted) (e := .faulted) (cause := .noHello) calm_nothing room
    rw [identifying, dockRecord_noHello] at behind
    exact (lanePrefix_dockable _).raiseFault _ behind
  · obtain ⟨⟨raised, -⟩, -⟩ := raised_raiseFault (k := .dockLink) (by decide) (by decide)
      (changeDock .faulted (some .faulted) .noHello nothing s)
    rw [entry] at raised
    exact raised

/-- An answer behind a transition, told of the state with the same answer. -/
theorem Transition.respond {s t : State} {d : Dlc} (h : Transition s d t) (ty tag : Byte) (status : Status)
    (payload : List Byte) : Transition (respond ty tag status payload s) d (respond ty tag status payload t) where
  time := h.time
  params := h.params
  link := by
    have link := h.link
    simp only [Hlc.link, Prod.mk.injEq] at link
    obtain ⟨-, interval, miso, frozen, transfer⟩ := link
    simp only [Hlc.link, Machine.respond, State.onHlc_hlc, interval, miso, frozen, transfer]
  choices := h.choices
  pending := h.pending
  dock := h.dock
  senses := h.senses
  slate := h.slate
  kept := h.kept
  unknown := h.unknown

theorem exec_dockRetry {s : State} (faulted : s.dlc.state = .faulted) (tag : Byte) : exec (.dockRetry tag) s
    = .next (drivePins (respond 0x22 tag .ok [] (changeDock .identifying none .none nothing s))) := by
  show done (retryDock tag s) = _
  rw [retryDock, if_pos faulted, done]

/-! ## HELLO without RESTART where it does not attach (R92, R93) -/

/-- A HELLO that is not well formed adds to the count of a window that runs (R84). -/
theorem linkError_counts {s : State} (identifying : s.dlc.state = .identifying)
    (below : s.dlc.errors + 1 < s.params.linkErrLimit.toNat) (runs : s.dlc.errTimer.isSome = true) :
    linkError s = s.onDlc fun d => { d with errors := d.errors + 1 } := by
  have counting : s.dlc.state.countsErrors = true := by rw [identifying]; rfl
  have running : s.dlc.errTimer ≠ none := Option.isSome_iff_ne_none.mp runs
  rw [linkError_below counting (by rwa [Dlc.counted, if_neg running])]
  simp only [State.onDlc, Dlc.countError_counted, Dlc.counted, if_neg running]

/-- Outside IDENTIFYING a HELLO without RESTART is discarded. -/
theorem arrival_hello_discarded {s : State} {payload : List Byte} (fits : payload.length ≤ 32)
    (state : s.dlc.state ∈ [DockState.sensed, .attached, .detachRequested, .quiescing, .releasing, .faulted]) :
    exec (.dockFrameArrival 0 1 false payload) s = .next (drivePins (setRx .hunt s)) := by
  by_cases sensed : s.dlc.state = .sensed
  · exact arrival_discarded fits (.inl sensed)
  · have others : s.dlc.state ∉ [DockState.absent, .sensed] ∧ s.dlc.state ≠ .identifying := by
      revert state sensed
      cases s.dlc.state <;> decide
    obtain ⟨handled, other⟩ := others
    rw [arrival_managed fits handled, management, if_neg Bool.false_ne_true,
      managementClass_other (s := setRx .hunt s) (fun h => other h.2) (by simp)]

/-- Settles O41. An accepted HELLO is a change to ATTACHED behind at most a restart, which `Beyond` or a transition of its
own describes; the timer's last expiry and DOCK_RETRY are changes of dock state too. -/
theorem helloAttachesOrTimesOut : Obligations.HelloAttachesOrTimesOut := by
  intro s payload n tag fits attached
  refine ⟨fun i restart identifying hello => ?_, fun i mounted hello => ?_, fun identifying bad below runs => ?_,
    fun state => ?_, fun runs more => ?_, fun identifying runs last => ?_, fun faulted => ?_⟩
  · have handled : s.dlc.state ∉ [DockState.absent, .sensed] := by simp [identifying]
    obtain ⟨attaches, records, first⟩ := management_hello (s := setRx .hunt s) identifying hello restart
    refine ⟨_, arrival_managed fits handled, attaches.dock, attaches.notice, attaches.time, attaches.params,
      attaches.link, ?_, fun none => firstPlaced_of_prefix (first none), records.2, fun standby => attaches.wakes ?_⟩
    · rcases attaches.record with ⟨posture, -, sequence, -⟩ | ⟨previous, sequence, -⟩
      · exact .inl ⟨posture, sequence⟩
      · exact .inr ⟨previous, sequence⟩
    · exact congrArg SleepState.asleep standby
  · have mounted := mounted_iff.mp mounted
    obtain ⟨dock, notice, time, params, link, record, records, wakes⟩ :=
      management_hello_mounted (s := setRx .hunt s) mounted hello
    obtain ⟨-, first, -⟩ := management_restart_mounted (s := setRx .hunt s) (cls := 1) (payload := payload) mounted
    exact ⟨_, arrival_managed fits (handled_of_mounted mounted), dock, notice, time, params, link, record, records.2,
      fun none => firstPlaced_of_prefix (first none), fun standby => wakes (congrArg SleepState.asleep standby)⟩
  · have handled : s.dlc.state ∉ [DockState.absent, .sensed] := by simp [identifying]
    rw [arrival_managed fits handled, management, if_neg Bool.false_ne_true,
      managementClass_badHello (s := setRx .hunt s) identifying bad,
      linkError_counts (s := setRx .hunt s) identifying below runs]
    rfl
  · exact arrival_hello_discarded fits state
  · rw [exec_helloTimerExpiry runs, if_pos more]
    rfl
  · obtain ⟨changes, first, entry⟩ := helloTimer_last identifying
    exact ⟨_, by rw [exec_helloTimerExpiry runs, if_neg (Nat.not_lt.mpr last)], changes.pins, first, entry⟩
  · have changes := changeDock_transition (new := .identifying) (ev := none) (cause := .none) sdu_nothing s
    exact ⟨_, exec_dockRetry faulted tag, rfl,
      ((changes.from (.refl s) (changed_retried faulted _)).respond 0x22 tag .ok []).pins⟩

end Sys2Proof.Machine
end

section
/-! PROOFS. The classifier's block through placing and recomputation (O59): what its invariant says of the TCL alone, and
of the stall with the buffer. Placing and waking do not reach the TCL; a recomputation passes through states in which the
stored actions are out of date and leads back to the whole invariant. -/

namespace Sys2Proof.Machine

/-! ## The parts of the invariant -/

/-- What the classifier's invariant says of the TCL's block, the stall apart, and an invalid entry's stored action. -/
structure Tcl.Sound (t : Tcl) : Prop where
  keys : ∀ i j : Fin 64, t.routes[i].valid = true → t.routes[j].valid = true →
    t.routes[i].source = t.routes[j].source → t.routes[i].cls = t.routes[j].cls → i = j
  room : t.pool.length ≤ 32
  nodup : t.pool.Nodup
  held : ∀ x ∈ t.pool, t.routes[x.entry].effective = .forward
  marks : ∀ i : Fin 64, t.routes[i].overflow = true → t.routes[i].effective = .forward
  counts : ∀ i : Fin 64, t.routes[i].hits ≤ 65535 ∧ t.routes[i].errors ≤ 15
  invalid : ∀ i : Fin 64, t.routes[i].valid = false → t.routes[i].effective = .drop

/-- A stalled frame is the head of the buffer (R60). -/
abbrev stallHasFrame (s : State) : Prop := s.tcl.stall.isSome = true → s.dlc.buffer ≠ []

/-- The entry of a stalled frame forwards (R61, R62). -/
abbrev stallForwards (s : State) : Prop :=
  ∀ st, s.tcl.stall = some st → s.tcl.routes[st.entry].effective = .forward

/-- The part of the invariant that no posture, dock state or sleep state decides. -/
structure RoutesSound (s : State) : Prop where
  sound : s.tcl.Sound
  frame : stallHasFrame s
  forwards : stallForwards s

theorem effectiveAction_invalid (s : State) {e : RouteEntry} (invalid : e.valid = false) :
    effectiveAction s e = .drop := by
  simp [effectiveAction, invalid]

theorem trafficInv_iff (s : State) : trafficInv s ↔ RoutesSound s ∧ ∀ i, fresh i s := by
  constructor
  · rintro ⟨keys, fresh, room, nodup, held, marks, stalled, counts⟩
    exact ⟨⟨⟨keys, room, nodup, held, marks, counts,
      fun i invalid => (fresh i).trans (effectiveAction_invalid s invalid)⟩,
      fun some => by
        obtain ⟨st, e⟩ := Option.isSome_iff_exists.mp some
        exact (stalled st e).1,
      fun st e => (stalled st e).2⟩, fresh⟩
  · rintro ⟨⟨⟨keys, room, nodup, held, marks, counts, _⟩, frame, forwards⟩, fresh⟩
    exact ⟨keys, fresh, room, nodup, held, marks, fun st e => ⟨frame (by simp [e]), forwards st e⟩, counts⟩

/-- The TCL's block and the buffer decide it. -/
theorem RoutesSound.congr {s t : State} (h : RoutesSound s) (tcl : t.tcl = s.tcl) (buffer : t.dlc.buffer = s.dlc.buffer) :
    RoutesSound t := by
  obtain ⟨sound, frame, forwards⟩ := h
  exact ⟨tcl ▸ sound, by rwa [stallHasFrame, tcl, buffer], by rwa [stallForwards, tcl]⟩

theorem trafficInv_congr {s t : State} (h : trafficInv s) (tcl : t.tcl = s.tcl) (buffer : t.dlc.buffer = s.dlc.buffer)
    (used : t.dlc.state.inUse = s.dlc.state.inUse) (posture : t.posture = s.posture)
    (sleep : t.sdu.sleep.asleep = s.sdu.sleep.asleep) : trafficInv t := by
  obtain ⟨sound, fresh⟩ := (trafficInv_iff s).mp h
  exact (trafficInv_iff t).mpr ⟨sound.congr tcl buffer, fun i => fresh_congr tcl used posture sleep (fresh i)⟩

theorem routesSound_calm : Calm RoutesSound where
  enter _ _ _ _ h := h.congr rfl rfl
  lose _ h := h.congr rfl rfl
  fault _ _ h := h.congr rfl rfl
  pcc _ _ h := h.congr rfl rfl
  sdu _ _ _ h := h.congr rfl rfl

theorem trafficInv_calm : Calm trafficInv where
  enter _ _ _ _ h := trafficInv_congr h rfl rfl rfl rfl rfl
  lose _ h := trafficInv_congr h rfl rfl rfl rfl rfl
  fault _ _ h := trafficInv_congr h rfl rfl rfl rfl rfl
  pcc _ _ h := trafficInv_congr h rfl rfl rfl rfl rfl
  sdu _ _ leads h := trafficInv_congr h rfl rfl rfl rfl leads.1

/-! ## The TCL's block rewritten -/

/-- An entry rewritten, with the pool that is left: its key stays its own, and it forwards if it holds an item or its
overflow mark is set. -/
theorem Tcl.Sound.set {t : Tcl} (h : t.Sound) {i : Fin 64} {e : RouteEntry} {p : List PoolSlot} (left : p.Sublist t.pool)
    (key : e.valid = true → ∀ j : Fin 64, j ≠ i → t.routes[j].valid = true →
      ¬ (t.routes[j].source = e.source ∧ t.routes[j].cls = e.cls))
    (held : (∃ x ∈ p, x.entry = i) → e.effective = .forward) (mark : e.overflow = true → e.effective = .forward)
    (counts : e.hits ≤ 65535 ∧ e.errors ≤ 15) (invalid : e.valid = false → e.effective = .drop) :
    Tcl.Sound { t with routes := t.routes.set i e, pool := p } where
  keys j k := by
    simp only [routes_set_getElem]
    split
    · next hj =>
      split
      · next hk => exact fun _ _ _ _ => hj.symm.trans hk
      · next hk => exact fun vj vk source cls => absurd ⟨source.symm, cls.symm⟩ (key vj k (Ne.symm hk) vk)
    · next hj =>
      split
      · next hk => exact fun vj vk source cls => absurd ⟨source, cls⟩ (key vk j (Ne.symm hj) vj)
      · exact h.keys j k
  room := left.length_le.trans h.room
  nodup := h.nodup.sublist left
  held x mem := by
    rw [routes_set_getElem]
    split
    · next here => exact held ⟨x, mem, here.symm⟩
    · exact h.held x (left.subset mem)
  marks j := by
    rw [routes_set_getElem]
    split
    · exact mark
    · exact h.marks j
  counts j := by
    rw [routes_set_getElem]
    split
    · exact counts
    · exact h.counts j
  invalid j := by
    rw [routes_set_getElem]
    split
    · exact invalid
    · exact h.invalid j

/-- No other valid entry has the key of a valid entry. -/
theorem Tcl.Sound.ownKey {t : Tcl} (h : t.Sound) (i : Fin 64) (valid : t.routes[i].valid = true) :
    ∀ j : Fin 64, j ≠ i → t.routes[j].valid = true →
      ¬ (t.routes[j].source = t.routes[i].source ∧ t.routes[j].cls = t.routes[i].cls) :=
  fun j other validj ⟨source, cls⟩ => other (h.keys j i validj valid source cls)

/-- An entry whose host fields and effective action stay is rewritten. -/
theorem Tcl.Sound.rewrite {t : Tcl} (h : t.Sound) {i : Fin 64} {e : RouteEntry}
    (host : e.hostFields = t.routes[i].hostFields) (effective : e.effective = t.routes[i].effective)
    (mark : e.overflow = true → t.routes[i].effective = .forward) (counts : e.hits ≤ 65535 ∧ e.errors ≤ 15) :
    Tcl.Sound { t with routes := t.routes.set i e } := by
  have valid : e.valid = t.routes[i].valid := (congrArg RouteEntry.valid host :)
  have source : e.source = t.routes[i].source := (congrArg RouteEntry.source host :)
  have cls : e.cls = t.routes[i].cls := (congrArg RouteEntry.cls host :)
  refine h.set (List.Sublist.refl _) ?_ ?_ (fun set => effective.trans (mark set)) counts fun invalid => ?_
  · rw [valid, source, cls]
    exact h.ownKey i
  · rintro ⟨x, mem, rfl⟩
    exact effective.trans (h.held x mem)
  · exact effective.trans (h.invalid i (valid ▸ invalid))

/-- A slot of an entry that forwards leaves the pool, or any other. -/
theorem Tcl.Sound.release {t : Tcl} (h : t.Sound) (p : PoolSlot → Bool) :
    Tcl.Sound { t with pool := t.pool.filter p } :=
  ⟨h.keys, (List.length_filter_le _ _).trans h.room, h.nodup.filter _,
    fun x mem => h.held x (List.mem_of_mem_filter mem), h.marks, h.counts, h.invalid⟩

/-- A new slot of an entry that forwards enters the pool (R66). -/
theorem Tcl.Sound.hold {t : Tcl} (h : t.Sound) {x : PoolSlot} (forwards : t.routes[x.entry].effective = .forward)
    (room : t.pool.length < 32) (new : x ∉ t.pool) : Tcl.Sound { t with pool := t.pool ++ [x] } where
  keys := h.keys
  room := by simpa using room
  nodup := h.nodup.append (List.nodup_singleton x) (List.disjoint_singleton.mpr new)
  held y mem := by
    rcases List.mem_append.mp mem with mem | mem
    · exact h.held y mem
    · rw [List.mem_singleton.mp mem]
      exact forwards
  marks := h.marks
  counts := h.counts
  invalid := h.invalid

theorem poolHolds_iff {p : List PoolSlot} {i : Fin 64} {item : Byte} :
    poolHolds p i item = true ↔ (⟨i, item⟩ : PoolSlot) ∈ p := by
  simp only [poolHolds, List.any_eq_true, Bool.and_eq_true, decide_eq_true_eq]
  constructor
  · rintro ⟨x, mem, rfl, rfl⟩
    exact mem
  · exact fun mem => ⟨_, mem, rfl, rfl⟩

/-! ## Placing and release synthesis at the TCL and the DLC -/

/-- Placing, waking and activity do not reach the TCL. -/
theorem tcl_calm (t : Tcl) : Calm fun s => s.tcl = t :=
  ⟨fun _ _ _ _ h => h, fun _ h => h, fun _ _ h => h, fun _ _ h => h, fun _ _ _ h => h⟩

theorem place_tcl (r : Record) (s : State) : (place r s).tcl = s.tcl := (tcl_calm s.tcl).place r rfl
theorem place_dlc (r : Record) (s : State) : (place r s).dlc = s.dlc := (dlc_calm s.dlc).place r rfl

theorem releaseSlots_dlc (e : RouteEntry) (c : SynthCause) :
    ∀ (l : List PoolSlot) (s : State), (releaseSlots place e c l s).dlc = s.dlc
  | [], _ => rfl
  | _ :: rest, s => (releaseSlots_dlc e c rest _).trans (place_dlc _ s)

theorem releaseSlots_tcl (e : RouteEntry) (c : SynthCause) :
    ∀ (l : List PoolSlot) (s : State),
      (releaseSlots place e c l s).tcl = { s.tcl with pool := s.tcl.pool.filter fun x => decide (x ∉ l) }
  | [], s => by simp [releaseSlots]
  | x :: rest, s => by
    rw [releaseSlots, releaseSlots_tcl e c rest]
    simp only [State.onTcl_tcl, place_tcl, List.filter_filter, List.mem_cons, not_or]
    congr 1
    refine List.filter_congr fun y _ => ?_
    by_cases y = x <;> simp [*]

/-- The pool without the slots of one entry, which keeps the others' order (R73). -/
abbrev poolWithout (p : List PoolSlot) (i : Fin 64) : List PoolSlot := p.filter fun x => decide (x.entry ≠ i)

theorem filter_slotsOf (p : List PoolSlot) (i : Fin 64) :
    (p.filter fun x => decide (x ∉ slotsOf p i)) = poolWithout p i :=
  List.filter_congr fun x mem => by simp [slotsOf, mem]

theorem routes_set_self (v : Vector RouteEntry 64) (i : Fin 64) : v.set i v[i] = v :=
  Vector.set_getElem_self i.isLt

/-- Release synthesis takes the entry's slots from the pool and clears its overflow mark (R73). -/
theorem synthesize_tcl (c : SynthCause) (i : Fin 64) (s : State) : (synthesize place c i s).tcl =
    { s.tcl with
      routes := s.tcl.routes.set i { s.tcl.routes[i] with overflow := false }
      pool := poolWithout s.tcl.pool i } := by
  have released := releaseSlots_tcl s.tcl.routes[i] c (slotsOf s.tcl.pool i) s
  rw [filter_slotsOf] at released
  simp only [synthesize]
  split
  · simp only [State.onRoute, State.onTcl_tcl, place_tcl, released]
  · next unmarked =>
    rw [released]
    have same : { s.tcl.routes[i] with overflow := false } = s.tcl.routes[i] := by
      rw [← Bool.not_eq_true _ |>.mp unmarked]
    rw [same, routes_set_self]

theorem synthesize_dlc (c : SynthCause) (i : Fin 64) (s : State) : (synthesize place c i s).dlc = s.dlc := by
  simp only [synthesize]
  split
  · exact (place_dlc _ _).trans (releaseSlots_dlc _ _ _ s)
  · exact releaseSlots_dlc _ _ _ s

/-! ## The stall -/

/-- A frame's effect on the pool, on an entry that forwards (R66 to R69). -/
theorem poolEffect_sound {i : Fin 64} (f : Frame) (placed : Bool) {s : State} (sound : s.tcl.Sound)
    (forwards : s.tcl.routes[i].effective = .forward) : (poolEffect i f placed s).tcl.Sound := by
  have marked {t : Tcl} (h : t.Sound) (forwards : t.routes[i].effective = .forward) :
      Tcl.Sound { t with routes := t.routes.set i { t.routes[i] with overflow := true } } :=
    h.rewrite rfl rfl (fun _ => forwards) (h.counts i)
  unfold poolEffect
  split
  · split
    · split
      · exact sound
      · next new =>
        simp only [Bool.or_eq_true, Bool.not_eq_true', not_or, Bool.not_eq_false, poolHolds_iff] at new
        split
        · next room => exact sound.hold forwards room new.1
        · exact marked sound forwards
    · split
      · simp only
        split
        · exact sound.release _
        · exact marked (sound.release _) forwards
      · exact sound
    · exact sound
  · exact sound

/-- A frame's effect writes nothing but the pool and its entry's overflow mark (R66 to R69). -/
theorem poolEffect_eq (i : Fin 64) (f : Frame) (placed : Bool) (s : State) : ∃ p o, poolEffect i f placed s =
    s.onTcl fun t => { t with pool := p, routes := t.routes.set i { t.routes[i] with overflow := o } } := by
  have rests (p : List PoolSlot) : ∃ p' o, s.onTcl (fun t => { t with pool := p }) =
      s.onTcl fun t => { t with pool := p', routes := t.routes.set i { t.routes[i] with overflow := o } } :=
    ⟨p, s.tcl.routes[i].overflow, congrArg (fun v => s.onTcl fun t => { t with pool := p, routes := v })
      (routes_set_self s.tcl.routes i).symm⟩
  unfold poolEffect
  split
  · split
    · split
      · exact rests s.tcl.pool
      · split
        · exact rests _
        · exact ⟨s.tcl.pool, true, rfl⟩
    · split
      · simp only
        split
        · exact rests _
        · exact ⟨_, true, rfl⟩
      · exact rests s.tcl.pool
    · exact rests s.tcl.pool
  · exact rests s.tcl.pool

theorem poolEffect_stall (i : Fin 64) (f : Frame) (placed : Bool) (s : State) :
    (poolEffect i f placed s).tcl.stall = s.tcl.stall := by
  obtain ⟨p, o, e⟩ := poolEffect_eq i f placed s
  rw [e]
  rfl

theorem poolEffect_dlc (i : Fin 64) (f : Frame) (placed : Bool) (s : State) :
    (poolEffect i f placed s).dlc = s.dlc := by
  obtain ⟨p, o, e⟩ := poolEffect_eq i f placed s
  rw [e]
  rfl

theorem poolEffect_effective (i j : Fin 64) (f : Frame) (placed : Bool) (s : State) :
    (poolEffect i f placed s).tcl.routes[j].effective = s.tcl.routes[j].effective := by
  obtain ⟨p, o, e⟩ := poolEffect_eq i f placed s
  rw [e]
  simp only [State.onTcl_tcl, routes_set_getElem]
  split
  · next here => rw [here]
  · rfl

/-- Without a stall nothing is asked of it. -/
theorem RoutesSound.unstalled {s : State} (sound : s.tcl.Sound) (none : s.tcl.stall = none) : RoutesSound s :=
  ⟨sound, fun some => by simp [none] at some, fun st e => by simp [none] at e⟩

theorem endStall_sound {s : State} (sound : s.tcl.Sound) : RoutesSound (endStall s) :=
  .unstalled (s := endStall s) ⟨sound.keys, sound.room, sound.nodup, sound.held, sound.marks, sound.counts,
    sound.invalid⟩ rfl

/-- The end of a stall with its frame's effect on the pool. -/
theorem poolEffect_endStall_sound {i : Fin 64} (f : Frame) (placed : Bool) {s : State} (sound : s.tcl.Sound)
    (forwards : s.tcl.routes[i].effective = .forward) : RoutesSound (poolEffect i f placed (endStall s)) :=
  .unstalled (poolEffect_sound f placed (endStall_sound sound).sound forwards)
    (poolEffect_stall i f placed (endStall s))

/-- A retry leaves a stall only where its entry forwards (R61). -/
theorem retryStall_sound {s : State} (sound : s.tcl.Sound) (frame : stallHasFrame s) : RoutesSound (retryStall s) := by
  unfold retryStall
  split
  · next st f rest stalled _ =>
    split
    · next forwards =>
      split
      · exact poolEffect_endStall_sound f true (s := enterUrgent true _ s) sound forwards
      · refine ⟨sound, frame, fun st' e => ?_⟩
        cases stalled.symm.trans e
        exact forwards
    · exact endStall_sound sound
  · next none =>
    cases stalled : s.tcl.stall with
    | none => exact .unstalled sound stalled
    | some st =>
      obtain ⟨f, rest, head⟩ := List.exists_cons_of_ne_nil (frame (by simp [stalled]))
      exact absurd head (none st f rest stalled)

/-- The look at the stall after a recomputation, if the stalled entry forwarded before it (R55, R61). -/
theorem retryIfChanged_sound {before : Option RouteAction} {s : State} (sound : s.tcl.Sound) (frame : stallHasFrame s)
    (forwarded : s.tcl.stall.isSome = true → before = some .forward) : RoutesSound (retryIfChanged before s) := by
  unfold retryIfChanged
  split
  · exact retryStall_sound sound frame
  · next same =>
    refine ⟨sound, frame, fun st stalled => ?_⟩
    have isSome : s.tcl.stall.isSome = true := by simp [stalled]
    rw [forwarded isSome, isSome, Bool.true_and, decide_eq_true_eq, not_not, stalledAction, stalled] at same
    exact Option.some.inj same

/-! ## Recomputation (R55, R72) -/

/-- The TCL is sound, its stall and the buffer stand as named. -/
abbrev soundWith (stall : Option Stall) (buffer : List Frame) (s : State) : Prop :=
  s.tcl.Sound ∧ s.tcl.stall = stall ∧ s.dlc.buffer = buffer

/-- An entry's own part in a recomputation releases what it holds where it leaves FORWARD. -/
theorem recomputeEntry_sound (c : SynthCause) (i : Fin 64) (stall buffer) :
    Keeps (soundWith stall buffer) (recomputeEntry place c i) := by
  rintro s ⟨sound, rfl, rfl⟩
  simp only [recomputeEntry]
  split
  · exact ⟨sound, rfl, rfl⟩
  · next changes =>
    simp only [Bool.or_eq_true, Bool.not_eq_true', decide_eq_true_eq, not_or, Bool.not_eq_false] at changes
    obtain ⟨valid, changes⟩ := changes
    have unheld (p : List PoolSlot) (none : ∀ x ∈ p, x.entry ≠ i) (e : RouteEntry) (left : p.Sublist s.tcl.pool)
        (host : e.hostFields = s.tcl.routes[i].hostFields) (unmarked : e.overflow = false)
        (counts : e.hits ≤ 65535 ∧ e.errors ≤ 15) :
        Tcl.Sound { s.tcl with routes := s.tcl.routes.set i e, pool := p } := by
      have hv : e.valid = s.tcl.routes[i].valid := (congrArg RouteEntry.valid host :)
      have hs : e.source = s.tcl.routes[i].source := (congrArg RouteEntry.source host :)
      have hc : e.cls = s.tcl.routes[i].cls := (congrArg RouteEntry.cls host :)
      refine sound.set left (fun _ => ?_) (fun ⟨x, mem, here⟩ => absurd here (none x mem))
        (fun mark => absurd mark (by simp [unmarked])) counts (fun invalid => absurd (hv.trans valid) (by simp [invalid]))
      rw [hs, hc]
      exact sound.ownKey i valid
    split
    · have synth := synthesize_tcl (synthCause c s.tcl.routes[i] s) i
        (s.onRoute i fun e => { e with effective := effectiveAction s s.tcl.routes[i] })
      refine ⟨?_, by rw [synth]; rfl, congrArg Dlc.buffer (synthesize_dlc _ i _)⟩
      rw [synth, onRoute_routes, if_pos rfl]
      simp only [State.onRoute, State.onTcl_tcl]
      rw [Vector.set_set]
      exact unheld _ (fun x mem => by simpa using (List.mem_filter.mp mem).2) _ List.filter_sublist rfl rfl
        (sound.counts i)
    · next other =>
      refine ⟨unheld s.tcl.pool (fun x mem here => other ?_) _ (List.Sublist.refl _) rfl ?_ (sound.counts i), rfl, rfl⟩
      · rw [← here]
        exact sound.held x mem
      · exact Bool.eq_false_iff.mpr fun mark => other (sound.marks i mark)

/-- An entry's own part brings its action up to date, whether it is valid or not. -/
theorem recomputeEntry_own (c : SynthCause) {i : Fin 64} {s : State} (sound : s.tcl.Sound) :
    fresh i (recomputeEntry place c i s) := by
  cases valid : s.tcl.routes[i].valid
  · have still : recomputeEntry place c i s = s := if_pos (by rw [valid]; rfl)
    rw [still]
    exact (sound.invalid i valid).trans (effectiveAction_invalid s valid).symm
  · exact (recomputeEntry_fresh valid c (e := s.tcl.routes[i]) ⟨_, _, rfl⟩).2

/-- The stored action of a stalled entry that forwards. -/
theorem stalledAction_forwards {s : State} (forwards : stallForwards s) :
    s.tcl.stall.isSome = true → stalledAction s = some .forward := by
  intro some
  obtain ⟨st, stalled⟩ := Option.isSome_iff_exists.mp some
  rw [stalledAction, stalled, Option.map_some, forwards st stalled]

/-- A recomputation leads from what no posture, dock state or sleep state decides to the whole invariant. -/
theorem recompute_traffic (c : SynthCause) {s : State} (h : RoutesSound s) : trafficInv (recompute c s) := by
  obtain ⟨sound, frame, forwards⟩ := h
  obtain ⟨folded, stall, buffer⟩ : soundWith s.tcl.stall s.dlc.buffer
      ((List.finRange 64).foldl (fun s i => recomputeEntry place c i s) s) := by
    generalize List.finRange 64 = l
    exact Stable.fold (f := fun s i => recomputeEntry place c i s) (fun i => recomputeEntry_sound c i _ _) l
      ⟨sound, rfl, rfl⟩
  have sound' : RoutesSound (recompute c s) := by
    rw [recompute, recomputeWith]
    refine retryIfChanged_sound folded ?_ ?_
    · rwa [stallHasFrame, stall, buffer]
    · rw [stall]
      exact stalledAction_forwards forwards
  refine (trafficInv_iff _).mpr ⟨sound', fun i => ?_⟩
  cases valid : s.tcl.routes[i].valid
  · have rests := (entryIs_reread s.tcl.routes[i] i).recompute (entryIs_calm _ i).place c (s := s) ⟨_, _, rfl⟩
    obtain ⟨a, o, read⟩ := rests
    have valid' : (recompute c s).tcl.routes[i].valid = false := by rw [read]; exact valid
    exact (sound'.sound.invalid i valid').trans (effectiveAction_invalid _ valid').symm
  · exact (recompute_fresh valid c (e := s.tcl.routes[i]) ⟨_, _, rfl⟩).2

/-- One entry's recomputation, with the look at the stall, leads to the invariant where the other entries meet it. -/
theorem recomputeEntry_traffic (c : SynthCause) {i : Fin 64} {s : State} (h : RoutesSound s)
    (others : ∀ j, j ≠ i → fresh j s) :
    trafficInv (retryIfChanged (stalledAction s) (recomputeEntry place c i s)) := by
  obtain ⟨sound, frame, forwards⟩ := h
  obtain ⟨sound', stall, buffer⟩ := recomputeEntry_sound c i s.tcl.stall s.dlc.buffer ⟨sound, rfl, rfl⟩
  refine (trafficInv_iff _).mpr ⟨retryIfChanged_sound sound' ?_ ?_, fun j => (fresh_reread j).retryIfChanged _ ?_⟩
  · rwa [stallHasFrame, stall, buffer]
  · rw [stall]
    exact stalledAction_forwards forwards
  · by_cases here : j = i
    · rw [here]
      exact recomputeEntry_own c sound
    · exact (fresh_reread j).recomputeEntry (fresh_calm j).place c i (others j here)

end Sys2Proof.Machine
end

section
/-! PROOFS. Placing, waking and activity within the larger operations: what `Calm` carries over, the pen and the sleep
decisions carry over too, HOST_STATE apart; and with `Posed` the orientation, the hinge and the face. -/

namespace Sys2Proof.Machine

namespace Calm

variable {P : State → Prop} (h : Calm P)
include h

/-! ## Pen -/

theorem runCycle : Keeps P runCycle := by
  intro s hs
  unfold Machine.runCycle
  split
  · exact hs
  · exact h.pcc _ hs

/-- An update of the PCC with its record. -/
theorem penRecorded (f : Pcc → Pcc) (r : State → Record) : Keeps P fun s => Machine.place (r (s.onPcc f)) (s.onPcc f) :=
  fun _ hs => h.place _ (h.pcc f hs)

theorem beginSession (o) : Keeps P (beginSession Machine.place o) := h.penRecorded _ _

theorem penFull : Keeps P penFull := fun _ hs => h.place _ (h.pcc _ hs)

theorem penDocked (l) : Keeps P (penDocked l) := by
  intro s hs
  refine h.activity ?_
  split
  · exact h.beginSession _ (h.place _ (h.pcc _ (h.pcc _ hs)))
  · exact h.place _ (h.pcc _ (h.pcc _ hs))

theorem penRemoved : Keeps P penRemoved := by
  intro s hs
  have removed := h.activity (h.penRecorded
    (fun p => { (p.closeSession .removed).leaveCharging with state := .searching, level := none, silentProbes := 0 })
    (penRecord .removed s.pcc.state .none) hs)
  simp only [Machine.penRemoved]
  split
  · exact h.wake _ removed
  · exact removed

theorem countSilent : Keeps P countSilent := by
  intro s hs
  have counted := h.pcc (fun p => { p with silentProbes := min 15 (p.silentProbes + 1) }) hs
  simp only [Machine.countSilent]
  split
  · exact h.penRemoved counted
  · exact counted

theorem decodeChange (r) : Keeps P (decodeChange r) := by
  intro s hs
  have heard (l : Nat) : P (if l = 100 then Machine.penFull (s.onPcc (Pcc.heard l)) else s.onPcc (Pcc.heard l)) := by
    split
    · exact h.penFull (h.pcc _ hs)
    · exact h.pcc _ hs
  unfold Machine.decodeChange
  split
  case h_2 => exact h.penDocked _ hs
  case h_5 | h_6 => exact heard _
  case h_9 | h_10 | h_11 | h_12 => exact h.countSilent hs
  case h_1 | h_3 | h_4 | h_7 | h_8 => exact h.pcc _ hs
  all_goals exact hs

theorem decode : Keeps P decode := fun _ hs => h.penAllowance (h.decodeChange _ hs)

theorem placeSet (p) : Keeps P (placeSet p) := by
  intro s hs
  unfold Machine.placeSet
  split
  · simp only
    split
    · exact h.runCycle (h.pcc _ (h.pcc _ hs))
    · exact h.pcc _ hs
  · exact h.pcc _ hs

theorem penFails (e c) : Keeps P (penFails e c) := fun _ hs => h.raiseFault _ (h.place _ (h.pcc _ hs))

theorem sessionLimit : Keeps P sessionLimit := by
  intro s hs
  unfold Machine.sessionLimit
  split
  · exact h.penFails _ _ (h.pcc _ hs)
  · exact hs

theorem checkLimit : Keeps P checkLimit := by
  intro s hs
  unfold Machine.checkLimit
  split
  · exact h.sessionLimit hs
  · exact h.pcc _ hs

theorem applyStaged : Keeps P applyStaged := by
  intro s hs
  unfold Machine.applyStaged
  split
  · exact hs
  · next set _ =>
    have active := h.pcc (fun p => { p with active := set, staged := none }) hs
    simp only
    split
    · exact h.penRecorded _ _ active
    · split
      · exact h.penAllowance (h.checkLimit active)
      · exact h.checkLimit (h.penAllowance active)

theorem cycleEnd : Keeps P cycleEnd := by
  intro s hs
  unfold Machine.cycleEnd
  split
  · refine h.runCycle (h.applyStaged ?_)
    split
    · exact h.decode hs
    · exact hs
  · exact hs

theorem progressExpired : Keeps P progressExpired := by
  intro s hs
  unfold Machine.progressExpired
  split
  · split
    · exact h.pcc _ hs
    · exact h.penFails _ _ hs
  · exact hs

/-! ## Sleep -/

theorem gatherEnd : Keeps P (gatherEnd Machine.place) := fun _ hs => h.place _ (h.sameSleep hs)

/-- RESUME and SLEEP from an awake state are updates of the SDU with a verdict. -/
theorem resumeActive {s : State} (awake : s.sdu.sleep.asleep = false) (hs : P s) : P (resumeActive s) := by
  rw [resumeActive_eq awake]
  exact h.verdict _ _ _ awake rfl hs

theorem adviseSleep (reason) {s : State} (awake : s.sdu.sleep.asleep = false) (hs : P s) :
    P (adviseSleep reason s) := by
  rw [adviseSleep_eq reason awake]
  exact h.verdict _ _ _ awake rfl hs

theorem dimExpired : Keeps P dimExpired := by
  intro s hs
  have stopped : P (s.onSdu fun u => { u with dimTimer := none }) := h.sameSleep hs
  unfold Machine.dimExpired
  split
  · simp only
    split
    · next active =>
      have awake : (s.onSdu fun u => { u with dimTimer := none }).sdu.sleep.asleep = false :=
        congrArg SleepState.asleep active
      rw [changeSleep, sleepHandOn_awake _ awake rfl]
      exact h.verdict _ _ _ awake rfl stopped
    · exact stopped
  · exact hs

theorem sleepExpired : Keeps P sleepExpired := by
  intro s hs
  have marked : P (s.onSdu fun u => { u with sleepTimer := none, sleepMark := true }) := h.sameSleep hs
  unfold Machine.sleepExpired
  split
  · simp only
    split
    iterate 2
      next sleep =>
        split
        · exact marked
        · exact h.adviseSleep _ (congrArg SleepState.asleep sleep) marked
    all_goals exact marked
  · exact hs

theorem setHold (i x) : Keeps P (setHold i x) := fun _ hs => h.sameSleep hs

theorem claimHold (i c o l) : Keeps P (claimHold i c o l) := by
  intro s hs
  simp only [Machine.claimHold]
  split
  · next advised =>
    rw [Bool.and_eq_true, decide_eq_true_eq] at advised
    exact h.resumeActive (congrArg SleepState.asleep advised.1) (h.setHold _ _ hs)
  · exact h.setHold _ _ hs

theorem deferredAdvice : Keeps P deferredAdvice := by
  intro s hs
  unfold Machine.deferredAdvice
  split
  iterate 2
    next sleep =>
      have awake : s.sdu.sleep.asleep = false := congrArg SleepState.asleep sleep
      split
      · exact h.adviseSleep _ awake hs
      · split
        · exact h.adviseSleep _ awake hs
        · exact hs
  all_goals exact hs

theorem holdExpired (i) : Keeps P (holdExpired i) := by
  intro s hs
  unfold Machine.holdExpired
  split
  · split
    · exact h.deferredAdvice (h.place _ (h.setHold _ _ hs))
    · exact hs
  · exact hs

end Calm

/-! ## The Posture Engine -/

namespace Posed

variable {P : State → Prop} (h : Posed P)
include h

theorem setFace (f) : Keeps P (setFace f) := by
  intro s hs
  unfold Machine.setFace
  split
  · exact hs
  · exact h.evaluate (h.rest hs)

theorem tap (f) : Keeps P (tap f) := by
  intro s hs
  unfold Machine.tap
  split
  · split
    · exact h.setFace _ (h.rest hs)
    · exact hs
  · exact hs

theorem hingeStepOf : Keeps P hingeStepOf := by
  intro s hs
  unfold Machine.hingeStepOf
  split
  · exact h.evaluate (h.rest hs)
  · unfold Machine.gateFailure
    split
    · exact h.evaluate (h.rest hs)
    · exact hs

theorem setHall (i x) : Keeps P (setHall i x) := by
  intro s hs
  unfold Machine.setHall
  split <;> exact h.rest hs

theorem recheckBlocked : Keeps P recheckBlocked := recheckBlocked_keeps fun _ _ hs => h.rest hs

theorem setLock (on) : Keeps P (setLock on) := by
  intro s hs
  unfold Machine.setLock
  split
  · exact hs
  · simp only
    split
    · exact h.rest hs
    · exact h.recheckBlocked (h.rest hs)

variable (c : Calm P)
include c

theorem rotExpire (quiet) : Keeps P (rotExpire quiet) := by
  intro s hs
  unfold Machine.rotExpire
  split
  · split
    · simp only
      split
      · exact h.rest hs
      · exact c.place _ (h.rest hs)
    · exact h.rest hs
  all_goals exact hs

theorem compareRho (quiet rho) : Keeps P (compareRho quiet rho) := by
  intro s hs
  unfold Machine.compareRho
  split
  · exact h.rest hs
  · split
    · exact hs
    · simp only
      split
      · exact h.rotExpire c _ (h.rest hs)
      · exact h.rest hs

theorem orientStep : Keeps P orientStep := by
  intro s hs
  simp only [Machine.orientStep]
  split
  · split
    · exact h.rest hs
    · exact c.place _ (h.rest hs)
  · split
    · exact c.place _ (h.compareRho c _ _ (h.rest hs))
    · exact h.compareRho c _ _ (h.rest hs)

theorem lidFailure : Keeps P lidFailure := by
  intro s hs
  simp only [Machine.lidFailure]
  split
  · exact c.raiseFault _ (h.rest hs)
  · exact h.rest hs

end Posed

end Sys2Proof.Machine
end

section
/-! PROOFS. The classifier's invariant (O59) through commits and changes of dock state, each of which recomputes, through
the handling of a frame, and through every command. -/

namespace Sys2Proof.Machine

/-! ## Commits and changes of dock state -/

theorem routesSound_of_traffic {s : State} (h : trafficInv s) : RoutesSound s := ((trafficInv_iff s).mp h).1

theorem fresh_of_traffic {s : State} (h : trafficInv s) (i : Fin 64) : fresh i s := ((trafficInv_iff s).mp h).2 i

/-- A commit's recomputation brings the actions up to date with the posture written. -/
theorem commitPosture_traffic (p c r) {s : State} (h : RoutesSound s) : trafficInv (commitPosture p c r s) := by
  have weak := routesSound_calm
  have whole := trafficInv_calm
  refine recheckBlocked_keeps (fun _ _ h => trafficInv_congr h rfl rfl rfl rfl rfl) (ReaderOrder.run_leads
    (fun _ => recompute_traffic .posture) weak.penAllowance whole.penAllowance (weak.sleepOnCommit _ _)
    (whole.sleepOnCommit _ _) _ (weak.place _ ?_))
  exact h.congr rfl rfl

theorem routesSound_posed : Posed RoutesSound :=
  ⟨fun _ _ _ h => h.congr rfl rfl, fun p c r _ h => routesSound_of_traffic (commitPosture_traffic p c r h)⟩

theorem trafficInv_posed : Posed trafficInv :=
  ⟨fun _ same s h => trafficInv_congr h rfl rfl rfl (congrArg PostureRecord.posture (same s.pse)) rfl,
    fun p c r _ h => commitPosture_traffic p c r (routesSound_of_traffic h)⟩

/-- A change of dock state keeps the Dock Receive Buffer. -/
theorem Dlc.leaveState_buffer (d : Dlc) : d.leaveState.buffer = d.buffer := by
  unfold Dlc.leaveState
  split <;> rfl

theorem Dlc.enterState_buffer (new : DockState) (d : Dlc) : (d.enterState new).buffer = d.buffer := by
  cases new <;> rfl

theorem Dlc.entryActions_buffer (p : Params) (old : DockState) (d : Dlc) :
    (d.entryActions p old).buffer = d.buffer := by
  obtain ⟨_, _, _, _, _, _, _, e⟩ := d.startLatch_cases p
  unfold Dlc.entryActions
  rw [e]
  split
  case h_5 => split <;> rfl
  all_goals rfl

/-- A change of dock state recomputes, so that it leads to the invariant from what the dock state does not decide. -/
theorem changeDock_traffic {new ev cause sdu} {s : State} (hu : ∀ P, Calm P → Keeps P sdu) (h : RoutesSound s) :
    trafficInv (changeDock new ev cause sdu s) := by
  have entered : RoutesSound (s.onDlc fun d => Dlc.enterState new d.leaveState) :=
    h.congr rfl ((Dlc.enterState_buffer new _).trans s.dlc.leaveState_buffer)
  have acted (t : State) (ht : RoutesSound t) : RoutesSound (t.onDlc fun d => Dlc.entryActions s.params s.dlc.state d) :=
    ht.congr rfl (Dlc.entryActions_buffer _ _ _)
  refine ReaderOrder.run_leads_second (P := RoutesSound) (routesSound_posed.postureOnDock _)
    (trafficInv_posed.postureOnDock _) (fun _ => recompute_traffic .dock) (hu _ routesSound_calm)
    (hu _ trafficInv_calm) _ (acted _ ?_)
  cases ev
  · exact entered
  · exact routesSound_calm.place _ entered

theorem changeDock_keeps_traffic {new ev cause sdu} (hu : ∀ P, Calm P → Keeps P sdu) :
    Keeps trafficInv (changeDock new ev cause sdu) := fun _ h => changeDock_traffic hu (routesSound_of_traffic h)

/-- An update of the DLC that keeps the dock state and the buffer. -/
theorem trafficInv_onDlc {f : Dlc → Dlc} {s : State} (h : trafficInv s)
    (state : (f s.dlc).state = s.dlc.state := by rfl) (buffer : (f s.dlc).buffer = s.dlc.buffer := by rfl) :
    trafficInv (s.onDlc f) := trafficInv_congr h rfl buffer (congrArg DockState.inUse state) rfl rfl

/-- Updates outside the TCL, the DLC, the SDU and the Posture Record. -/
theorem trafficInv_onHlc (f) : Keeps trafficInv (State.onHlc f) := fun _ h => trafficInv_congr h rfl rfl rfl rfl rfl
theorem trafficInv_onRqu (f) : Keeps trafficInv (State.onRqu f) := fun _ h => trafficInv_congr h rfl rfl rfl rfl rfl
theorem trafficInv_onPse {f : Pse → Pse} {s : State} (h : trafficInv s)
    (same : ∀ p, (f p).record = p.record := by intro; rfl) : trafficInv (s.onPse f) := trafficInv_posed.rest h same
theorem trafficInv_respond (ty tag st p) : Keeps trafficInv (respond ty tag st p) := trafficInv_onHlc _

/-! ## Sleep state changes of HOST_STATE (R149 to R152) -/

theorem flushStage_traffic : Keeps trafficInv flushStage := fun _ h => trafficInv_onRqu _ h

theorem suppressOn_traffic (o n) : Keeps trafficInv (suppressOn o n) := by
  intro s h
  unfold suppressOn
  split
  · split
    · exact h
    · exact trafficInv_onRqu _ (flushStage_traffic h)
  · exact h
  all_goals
    split
    · exact trafficInv_onRqu _ h
    · exact h

theorem noticeOn_traffic (o n) : Keeps trafficInv (noticeOn o n) := by
  intro s h
  unfold noticeOn
  split
  · exact trafficInv_onDlc h
  · exact h

theorem allowanceOn_keeps {P : State → Prop} (h : Calm P) (o n) : Keeps P (allowanceOn place o n) := by
  intro s hs
  unfold allowanceOn
  split
  · exact h.penAllowance hs
  · exact hs

theorem sleepHandOn_traffic {o n : SleepState} {P : State → Prop} (calm : Calm P)
    (recomputes : ∀ ⦃s⦄, P s → trafficInv (recomputeOn place o n s)) {s : State} (h : P s) :
    trafficInv (sleepHandOn place o n s) := by
  refine noticeOn_traffic _ _ (suppressOn_traffic _ _ ?_)
  split
  · exact recomputes (allowanceOn_keeps calm _ _ h)
  · exact allowanceOn_keeps trafficInv_calm _ _ (recomputes h)

/-- A change of sleep state without a verdict: one between awake and asleep recomputes, and of another no action reads
(R152). -/
theorem silentChange_traffic (n : SleepState) : Keeps trafficInv (changeSleep place n noVerdict) := by
  intro s h
  unfold changeSleep
  by_cases same : s.sdu.sleep.asleep = n.asleep
  · exact sleepHandOn_traffic trafficInv_calm (fun t ht => by rwa [recomputeOn_same _ _ _ _ same])
      (trafficInv_congr h rfl rfl rfl rfl same.symm)
  · refine sleepHandOn_traffic routesSound_calm (fun t ht => ?_) ((routesSound_of_traffic h).congr rfl rfl)
    rw [recomputeOn, if_neg same]
    have recomputed := recompute_traffic .sleep ht
    rwa [recompute] at recomputed

theorem idleStop_traffic : Keeps trafficInv idleStop := fun _ h => trafficInv_congr h rfl rfl rfl rfl rfl
theorem idleRestart_traffic : Keeps trafficInv idleRestart := fun _ h => trafficInv_congr h rfl rfl rfl rfl rfl

theorem hostStandby_traffic : Keeps trafficInv hostStandby := by
  intro s h
  have changes (f : Sdu → Sdu) (same : ∀ u, (f u).sleep = u.sleep) :
      trafficInv (changeSleep place .standby noVerdict ((idleStop s).onSdu f)) :=
    silentChange_traffic _ (trafficInv_calm.sameSleep (idleStop_traffic h) same)
  unfold hostStandby
  split
  case h_5 => exact h
  all_goals exact changes _ fun _ => rfl

theorem hostRunning_traffic : Keeps trafficInv hostRunning := by
  intro s h
  unfold hostRunning
  split
  case h_4 | h_5 => exact silentChange_traffic _ (trafficInv_calm.sameSleep (idleRestart_traffic h))
  all_goals exact trafficInv_calm.activity h

/-! ## The handling of a frame (R42) -/

/-- Of an entry its host fields and effective action are written anew. -/
theorem onRoute_sound {i : Fin 64} {g : RouteEntry → RouteEntry} {s : State} (h : RoutesSound s)
    (host : ∀ e, (g e).hostFields = e.hostFields := by intro; rfl)
    (effective : ∀ e, (g e).effective = e.effective := by intro; rfl)
    (overflow : ∀ e, (g e).overflow = e.overflow := by intro; rfl)
    (counts : (g s.tcl.routes[i]).hits ≤ 65535 ∧ (g s.tcl.routes[i]).errors ≤ 15) : RoutesSound (s.onRoute i g) where
  sound := h.sound.rewrite (host _) (effective _) (fun mark => h.sound.marks i ((overflow _).symm.trans mark)) counts
  frame := h.frame
  forwards st stalled := by
    rw [onRoute_routes]
    split
    · exact (effective _).trans (h.forwards st stalled)
    · exact h.forwards st stalled

theorem countHit_traffic (i) : Keeps trafficInv (countHit i) := by
  intro s h
  have sound := routesSound_of_traffic h
  refine (trafficInv_iff _).mpr ⟨onRoute_sound sound (counts := ⟨Nat.min_le_left _ _, (sound.sound.counts i).2⟩),
    fun j => ?_⟩
  have fresh := fresh_of_traffic h j
  rw [Machine.fresh, countHit, onRoute_routes]
  split
  · exact fresh
  · exact fresh

theorem disableEntry_traffic (i) : Keeps trafficInv (disableEntry i) := by
  intro s h
  have sound := routesSound_of_traffic h
  refine trafficInv_calm.raiseFault _ (trafficInv_calm.place _ (recomputeEntry_traffic .disabled
    (onRoute_sound sound (counts := sound.sound.counts i)) fun j other => ?_))
  rw [fresh, onRoute_routes, if_neg (Ne.symm other)]
  exact fresh_of_traffic h j

theorem countMalformed_traffic (i) : Keeps trafficInv (countMalformed i) := by
  intro s h
  have sound := routesSound_of_traffic h
  have counted : trafficInv (s.onRoute i fun e => { e with errors := min 15 (e.errors + 1) }) := by
    refine (trafficInv_iff _).mpr ⟨onRoute_sound sound (counts := ⟨(sound.sound.counts i).1, Nat.min_le_left _ _⟩),
      fun j => ?_⟩
    have fresh := fresh_of_traffic h j
    rw [Machine.fresh, onRoute_routes]
    split
    · exact fresh
    · exact fresh
  simp only [countMalformed]
  split
  · exact disableEntry_traffic i counted
  · exact counted

/-- An entry re-enabled has its action recomputed (R52). -/
theorem reenableEntry_traffic (i) : Keeps trafficInv (reenableEntry i) := by
  intro s h
  have sound := routesSound_of_traffic h
  have enabled : RoutesSound (s.onRoute i RouteEntry.enabled) :=
    onRoute_sound sound (counts := ⟨(sound.sound.counts i).1, Nat.zero_le _⟩)
  refine recomputeEntry_traffic .disabled (routesSound_calm.place _ enabled) fun j other =>
    (fresh_calm j).place _ ?_
  rw [fresh, onRoute_routes, if_neg (Ne.symm other)]
  exact fresh_of_traffic h j

theorem reenable_traffic (named) : Keeps trafficInv (reenable named) := by
  intro s h
  rw [reenable_eq]
  generalize List.finRange 64 = l
  refine Stable.fold (f := reenableStep named) (fun i t ht => ?_) l h
  show trafficInv (reenableStep named t i)
  unfold reenableStep
  split
  · exact reenableEntry_traffic i ht
  · exact ht

theorem signal_keeps {P : State → Prop} (h : Calm P) (i act) : Keeps P (signal i act) := by
  intro s hs
  have stirred (b : Bool) : P (if b = true then activity s else s) := by
    split
    · exact h.activity hs
    · exact hs
  have woken (t : State) (b : Bool) (ht : P t) : P (if b = true then wake .routeWake t else t) := by
    split
    · exact h.wake _ ht
    · exact ht
  exact woken _ _ (stirred _)

/-- Neither the invariant nor a frame's effect on the pool sees what a placement in the BULK lane writes. -/
theorem placeCoalesced_traffic (r) : Keeps trafficInv fun s => (placeCoalesced r s).1 := by
  intro s h
  unfold placeCoalesced
  dsimp only
  split
  · exact h
  · split
    · exact trafficInv_onRqu _ h
    · split
      · exact flushStage_traffic (trafficInv_onRqu _ h)
      · exact trafficInv_onRqu _ h

theorem placeDirect_traffic (r) : Keeps trafficInv fun s => (placeDirect r s).1 := by
  intro s h
  unfold placeDirect
  dsimp only
  split
  · exact h
  · split
    · exact trafficInv_onRqu _ (flushStage_traffic h)
    · exact trafficInv_onRqu _ (flushStage_traffic h)

/-- A placement in the BULK lane writes the RQU alone. -/
theorem placeCoalesced_tcl (r : Record) (s : State) : (placeCoalesced r s).1.tcl = s.tcl := by
  unfold placeCoalesced
  split
  · rfl
  · split
    · rfl
    · dsimp only
      split <;> rfl

theorem placeDirect_tcl (r : Record) (s : State) : (placeDirect r s).1.tcl = s.tcl := by
  unfold placeDirect
  split
  · rfl
  · dsimp only
    split <;> rfl

/-- A frame's effect on the pool keeps what R54 gives of each entry. -/
theorem poolEffect_traffic {i : Fin 64} (f : Frame) (placed : Bool) {s : State} (h : trafficInv s)
    (forwards : s.tcl.routes[i].effective = .forward) : trafficInv (poolEffect i f placed s) := by
  have sound := routesSound_of_traffic h
  have stall := poolEffect_stall i f placed s
  refine (trafficInv_iff _).mpr ⟨⟨poolEffect_sound f placed sound.sound forwards, ?_, fun st stalled => ?_⟩, fun j =>
    (fresh_reread j).poolEffect i f placed (fresh_of_traffic h j)⟩
  · rw [stallHasFrame, stall, poolEffect_dlc]
    exact sound.frame
  · rw [poolEffect_effective]
    exact sound.forwards st (stall ▸ stalled)

end Sys2Proof.Machine
end

section
/-! PROOFS. The classifier's invariant (O59) through a frame's placement, and through every command and every step. -/

namespace Sys2Proof.Machine

/-! ## A frame's placement (R58 to R60) -/

/-- A predicate of an evaluation survives the tap as well. -/
theorem tap_poised {P : State → Prop} (h : Poised P) (pse : ∀ f, Keeps P (State.onPse f)) (f : Frame) : Keeps P (tap f) := by
  intro s hs
  unfold tap
  split
  · split
    · exact setFace_keeps h (pse _ (pse _ hs))
    · exact hs
  · exact hs

theorem loseUrgent_keeps {P : State → Prop} (h : Calm P) : Keeps P loseUrgent :=
  loseUrgentWith_keeps h.lose h.raiseUrgentLoss

/-- A stalled record lost raises faults and counts (R62, R167). -/
theorem loseStalled_keeps {P : State → Prop} (h : Calm P) : Keeps P loseStalled := by
  intro s hs
  unfold loseStalled
  split
  · exact loseUrgent_keeps h (h.raiseFault _ hs)
  · exact h.raiseFault _ (loseUrgent_keeps h hs)

/-- A dock frame is handled while none is stalled, and it is still in the buffer. -/
abbrev headFree (dock : Bool) (s : State) : Prop := dock = true → s.tcl.stall = none ∧ s.dlc.buffer ≠ []

theorem headFree_poised (dock : Bool) : Poised (headFree dock) :=
  have stable : Stable (headFree dock) :=
    { enter := fun _ _ _ _ h => h
      lose := fun _ h => h
      rqu := fun _ _ _ h => h
      sdu := fun _ _ h => h
      tcl := fun _ hf s h fromDock => ⟨(hf.stall s.tcl).trans (h fromDock).1, (h fromDock).2⟩
      pcc := fun _ _ h => h
      fault := fun _ _ _ h => h
      unstall := fun _ stalled h fromDock => by rw [(h fromDock).1] at stalled; contradiction
      notice := fun _ _ h => h }
  stable.poised fun _ _ h => h

/-- A frame that leaves the buffer was not stalled there. -/
theorem endFrame_traffic {dock : Bool} {s : State} (h : trafficInv s) (free : headFree dock s) :
    trafficInv (endFrame dock s) := by
  unfold endFrame
  split
  · next fromDock =>
    obtain ⟨sound, fresh⟩ := (trafficInv_iff s).mp h
    exact (trafficInv_iff _).mpr ⟨.unstalled (s := dropHead s) sound.sound (free fromDock).1, fresh⟩
  · exact h

theorem endFrame_tcl (dock : Bool) (s : State) : (endFrame dock s).tcl = s.tcl := by
  unfold endFrame
  split <;> rfl

/-- The stall of a frame whose entry forwards (R60). -/
theorem stall_traffic {s : State} (h : trafficInv s) (st : Stall) (head : s.dlc.buffer ≠ [])
    (forwards : s.tcl.routes[st.entry].effective = .forward) :
    trafficInv (s.onTcl fun t => { t with stall := some st }) := by
  obtain ⟨⟨⟨keys, room, nodup, held, marks, counts, invalid⟩, -, -⟩, fresh⟩ := (trafficInv_iff s).mp h
  refine (trafficInv_iff _).mpr ⟨⟨⟨keys, room, nodup, held, marks, counts, invalid⟩, fun _ => head, fun st' e => ?_⟩,
    fresh⟩
  cases e
  exact forwards

theorem placeFrame_traffic {dock : Bool} {i : Fin 64} (f : Frame) {s : State} (h : trafficInv s)
    (free : headFree dock s) (forwards : s.tcl.routes[i].effective = .forward) :
    trafficInv (placeFrame dock i f s) := by
  simp only [placeFrame]
  split
  · have placed : ∀ r : State × Bool, trafficInv r.1 → headFree dock r.1 → r.1.tcl = s.tcl →
        trafficInv (endFrame dock (poolEffect i f r.2 r.1)) := fun r hr free same =>
      endFrame_traffic (poolEffect_traffic f r.2 hr (by rwa [same]))
        ((headFree_poised dock).toStable.poolEffect i f r.2 free)
    split
    · exact placed _ (placeCoalesced_traffic _ h) ((headFree_poised dock).toStable.placeCoalesced _ free)
        (placeCoalesced_tcl _ s)
    · exact placed _ (placeDirect_traffic _ h) ((headFree_poised dock).toStable.placeDirect _ free)
        (placeDirect_tcl _ s)
  · split
    · have entered : trafficInv (enterUrgent true (fwdRecord .urgent f) s) := trafficInv_onRqu _ h
      exact poolEffect_traffic f true (endFrame_traffic entered free) (by rw [endFrame_tcl]; exact forwards)
    · split
      · next fromDock => exact stall_traffic h _ (free fromDock).2 forwards
      · have kept : (loseUrgent s).tcl = s.tcl := loseUrgent_keeps (tcl_calm s.tcl) rfl
        exact poolEffect_traffic f false (loseUrgent_keeps trafficInv_calm h) (by rwa [kept])

theorem handleMatched_traffic {dock : Bool} (i : Fin 64) (f : Frame) {s : State} (h : trafficInv s)
    (free : headFree dock s) : trafficInv (handleMatched dock i f s) := by
  have stable := (headFree_poised dock).toStable
  simp only [handleMatched]
  split
  · exact endFrame_traffic h free
  · split
    · exact endFrame_traffic (countMalformed_traffic i h) (stable.countMalformed i free)
    · have signalled := signal_keeps trafficInv_calm i s.tcl.routes[i].effective h
      have free' := stable.signal i s.tcl.routes[i].effective free
      split
      · next forwards =>
        rw [Bool.and_eq_true, decide_eq_true_eq] at forwards
        have same := signal_keeps (tcl_calm s.tcl) i s.tcl.routes[i].effective (s := s) rfl
        exact placeFrame_traffic f signalled free' (by rw [same]; exact forwards.1)
      · exact endFrame_traffic signalled free'

theorem classify_traffic {dock : Bool} (f : Frame) {s : State} (h : trafficInv s) (free : headFree dock s) :
    trafficInv (classify dock f s) := by
  unfold classify
  split
  · exact handleMatched_traffic _ f (countHit_traffic _ h) free
  · unfold handleDefault
    split
    · exact endFrame_traffic (placeDirect_traffic _ h) ((headFree_poised dock).toStable.placeDirect _ free)
    · exact endFrame_traffic h free

theorem presentLocal_traffic (source cls payload) : Keeps trafficInv (presentLocal source cls payload) :=
  fun _ h => classify_traffic _ h (fun e => absurd e (by decide))

theorem takeHead_traffic : Keeps trafficInv takeHead := by
  intro s h
  unfold takeHead
  split
  · next f rest head free =>
    have taken : headFree true s := fun _ => ⟨free, by simp [head]⟩
    unfold takeDock
    refine classify_traffic f (trafficInv_posed.tap f ?_) (tap_poised (headFree_poised true) (fun _ _ h => h) f ?_)
    · split
      · exact reenable_traffic _ h
      · exact h
    · split
      · exact (headFree_poised true).toStable.reenable _ taken
      · exact taken
  · exact h

/-- The stall's end at its limit (R62). -/
theorem escalateStall_traffic : Keeps trafficInv escalateStall := by
  intro s h
  obtain ⟨⟨sound, -, forwards⟩, fresh⟩ := (trafficInv_iff s).mp h
  have ended {t : State} (ht : trafficInv t) (st : Stall) (f : Frame) (placed : Bool) (tcl : t.tcl = s.tcl)
      (stalled : s.tcl.stall = some st) : trafficInv (poolEffect st.entry f placed (endStall t)) := by
    have whole : trafficInv (endStall t) := (trafficInv_iff _).mpr
      ⟨endStall_sound (routesSound_of_traffic ht).sound, fun i => fresh_of_traffic ht i⟩
    refine poolEffect_traffic f placed whole ?_
    show t.tcl.routes[st.entry].effective = .forward
    rw [tcl]
    exact forwards st stalled
  unfold escalateStall
  split
  · next st f rest stalled head =>
    split
    · exact ended (trafficInv_onRqu _ h) st f true rfl stalled
    · exact ended (loseStalled_keeps trafficInv_calm h) st f false (loseStalled_keeps (tcl_calm s.tcl) rfl) stalled
  · exact h

end Sys2Proof.Machine
end

section
/-! PROOFS. The classifier's invariant (O59) through the dock state machine and the link, the requests, the resets and
every step. -/

namespace Sys2Proof.Machine

/-! ## The dock state machine -/

theorem acceptHello_traffic (i) : Keeps trafficInv (acceptHello i) := by
  intro s h
  have replaced : trafficInv (s.onDlc fun d => { d with identity := i }) := trafficInv_onDlc h
  unfold acceptHello
  simp only
  split
  · exact changeDock_keeps_traffic (calm_wakeActivity _) replaced
  · exact changeDock_keeps_traffic (calm_wakeActivity _) (trafficInv_posed.invalidateBase replaced)

theorem latchRequested_traffic : Keeps trafficInv latchRequested := by
  intro s h
  unfold latchRequested
  split
  · exact changeDock_keeps_traffic (fun _ c => c.wake _) h
  · exact h

theorem restartDock_traffic : Keeps trafficInv restartDock := by
  intro s h
  unfold restartDock
  split
  case h_1 | h_2 | h_3 | h_4 => exact changeDock_keeps_traffic calm_nothing h
  all_goals exact h

theorem loseBase_traffic : Keeps trafficInv loseBase := by
  intro s h
  unfold loseBase
  split
  case h_1 => exact changeDock_keeps_traffic (fun _ c => c.activity) h
  case h_2 | h_3 | h_4 => exact changeDock_keeps_traffic (calm_wakeActivity _) h
  case h_8 => exact h
  all_goals exact changeDock_keeps_traffic calm_nothing h

theorem senseMillisecond_traffic (present) : Keeps trafficInv (senseMillisecond present) := by
  intro s h
  have timed (t : Timer) : trafficInv (s.onDlc fun d => { d with senseTimer := t }) := trafficInv_onDlc h
  unfold senseMillisecond
  split
  · simp only
    split
    · exact changeDock_keeps_traffic calm_nothing (timed _)
    · exact timed _
  · split
    · exact h
    · simp only
      split
      · exact changeDock_keeps_traffic calm_nothing (timed _)
      · exact timed _

theorem senseComplete_traffic : Keeps trafficInv senseComplete := by
  intro s h
  unfold senseComplete
  split
  · exact changeDock_keeps_traffic calm_nothing (trafficInv_onDlc h)
  · exact h

theorem senseLost_traffic : Keeps trafficInv senseLost := by
  intro s h
  unfold senseLost
  split
  · exact loseBase_traffic (trafficInv_onDlc h)
  · exact h

theorem acceptPress_traffic : Keeps trafficInv acceptPress :=
  fun _ h => latchRequested_traffic (trafficInv_onDlc h)

theorem buttonMillisecond_traffic (pressed) : Keeps trafficInv (buttonMillisecond pressed) := by
  intro s h
  unfold buttonMillisecond
  split
  · exact trafficInv_onDlc h
  · split
    · exact trafficInv_onDlc h
    · split
      · exact trafficInv_onDlc h
      · split
        · exact acceptPress_traffic h
        · exact trafficInv_onDlc h

theorem helloExpired_traffic : Keeps trafficInv helloExpired := by
  intro s h
  unfold helloExpired
  split
  · split
    · exact trafficInv_onDlc h
    · exact trafficInv_calm.raiseFault _ (changeDock_keeps_traffic calm_nothing h)
  · exact h

/-! ## The Dock Link -/

theorem linkError_traffic : Keeps trafficInv linkError := by
  intro s h
  have counted : trafficInv (s.onDlc Dlc.countError) := by
    obtain ⟨n, t, e⟩ := s.dlc.countError_eq
    exact trafficInv_onDlc h (by rw [e]) (by rw [e])
  unfold linkError
  split
  · simp only
    split
    · exact changeDock_keeps_traffic calm_nothing (trafficInv_calm.raiseFault _ (trafficInv_onDlc counted))
    · exact counted
  · exact h

theorem nodeZeroRestart_traffic : Keeps trafficInv nodeZeroRestart := by
  intro s h
  refine nodeZeroRestart_leads restartDock_traffic restartDock_traffic (fun t ht => ?_) h
  rw [reenableDock_eq]
  exact reenable_traffic _ ht

theorem managementClass_traffic (c p) : Keeps trafficInv (managementClass c p) := by
  intro s h
  unfold managementClass
  split
  · split
    · exact acceptHello_traffic _ h
    · exact linkError_traffic h
  · split
    · exact changeDock_keeps_traffic calm_nothing h
    · exact h

theorem management_traffic (c b p) : Keeps trafficInv (management c b p) := by
  intro s h
  refine managementClass_traffic _ _ ?_
  split
  · exact nodeZeroRestart_traffic h
  · exact h

/-- A frame that arrives stands behind those in the buffer. -/
theorem bufferFrame_traffic (f) : Keeps trafficInv (bufferFrame f) := by
  intro s h
  unfold bufferFrame
  split
  · obtain ⟨⟨sound, -, forwards⟩, fresh⟩ := (trafficInv_iff s).mp h
    exact (trafficInv_iff _).mpr ⟨⟨sound, fun _ => List.append_ne_nil_of_right_ne_nil _ (List.cons_ne_nil _ _), forwards⟩,
      fresh⟩
  · exact trafficInv_calm.raiseFault _ h

theorem frameArrives_traffic (n c b p) : Keeps trafficInv (frameArrives n c b p) := by
  intro s h
  unfold frameArrives
  split
  · exact h
  · split
    · exact linkError_traffic h
    · split
      · split
        · exact h
        · exact management_traffic _ _ _ h
      · split
        · exact bufferFrame_traffic _ h
        · exact h

theorem setRx_traffic (r) : Keeps trafficInv (setRx r) := fun _ h => trafficInv_onDlc h

theorem dataCharacter_traffic (b) : Keeps trafficInv (dataCharacter b) := by
  intro s h
  have rx (r) := setRx_traffic r h
  unfold dataCharacter
  split
  · exact h
  · split
    · exact linkError_traffic (rx _)
    · split <;> exact rx _
  · split <;> exact rx _
  · split
    · exact frameArrives_traffic _ _ _ _ (rx _)
    · exact linkError_traffic (rx _)

theorem receive_traffic (data mark stop) : Keeps trafficInv (receive data mark stop) := by
  intro s h
  have rx (r) := setRx_traffic r h
  unfold receive
  split
  · exact h
  · split
    · split
      · exact linkError_traffic (rx _)
      · exact h
    · split
      · simp only
        split
        · exact linkError_traffic (rx _)
        · exact rx _
      · exact dataCharacter_traffic _ h

theorem Dlc.chooseFrame_keeps (asleep : Bool) (d : Dlc) :
    (d.chooseFrame asleep).state = d.state ∧ (d.chooseFrame asleep).buffer = d.buffer := by
  unfold Dlc.chooseFrame
  split
  · exact ⟨rfl, rfl⟩
  · split
    · exact ⟨rfl, rfl⟩
    · split
      · exact ⟨rfl, rfl⟩
      · split <;> exact ⟨rfl, rfl⟩

theorem Dlc.endTransmission_keeps (d : Dlc) :
    d.endTransmission.state = d.state ∧ d.endTransmission.buffer = d.buffer := by
  unfold Dlc.endTransmission
  split <;> exact ⟨rfl, rfl⟩

/-! ## The Posture Engine -/

theorem lidArrival_traffic (v) : Keeps trafficInv (lidArrival v) := fun _ h =>
  presentLocal_traffic _ _ _ (trafficInv_posed.hingeStepOf (trafficInv_posed.orientStep trafficInv_calm
    (trafficInv_onPse h)))

theorem acceptHall_traffic (i l) : Keeps trafficInv (acceptHall i l) := fun _ h =>
  presentLocal_traffic _ _ _ (trafficInv_posed.evaluate (trafficInv_posed.setHall _ _ h))

theorem settleHall_traffic (i l) : Keeps trafficInv (settleHall i l) := by
  intro s h
  unfold settleHall
  split
  · exact acceptHall_traffic _ _ h
  · exact h

theorem hallMillisecond_traffic (a b) : Keeps trafficInv (hallMillisecond a b) := by
  intro s h
  have counted : trafficInv (countHall .fold b (countHall .lid a s)) :=
    trafficInv_posed.setHall _ _ (trafficInv_posed.setHall _ _ h)
  unfold hallMillisecond
  simp only
  split
  · exact settleHall_traffic _ _ (settleHall_traffic _ _ counted)
  · exact settleHall_traffic _ _ (settleHall_traffic _ _ counted)

/-! ## Requests -/

theorem storeParam_traffic (n v) : Keeps trafficInv (storeParam n v) := by
  intro s h
  have stored : trafficInv (s.onParams fun p => p.set n v) := trafficInv_congr h rfl rfl rfl rfl rfl
  unfold storeParam
  simp only
  split
  · exact trafficInv_posed.recheckBlocked stored
  · exact stored

theorem configSet_traffic (tag number value) : Keeps trafficInv (configSet tag number value) := by
  intro s h
  unfold configSet
  simp only
  split
  · exact trafficInv_respond _ _ _ _ h
  · split
    · exact trafficInv_respond _ _ _ _ h
    · split
      · exact trafficInv_respond _ _ _ _ h
      · exact trafficInv_respond _ _ _ _ (storeParam_traffic _ _ h)

theorem configGet_traffic (tag number) : Keeps trafficInv (configGet tag number) := by
  intro s h
  unfold configGet
  split <;> exact trafficInv_respond _ _ _ _ h

/-- An entry vacated holds no item, has no overflow mark and no stalled frame; the others are as before. -/
structure Vacated (i : Fin 64) (s : State) : Prop where
  invariant : trafficInv s
  empty : ∀ x ∈ s.tcl.pool, x.entry ≠ i
  unstalled : ∀ st, s.tcl.stall = some st → st.entry ≠ i

/-- Release synthesis keeps the invariant. -/
theorem synthesize_traffic (c : SynthCause) (i : Fin 64) : Keeps trafficInv (synthesize place c i) := by
  intro s h
  obtain ⟨⟨sound, frame, forwards⟩, fresh⟩ := (trafficInv_iff s).mp h
  have tcl := synthesize_tcl c i s
  have effective (j : Fin 64) : (synthesize place c i s).tcl.routes[j].effective = s.tcl.routes[j].effective := by
    rw [tcl]
    simp only [routes_set_getElem]
    split
    · next here => rw [here]
    · rfl
  refine (trafficInv_iff _).mpr ⟨⟨?_, ?_, fun st stalled => ?_⟩, fun j =>
    (fresh_reread j).synthesize (fresh_calm j).place c i (fresh j)⟩
  · rw [tcl]
    exact (sound.release _).rewrite rfl rfl (fun mark => absurd mark Bool.false_ne_true) (sound.counts i)
  · rw [stallHasFrame, synthesize_dlc, tcl]
    exact frame
  · rw [effective]
    rw [tcl] at stalled
    exact forwards st stalled

theorem endStall_traffic {s : State} (h : trafficInv s) : trafficInv (endStall s) :=
  (trafficInv_iff _).mpr ⟨endStall_sound (routesSound_of_traffic h).sound, fun i => fresh_of_traffic h i⟩

/-- A stall of an entry without held items ends with the entry vacated. -/
theorem vacated_unstall {i : Fin 64} {t : State} (invariant : trafficInv t) (empty : ∀ x ∈ t.tcl.pool, x.entry ≠ i) :
    Vacated i (if (t.tcl.stall.map (·.entry)) = some i then endStall t else t) := by
  split
  · exact ⟨endStall_traffic invariant, empty, fun st e => by cases e⟩
  · next other => exact ⟨invariant, empty, fun st stalled here => other (by rw [stalled, Option.map_some, here])⟩

theorem vacateRoute_traffic (c : SynthCause) (i : Fin 64) {s : State} (h : trafficInv s) :
    Vacated i (vacateRoute c i s) := by
  have released : trafficInv (if s.tcl.routes[i].valid then synthesize place c i s else s)
      ∧ ∀ x ∈ (if s.tcl.routes[i].valid then synthesize place c i s else s).tcl.pool, x.entry ≠ i := by
    split
    · refine ⟨synthesize_traffic c i h, fun x mem => ?_⟩
      rw [synthesize_tcl] at mem
      simpa using (List.mem_filter.mp mem).2
    · next invalid =>
      have sound := (routesSound_of_traffic h).sound
      refine ⟨h, fun x mem here => ?_⟩
      have dropped := sound.invalid x.entry (by rw [here]; simpa using invalid)
      rw [sound.held x mem] at dropped
      cases dropped
  obtain ⟨invariant, empty⟩ := released
  exact vacated_unstall invariant empty

/-- A vacated entry written anew with a key of its own and the action that R54 gives it. -/
theorem Vacated.write {i : Fin 64} {s : State} (h : Vacated i s) {e : RouteEntry}
    (key : e.valid = true → ∀ j : Fin 64, j ≠ i → s.tcl.routes[j].valid = true →
      ¬ (s.tcl.routes[j].source = e.source ∧ s.tcl.routes[j].cls = e.cls))
    (action : e.effective = effectiveAction s e) (unmarked : e.overflow = false)
    (counts : e.hits ≤ 65535 ∧ e.errors ≤ 15) : trafficInv (s.onRoute i fun _ => e) := by
  obtain ⟨⟨sound, frame, forwards⟩, fresh⟩ := (trafficInv_iff s).mp h.invariant
  refine (trafficInv_iff _).mpr ⟨⟨?_, frame, fun st stalled => ?_⟩, fun j => ?_⟩
  · exact sound.set (List.Sublist.refl _) key (fun ⟨x, mem, here⟩ => absurd here (h.empty x mem))
      (fun mark => absurd mark (by simp [unmarked])) counts
      (fun invalid => action.trans (effectiveAction_invalid s invalid))
  · rw [onRoute_routes, if_neg (Ne.symm (h.unstalled st stalled))]
    exact forwards st stalled
  · rw [Machine.fresh, onRoute_routes]
    split
    · exact action
    · exact fresh j

/-- What a vacated table keeps of the entries' keys. -/
theorem vacateRoute_host (c : SynthCause) (i j : Fin 64) (s : State) :
    (vacateRoute c i s).tcl.routes[j].hostFields = s.tcl.routes[j].hostFields :=
  ((routesKept_poised s).toStable.vacateRoute c i (fun _ => ⟨rfl, rfl⟩) j).1

theorem keyTaken_iff {v : Vector RouteEntry 64} {i : Fin 64} {source : BitVec 4} {cls : ClassKey} :
    keyTaken v i source cls = true ↔
      ∃ j : Fin 64, j ≠ i ∧ v[j].valid = true ∧ v[j].source = source ∧ v[j].cls = cls := by
  simp only [keyTaken, List.any_eq_true, List.mem_finRange, true_and, Bool.and_eq_true, decide_eq_true_eq, and_assoc]

/-- A load with its key free at the other indexes. -/
theorem writeRoute_traffic {i : Fin 64} {e : RouteEntry} {s : State} (h : trafficInv s)
    (free : keyTaken s.tcl.routes i e.source e.cls = false) (unmarked : e.overflow = false)
    (counts : e.hits ≤ 65535 ∧ e.errors ≤ 15) : trafficInv (writeRoute i e s) := by
  refine (vacateRoute_traffic .load i h).write (e := { e with effective := effectiveAction (vacateRoute .load i s) e })
    (fun _ j other valid ⟨source, cls⟩ => ?_) rfl unmarked counts
  have host := vacateRoute_host .load i j s
  have taken : keyTaken s.tcl.routes i e.source e.cls = true := keyTaken_iff.mpr ⟨j, other,
    (congrArg RouteEntry.valid host :).symm.trans valid, (congrArg RouteEntry.source host :).symm.trans source,
    (congrArg RouteEntry.cls host :).symm.trans cls⟩
  rw [taken] at free
  cases free

/-- The part fields of the entry that a load's fields spell stand at their reset values (R45). -/
theorem routeEntryOf_reset {source cls : Byte} {actions : Half} {flags wakeMask errorLimit length : Byte} {e : RouteEntry}
    (spelt : routeEntryOf source cls actions flags wakeMask errorLimit length = some e) :
    e.state = .active ∧ e.hits = 0 ∧ e.errors = 0 ∧ e.overflow = false := by
  simp only [routeEntryOf, Option.bind_eq_bind, Option.bind_eq_some_iff] at spelt
  obtain ⟨key, -, acts, -, len, -, rest⟩ := spelt
  split at rest
  · cases rest
    exact ⟨rfl, rfl, rfl, rfl⟩
  · cases rest

theorem loadRoute_traffic (tag index source cls actions flags wakeMask errorLimit length) : Keeps trafficInv
    (loadRoute tag index (routeEntryOf source cls actions flags wakeMask errorLimit length)) := by
  intro s h
  unfold loadRoute
  split
  · exact trafficInv_respond _ _ _ _ h
  · split
    · next spelt =>
      obtain ⟨-, hits, errors, unmarked⟩ := routeEntryOf_reset spelt
      split
      · exact trafficInv_respond _ _ _ _ h
      · next free =>
        exact trafficInv_respond _ _ _ _ (writeRoute_traffic h (by simpa using free) unmarked (by simp [hits, errors]))
    · exact trafficInv_respond _ _ _ _ h

theorem clearRoute_traffic (tag index) : Keeps trafficInv (clearRoute tag index) := by
  intro s h
  unfold clearRoute
  split
  · exact trafficInv_respond _ _ _ _ h
  · split
    · refine trafficInv_respond _ _ _ _ ((vacateRoute_traffic .clear _ h).write (e := RouteEntry.cleared)
        (fun valid => by cases valid) ?_ rfl ⟨by decide, by decide⟩)
      exact (effectiveAction_invalid _ rfl).symm
    · exact trafficInv_respond _ _ _ _ h

theorem readRoute_traffic (tag index) : Keeps trafficInv (readRoute tag index) := by
  intro s h
  unfold readRoute
  split <;> exact trafficInv_respond _ _ _ _ h

theorem loadPosture_traffic (tag row fields) : Keeps trafficInv (loadPosture tag row fields) := by
  intro s h
  unfold loadPosture
  split
  · exact trafficInv_respond _ _ _ _ h
  · split
    · exact trafficInv_respond _ _ _ _ (trafficInv_onPse h)
    · exact trafficInv_respond _ _ _ _ h

theorem readPosture_traffic (tag row) : Keeps trafficInv (readPosture tag row) := by
  intro s h
  unfold readPosture
  split <;> exact trafficInv_respond _ _ _ _ h

theorem orientLock_traffic (tag arg) : Keeps trafficInv (orientLock tag arg) := by
  intro s h
  unfold orientLock
  split
  · exact trafficInv_respond _ _ _ _ (trafficInv_posed.setLock _ h)
  · exact trafficInv_respond _ _ _ _ h

theorem sendDock_traffic (tag node cls len payload) : Keeps trafficInv (sendDock tag node cls len payload) := by
  intro s h
  unfold sendDock
  split
  · exact trafficInv_respond _ _ _ _ h
  · split
    · exact trafficInv_respond _ _ _ _ h
    · split
      · exact trafficInv_respond _ _ _ _ h
      · exact trafficInv_respond _ _ _ _ (trafficInv_onDlc h)

theorem answerDetach_traffic (tag arg) : Keeps trafficInv (answerDetach tag arg) := by
  intro s h
  unfold answerDetach
  split
  · exact trafficInv_respond _ _ _ _ h
  · split
    · exact trafficInv_respond _ _ _ _ h
    · refine trafficInv_respond _ _ _ _ ?_
      split
      · exact changeDock_keeps_traffic calm_nothing h
      · exact changeDock_keeps_traffic calm_nothing h

theorem retryDock_traffic (tag) : Keeps trafficInv (retryDock tag) := by
  intro s h
  unfold retryDock
  split
  · exact trafficInv_respond _ _ _ _ (changeDock_keeps_traffic calm_nothing h)
  · exact trafficInv_respond _ _ _ _ h

theorem configPen_traffic (tag raw) : Keeps trafficInv (configPen tag raw) := by
  intro s h
  unfold configPen
  split
  · exact trafficInv_respond _ _ _ _ h
  · split
    · exact trafficInv_respond _ _ _ _ (trafficInv_calm.pcc _ h)
    · exact trafficInv_respond _ _ _ _ (trafficInv_calm.placeSet _ h)

theorem setSupply_traffic (tag arg) : Keeps trafficInv (setSupply tag arg) := by
  intro s h
  unfold setSupply
  split
  · exact trafficInv_respond _ _ _ _ (trafficInv_calm.penAllowance (trafficInv_calm.pcc _ h))
  · exact trafficInv_respond _ _ _ _ h

theorem setHostState_traffic (tag arg) : Keeps trafficInv (setHostState tag arg) := by
  intro s h
  unfold setHostState
  split
  · exact trafficInv_respond _ _ _ _ (hostStandby_traffic h)
  · split
    · exact trafficInv_respond _ _ _ _ (hostRunning_traffic h)
    · exact trafficInv_respond _ _ _ _ h

theorem holdClaim_traffic (tag slot cls owner lifetime) :
    Keeps trafficInv (holdClaim tag slot cls owner lifetime) := by
  intro s h
  unfold holdClaim
  split
  · split
    · exact trafficInv_respond _ _ _ _ h
    · split
      · exact trafficInv_respond _ _ _ _ h
      · exact trafficInv_respond _ _ _ _ (trafficInv_calm.claimHold _ _ _ _ h)
  · exact trafficInv_respond _ _ _ _ h

theorem holdRelease_traffic (tag slot owner) : Keeps trafficInv (holdRelease tag slot owner) := by
  intro s h
  unfold holdRelease
  split
  · split
    · exact trafficInv_respond _ _ _ _ h
    · split
      · exact trafficInv_respond _ _ _ _ h
      · split
        · exact trafficInv_respond _ _ _ _ h
        · exact trafficInv_respond _ _ _ _ (trafficInv_calm.deferredAdvice (trafficInv_calm.setHold _ _ h))
  · exact trafficInv_respond _ _ _ _ h

theorem retryStall_traffic : Keeps trafficInv retryStall := by
  intro s h
  obtain ⟨⟨sound, frame, -⟩, fresh⟩ := (trafficInv_iff s).mp h
  exact (trafficInv_iff _).mpr ⟨retryStall_sound sound frame, fun i => (fresh_reread i).retryStall (fresh i)⟩

theorem drainQueue_traffic (tag count lane) : Keeps trafficInv (drainQueue tag count lane) := by
  intro s h
  unfold drainQueue
  split
  · exact trafficInv_respond _ _ _ _ h
  · split
    · refine trafficInv_respond _ _ _ _ ?_
      split
      · exact trafficInv_onRqu _ h
      · exact retryStall_traffic (trafficInv_onRqu _ h)
    · exact trafficInv_respond _ _ _ _ h

/-! ## Resets and the passing of a millisecond -/

/-- A table of entries with no item held, no mark and no stall meets the invariant if the keys are unique. -/
theorem trafficInv_of_empty {s : State} (pool : s.tcl.pool = []) (stall : s.tcl.stall = none)
    (keys : ∀ i j : Fin 64, s.tcl.routes[i].valid = true → s.tcl.routes[j].valid = true →
      s.tcl.routes[i].source = s.tcl.routes[j].source → s.tcl.routes[i].cls = s.tcl.routes[j].cls → i = j)
    (parts : ∀ i : Fin 64, s.tcl.routes[i].effective = effectiveAction s s.tcl.routes[i]
      ∧ s.tcl.routes[i].overflow = false ∧ s.tcl.routes[i].hits = 0 ∧ s.tcl.routes[i].errors = 0) : trafficInv s := by
  refine ⟨keys, fun i => (parts i).1, by simp [pool], by simp [pool], by simp [pool], fun i mark => ?_,
    by simp [stall], fun i => ?_⟩
  · rw [(parts i).2.1] at mark
    cases mark
  · rw [(parts i).2.2.1, (parts i).2.2.2]
    exact ⟨Nat.zero_le _, Nat.zero_le _⟩

theorem coldState_traffic (s : State) : trafficInv (coldState s) := by
  have cleared (i : Fin 64) : (coldState s).tcl.routes[i] = RouteEntry.cleared := by
    simp [coldState, State.reset, Tcl.reset]
  refine trafficInv_of_empty rfl rfl (fun i j valid => ?_) fun i => ?_
  · rw [cleared] at valid
    cases valid
  · rw [cleared]
    exact ⟨(effectiveAction_invalid _ rfl).symm, rfl, rfl, rfl⟩

theorem warmReset_traffic (c : WarmCause) {s : State} (h : trafficInv s) : trafficInv (warmReset c s) := by
  obtain ⟨q, e, -⟩ := warmReset_eq c s
  rw [e]
  refine idleRestart_traffic (trafficInv_of_empty rfl rfl (fun i j => ?_) fun i => ?_)
  · rw [warmBlocks_route, warmBlocks_route]
    exact (routesSound_of_traffic h).sound.keys i j
  · rw [warmBlocks_route]
    exact ⟨rfl, rfl, rfl, rfl⟩

theorem tick_traffic : Keeps trafficInv tick := by
  intro s h
  obtain ⟨⟨⟨keys, room, nodup, held, marks, counts, invalid⟩, frame, forwards⟩, fresh⟩ := (trafficInv_iff s).mp h
  refine (trafficInv_iff _).mpr ⟨⟨⟨keys, room, nodup, held, marks, counts, invalid⟩, ?_, fun st ticked => ?_⟩, fresh⟩
  · intro some
    exact frame (by simpa [tick, Tcl.tick] using some)
  · obtain ⟨st', stalled, rfl⟩ := Option.map_eq_some_iff.mp ticked
    exact forwards st' stalled

/-! ## Every command and every step -/

/-- Every request keeps the classifier's invariant. -/
theorem runRequest_traffic (c : Instr) : Keeps trafficInv (runRequest c) := by
  intro s h
  cases c
  case identify => exact trafficInv_respond _ _ _ _ h
  case status => exact trafficInv_respond _ _ _ _ h
  case configSet => exact configSet_traffic _ _ _ h
  case configGet => exact configGet_traffic _ _ h
  case freeze => exact trafficInv_respond _ _ _ _ (trafficInv_onHlc _ h)
  case reset => exact trafficInv_respond _ _ _ _ (warmReset_traffic _ h)
  case faultClear => exact trafficInv_respond _ _ _ _ (trafficInv_onHlc _ h)
  case routeLoad => exact loadRoute_traffic _ _ _ _ _ _ _ _ _ h
  case routeClear => exact clearRoute_traffic _ _ h
  case routeRead => exact readRoute_traffic _ _ h
  case postureLoad => exact loadPosture_traffic _ _ _ h
  case postureRead => exact readPosture_traffic _ _ h
  case orientLock => exact orientLock_traffic _ _ h
  case dockSend => exact sendDock_traffic _ _ _ _ _ h
  case detachAnswer => exact answerDetach_traffic _ _ h
  case dockRetry => exact retryDock_traffic _ h
  case penConfig => exact configPen_traffic _ _ h
  case supply => exact setSupply_traffic _ _ h
  case hostState => exact setHostState_traffic _ _ h
  case holdClaim => exact holdClaim_traffic _ _ _ _ _ h
  case holdRelease => exact holdRelease_traffic _ _ _ h
  case drain => exact drainQueue_traffic _ _ _ h
  all_goals exact h

theorem transact_traffic (waited mosi) : Keeps trafficInv (transact waited mosi) := by
  intro s h
  have taken (r) : Keeps trafficInv (takeRequest r) := by
    intro t ht
    unfold takeRequest
    split
    · exact ht
    · exact trafficInv_calm.raiseFault _ (trafficInv_respond _ _ _ _ ht)
    · split
      · exact runRequest_traffic _ ht
      · exact trafficInv_respond _ _ _ _ ht
  have clocked : trafficInv (s.onHlc fun h => (h.select waited).clock mosi.bits) := trafficInv_onHlc _ h
  unfold transact
  simp only
  split
  · unfold endTransfer
    simp only
    split
    · split
      · exact taken _ (trafficInv_onHlc _ (trafficInv_onHlc _ clocked))
      · exact trafficInv_onHlc _ (trafficInv_onHlc _ clocked)
    all_goals exact trafficInv_onHlc _ clocked
  · exact clocked

/-- A command answers with a next state that meets the classifier's invariant. -/
abbrev TrafficKept (c : Instr) (s : State) : Prop := ∃ t, exec c s = .next t ∧ trafficInv t

theorem trafficKept_done {s : State} (h : trafficInv s) : ∃ t, done s = .next t ∧ trafficInv t :=
  ⟨_, rfl, trafficInv_congr h rfl rfl rfl rfl rfl⟩

/-- A command that acts on a condition alone keeps what its act keeps. -/
theorem keeps_ite {P : State → Prop} {p : Prop} [Decidable p] {f : State → State} {s : State} (act : P (f s))
    (hs : P s) : P (if p then f s else s) := by
  split
  · exact act
  · exact hs

theorem staleExpired_traffic {s} (h : trafficInv s) : trafficInv (if s.pse.staleTimer.isSome then
    (let s1 := s.onPse fun p => { p with staleTimer := none, hinge := .unknown }
     if s.pse.hinge = .unknown then s1 else evaluate s1) else s) := by
  split
  · simp only
    split
    · exact trafficInv_onPse h
    · exact trafficInv_posed.evaluate (trafficInv_onPse h)
  · exact h

/-- Every command keeps the classifier's invariant. -/
theorem trafficKept (c : Instr) {s : State} (h : trafficInv s) : TrafficKept c s := by
  have calm := trafficInv_calm
  have posed := trafficInv_posed
  have changes {new ev cause} : trafficInv (changeDock new ev cause nothing s) := changeDock_keeps_traffic calm_nothing h
  cases c
  case hostTransaction => exact trafficKept_done (transact_traffic _ _ h)
  case coldReset => exact trafficKept_done (coldState_traffic s)
  case warmResetPin => exact trafficKept_done (warmReset_traffic _ h)
  case lidReadTimerExpiry => exact trafficKept_done (keeps_ite (trafficInv_onPse h) h)
  case lidSampleArrival => exact trafficKept_done (keeps_ite (lidArrival_traffic _ h) h)
  case lidReadFailure => exact trafficKept_done (keeps_ite (posed.lidFailure calm h) h)
  case rotSettleExpiry => exact trafficKept_done (keeps_ite (posed.rotExpire calm _ h) h)
  case pairingTimerExpiry => exact trafficKept_done (trafficInv_onPse h)
  case staleTimerExpiry => exact trafficKept_done (staleExpired_traffic h)
  case hallChange => exact trafficKept_done (by split; exacts [h, acceptHall_traffic _ _ h])
  case settleTimerExpiry =>
    exact trafficKept_done (by split; exacts [posed.commit _ _ _ (trafficInv_onPse h), h])
  case dockFrameTaken => exact trafficKept_done (takeHead_traffic h)
  case stallTimerExpiry => exact trafficKept_done (escalateStall_traffic h)
  case dockCharacter => exact trafficKept_done (by split; exacts [h, receive_traffic _ _ _ h])
  case dockFrameArrival =>
    have hunting := setRx_traffic .hunt h
    exact trafficKept_done (by split; exacts [linkError_traffic hunting, frameArrives_traffic _ _ _ _ hunting])
  case errorWindowExpiry => exact trafficKept_done (keeps_ite (trafficInv_onDlc h) h)
  case transmissionStart =>
    obtain ⟨state, buffer⟩ := s.dlc.chooseFrame_keeps s.sdu.sleep.asleep
    exact trafficKept_done (keeps_ite (trafficInv_onDlc h state buffer) h)
  case transmissionComplete =>
    obtain ⟨state, buffer⟩ := s.dlc.endTransmission_keeps
    exact trafficKept_done (trafficInv_onDlc h state buffer)
  case dockSenseLevel => exact trafficKept_done (senseMillisecond_traffic _ h)
  case senseDebounceComplete => exact trafficKept_done (senseComplete_traffic h)
  case senseLoss => exact trafficKept_done (senseLost_traffic h)
  case latchRequest => exact trafficKept_done (acceptPress_traffic h)
  case helloTimerExpiry => exact trafficKept_done (helloExpired_traffic h)
  case grantTimerExpiry => exact trafficKept_done (by split; exacts [by split <;> exact changes, h])
  case quiesceTimerExpiry => exact trafficKept_done (keeps_ite changes h)
  case releaseWindowExpiry => exact trafficKept_done (keeps_ite changes h)
  case latchDelayExpiry => exact trafficKept_done (keeps_ite (trafficInv_onDlc h) h)
  case latchPeriodExpiry =>
    exact trafficKept_done (by split; exacts [by split <;> exact trafficInv_onDlc h, h])
  case latchOnExpiry => exact trafficKept_done (keeps_ite (trafficInv_onDlc h) h)
  case penCycleEnd => exact trafficKept_done (calm.cycleEnd h)
  case burstTimerExpiry => exact trafficKept_done (calm.pcc _ h)
  case probeStart => exact trafficKept_done (keeps_ite (calm.pcc _ h) h)
  case probeEnd => exact trafficKept_done (keeps_ite (calm.pcc _ h) h)
  case penRxEdge => exact trafficKept_done (calm.pcc _ h)
  case captureOverflow => exact trafficKept_done (keeps_ite (calm.pcc _ h) h)
  case progressWindowExpiry => exact trafficKept_done (calm.progressExpired h)
  case sessionLimit => exact trafficKept_done (calm.sessionLimit h)
  case dimTimerExpiry => exact trafficKept_done (calm.dimExpired h)
  case sleepTimerExpiry => exact trafficKept_done (calm.sleepExpired h)
  case gatherTimerExpiry => exact trafficKept_done (keeps_ite (calm.gatherEnd h) h)
  case holdExpiry => exact trafficKept_done (calm.holdExpired _ h)
  case flushTimerExpiry => exact trafficKept_done (keeps_ite (flushStage_traffic h) h)
  case hallMillisecondLevel => exact trafficKept_done (hallMillisecond_traffic _ _ h)
  case latchButtonMillisecondLevel => exact trafficKept_done (buttonMillisecond_traffic _ h)
  -- the requests
  all_goals
    rw [TrafficKept, exec_request _ rfl]
    exact trafficKept_done (runRequest_traffic _ h)

/-- Settles O59: every command keeps the classifier's invariant, and so does a millisecond. -/
theorem trafficInvariantKept : Obligations.TrafficInvariantKept := by
  intro s t _ _ _ h e
  have kept (c : Instr) (s' : State) (e' : exec c s' = .next t) (h' : trafficInv s') : trafficInv t := by
    obtain ⟨t', stepped, ht⟩ := trafficKept c h'
    cases stepped.symm.trans e'
    exact ht
  unfold step at e
  split at e
  · exact kept _ _ e (trafficInv_congr h rfl rfl rfl rfl rfl)
  · split at e
    · exact kept _ _ e h
    · cases e
      exact tick_traffic h

end Sys2Proof.Machine
end

section
/-! PROOFS. The route table's lookup (O26), and the requests that load and clear an entry, with the records of the release
synthesis where the lane has room for them (O33, O34). -/

namespace Sys2Proof.Machine

/-! ## The lookup of a frame's entry (R48) -/

theorem findRoute_holds {v : Vector RouteEntry 64} {p : RouteEntry → Bool} {i : Fin 64} (h : findRoute v p = some i) :
    p v[i] = true :=
  List.find?_some (p := fun i : Fin 64 => p v[i]) h

theorem findRoute_eq_none {v : Vector RouteEntry 64} {p : RouteEntry → Bool} :
    findRoute v p = none ↔ ∀ i : Fin 64, ¬ p v[i] = true := by
  simp only [findRoute, List.find?_eq_none, List.mem_finRange, forall_const]

/-- The search finds an entry wherever there is one. -/
theorem findRoute_finds {v : Vector RouteEntry 64} {p : RouteEntry → Bool} {i : Fin 64} (h : p v[i] = true) :
    ∃ j, findRoute v p = some j ∧ p v[j] = true := by
  cases found : findRoute v p with
  | none => exact absurd h (findRoute_eq_none.mp found i)
  | some j => exact ⟨j, rfl, findRoute_holds found⟩

/-- The valid entries of a source with a class key. -/
theorem keyed_iff {e : RouteEntry} {source : BitVec 4} {key : ClassKey} :
    (e.valid && e.source = source && e.cls = key) = true ↔ e.valid = true ∧ e.source = source ∧ e.cls = key := by
  simp only [Bool.and_eq_true, decide_eq_true_eq, and_assoc]

/-- Settles O26: the search for the exact key comes first, and the search for class ANY runs only where it fails. -/
theorem lookupPrefersExactKey : Obligations.LookupPrefersExactKey := by
  intro v source cls
  have search (key : ClassKey) : (∀ i : Fin 64, ¬ (v[i].valid = true ∧ v[i].source = source ∧ v[i].cls = key)) →
      findRoute v (fun e => e.valid && e.source = source && e.cls = key) = none :=
    fun without => findRoute_eq_none.mpr fun i h => without i (keyed_iff.mp h)
  refine ⟨fun ⟨i, exact⟩ => ?_, fun without ⟨i, any⟩ => ?_, fun without none => ?_⟩
  · obtain ⟨j, found, holds⟩ := findRoute_finds (p := fun e => e.valid && e.source = source && e.cls = .exact cls) (keyed_iff.mpr exact)
    exact ⟨j, by rw [lookupRoute, found], keyed_iff.mp holds⟩
  · obtain ⟨j, found, holds⟩ := findRoute_finds (p := fun e => e.valid && e.source = source && e.cls = .any) (keyed_iff.mpr any)
    exact ⟨j, by rw [lookupRoute, search _ without]; exact found, keyed_iff.mp holds⟩
  · rw [lookupRoute, search _ without]
    exact search _ none

/-! ## Records placed with room (R165, R166) -/

theorem place_enter {r : Record} {s : State} (room : hasRoom 1 s) : place r s = enterUrgent false r s :=
  if_pos (decide_eq_true (Nat.lt_of_succ_le room))

theorem lodge_nil (s : State) : lodge [] s = s := by
  simp [lodge, stampAll]

theorem stampAll_append (now : Half) : ∀ (rs : List Record) (gap : Nat) (r : Record), stampAll now gap (rs ++ [r])
    = stampAll now gap rs ++ [{ r with stamp := now, gap := if rs.isEmpty then gap else 0, forwarded := false }]
  | [], _, _ => rfl
  | _ :: rs, _, r => by
    have rest := stampAll_append now rs 0 r
    rw [ite_self] at rest
    rw [List.cons_append, stampAll, rest]
    rfl

/-- A record that enters behind others. -/
theorem enter_lodge (r : Record) (rs : List Record) (s : State) :
    enterUrgent false r (lodge rs s) = lodge (rs ++ [r]) s := by
  simp [lodge, enterUrgent, stampAll_append, State.onRqu]

theorem stampAll_length (now : Half) : ∀ (rs : List Record) (gap : Nat), (stampAll now gap rs).length = rs.length
  | [], _ => rfl
  | _ :: rs, _ => congrArg Nat.succ (stampAll_length now rs 0)

theorem lodge_room {rs : List Record} {n : Nat} {s : State} (room : hasRoom (rs.length + n) s) :
    hasRoom n (lodge rs s) := by
  rw [hasRoom] at room ⊢
  simp only [lodge, List.length_append, stampAll_length]
  omega

/-! ## Release synthesis with room for its records (R73, R74) -/

/-- The RELEASE records of an entry's slots. -/
abbrev releasesOf (c : SynthCause) (e : RouteEntry) (l : List PoolSlot) : List Record :=
  l.map fun x => releaseRecord e x.entry c x.item

theorem releaseSlots_room (c : SynthCause) (e : RouteEntry) : ∀ (l : List PoolSlot) (s : State), hasRoom l.length s →
    releaseSlots place e c l s = lodge (releasesOf c e l)
      (s.onTcl fun t => { t with pool := t.pool.filter fun x => decide (x ∉ l) })
  | [], s, _ => by simp [releaseSlots, lodge_nil, State.onTcl]
  | x :: rest, s, room => by
    have first : hasRoom 1 s := by rw [hasRoom, List.length_cons] at *; omega
    have others : hasRoom rest.length
        ((enterUrgent false (releaseRecord e x.entry c x.item) s).onTcl fun t =>
          { t with pool := t.pool.filter (· ≠ x) }) := by
      simp only [hasRoom, List.length_cons, enterUrgent, State.onTcl_rqu, State.onRqu_rqu, List.length_append,
        List.length_nil] at *
      omega
    rw [releaseSlots, place_enter first, releaseSlots_room c e rest _ others, enterUrgent_onTcl, enterUrgent_onTcl,
      lodge_enter]
    show lodge (releasesOf c e (x :: rest)) _ = _
    simp only [State.onTcl, List.filter_filter, List.mem_cons, not_or]
    congr 5
    funext y
    by_cases y = x <;> simp [*]

/-- The records of the release synthesis for one entry (R73). -/
abbrev synthRecords (c : SynthCause) (i : Fin 64) (s : State) : List Record :=
  releasesOf c s.tcl.routes[i] (slotsOf s.tcl.pool i)
    ++ if s.tcl.routes[i].overflow then [allUpRecord s.tcl.routes[i] i c] else []

theorem synthesize_room {c : SynthCause} {i : Fin 64} {s : State} (room : hasRoom (synthRecords c i s).length s) :
    synthesize place c i s = lodge (synthRecords c i s) (s.onTcl fun t => { t with
      routes := t.routes.set i { t.routes[i] with overflow := false }
      pool := poolWithout t.pool i }) := by
  have length : (synthRecords c i s).length = (slotsOf s.tcl.pool i).length
      + (if s.tcl.routes[i].overflow then [allUpRecord s.tcl.routes[i] i c] else []).length := by
    rw [List.length_append, List.length_map]
  have slots : hasRoom (slotsOf s.tcl.pool i).length s := by rw [hasRoom] at *; omega
  have released : releaseSlots place s.tcl.routes[i] c (slotsOf s.tcl.pool i) s
      = lodge (releasesOf c s.tcl.routes[i] (slotsOf s.tcl.pool i))
          (s.onTcl fun t => { t with pool := poolWithout t.pool i }) := by
    rw [releaseSlots_room c _ _ s slots]
    simp only [State.onTcl, filter_slotsOf]
  simp only [synthesize, released]
  split
  · next marked =>
    have behind : hasRoom 1 (lodge (releasesOf c s.tcl.routes[i] (slotsOf s.tcl.pool i))
        (s.onTcl fun t => { t with pool := poolWithout t.pool i })) := by
      refine lodge_room ?_
      rw [length, if_pos marked] at room
      rwa [List.length_map]
    rw [synthRecords, if_pos marked, place_enter behind, enter_lodge]
    rfl
  · next unmarked =>
    have same : { s.tcl.routes[i] with overflow := false } = s.tcl.routes[i] := by
      rw [← Bool.not_eq_true _ |>.mp unmarked]
    rw [synthRecords, if_neg unmarked, List.append_nil]
    simp only [State.onTcl, same, routes_set_self]

end Sys2Proof.Machine
end

section
/-! PROOFS. ROUTE_LOAD, ROUTE_CLEAR and ROUTE_READ with room for the records of the release synthesis (O33, O34). -/

namespace Sys2Proof.Machine

/-! ## An entry vacated and written (R45, R46, R63) -/

/-- The records that vacating an entry places: those of the release synthesis of a valid one. -/
abbrev vacantRecords (c : SynthCause) (i : Fin 64) (s : State) : List Record :=
  if s.tcl.routes[i].valid then synthRecords c i s else []

/-- The stall is one of the entry. -/
abbrev stalledAt (i : Fin 64) (s : State) : Prop := s.tcl.stall.map (·.entry) = some i

/-- The state with an entry written, its slots gone from the pool, and a stall of it ended with its frame. -/
def rewritten (i : Fin 64) (e : RouteEntry) (s : State) : State :=
  { s with
    tcl := {
      routes := s.tcl.routes.set i e
      pool := poolWithout s.tcl.pool i
      stall := if stalledAt i s then none else s.tcl.stall }
    dlc := { s.dlc with buffer := if stalledAt i s then s.dlc.buffer.tail else s.dlc.buffer } }

theorem unstall_eq (i : Fin 64) (s : State) : (if s.tcl.stall.map (·.entry) = some i then endStall s else s) =
    { s with
      tcl := { s.tcl with stall := if stalledAt i s then none else s.tcl.stall }
      dlc := { s.dlc with buffer := if stalledAt i s then s.dlc.buffer.tail else s.dlc.buffer } } := by
  split <;> rfl

theorem poolWithout_unheld {p : List PoolSlot} {i : Fin 64} (h : slotsOf p i = []) : poolWithout p i = p :=
  List.filter_eq_self.mpr fun x mem => decide_eq_true fun here =>
    List.filter_eq_nil_iff.mp h x mem (decide_eq_true here)

/-- What vacating an entry does where its records have room: the entry itself is yet to be written. -/
theorem vacateRoute_room {c : SynthCause} {i : Fin 64} {s : State}
    (unheld : s.tcl.routes[i].valid = false → slotsOf s.tcl.pool i = [])
    (room : hasRoom (vacantRecords c i s).length s) :
    ∃ old, vacateRoute c i s = lodge (vacantRecords c i s) (rewritten i old s) := by
  have cleared : ∃ old, (if s.tcl.routes[i].valid then synthesize place c i s else s)
      = lodge (vacantRecords c i s) (s.onTcl fun t => { t with
          routes := t.routes.set i old, pool := poolWithout t.pool i }) := by
    by_cases valid : s.tcl.routes[i].valid = true
    · rw [vacantRecords, if_pos valid] at room ⊢
      exact ⟨_, by rw [if_pos valid]; exact synthesize_room room⟩
    · refine ⟨s.tcl.routes[i], ?_⟩
      rw [vacantRecords, if_neg valid, if_neg valid, lodge_nil]
      simp only [State.onTcl, routes_set_self, poolWithout_unheld (unheld (Bool.eq_false_iff.mpr valid))]
  obtain ⟨old, cleared⟩ := cleared
  refine ⟨old, ?_⟩
  simp only [vacateRoute, cleared]
  exact unstall_eq i _

theorem rewritten_again (i : Fin 64) (old e : RouteEntry) (rs : List Record) (s : State) :
    (lodge rs (rewritten i old s)).onRoute i (fun _ => e) = lodge rs (rewritten i e s) := by
  simp only [rewritten, State.onRoute, State.onTcl, lodge, Vector.set_set]

/-- R54 reads nothing that vacating an entry changes. -/
theorem effectiveAction_rewritten (i : Fin 64) (old e : RouteEntry) (rs : List Record) (s : State) :
    effectiveAction (lodge rs (rewritten i old s)) e = effectiveAction s e := rfl

theorem routeIndex_val (i : Fin 64) {index : Byte} (h : i.val = index.toNat) : routeIndex index = some i := by
  have : index.toNat < 64 := h ▸ i.isLt
  rw [routeIndex, dif_pos this]
  exact congrArg some (Fin.ext h.symm)

theorem natByte_toNat (b : Byte) : natByte b.toNat = b := by
  simp [natByte]

/-- The release records in the statements' words. -/
theorem synthRecords_eq {c : SynthCause} {i : Fin 64} {index : Byte} (h : i.val = index.toNat) (s : State) :
    synthRecords c i s = (slotsOf s.tcl.pool i).map (fun x => (⟨.release, .urgent, s.tcl.routes[i].source.setWidth 8,
        s.tcl.routes[i].cls.code, 0, 0, [index, x.item, c.code], false⟩ : Record))
      ++ (if s.tcl.routes[i].overflow then [⟨.allUp, .urgent, s.tcl.routes[i].source.setWidth 8,
        s.tcl.routes[i].cls.code, 0, 0, [index, c.code], false⟩] else []) := by
  have byte : natByte i.val = index := by rw [h, natByte_toNat]
  rw [synthRecords, allUpRecord, byte]
  refine congrArg (· ++ _) (List.map_congr_left fun x mem => ?_)
  have here : x.entry = i := by simpa using (List.mem_filter.mp mem).2
  rw [here, releaseRecord, byte]
  rfl

/-- The slots of an index, whether it is named as a number or as an index of the table. -/
theorem slotsOf_val (i : Fin 64) (p : List PoolSlot) : (p.filter fun x => x.entry.val = i.val) = slotsOf p i :=
  List.filter_congr fun _ _ => decide_eq_decide.mpr Fin.ext_iff.symm

theorem poolWithout_val (i : Fin 64) (p : List PoolSlot) :
    (p.filter fun x => x.entry.val ≠ i.val) = poolWithout p i :=
  List.filter_congr fun _ _ => decide_eq_decide.mpr (not_congr Fin.ext_iff.symm)

/-- A ROUTE_CLEAR with room for its records. -/
theorem clearRoute_room {tag index : Byte} {i : Fin 64} {s : State} (at_ : i.val = index.toNat)
    (thawed : s.hlc.frozen = false) (unheld : s.tcl.routes[i].valid = false → slotsOf s.tcl.pool i = [])
    (room : hasRoom (vacantRecords .clear i s).length s) :
    clearRoute tag index s
      = respond 0x11 tag .ok [] (lodge (vacantRecords .clear i s) (rewritten i RouteEntry.cleared s)) := by
  obtain ⟨old, vacated⟩ := vacateRoute_room unheld room
  rw [clearRoute, thawed, if_neg Bool.false_ne_true, routeIndex_val i at_]
  simp only [vacated, rewritten_again]

theorem rewritten_unstalled {i : Fin 64} {e : RouteEntry} {s : State} (other : ¬ stalledAt i s) :
    rewritten i e s = { s with tcl := { s.tcl with
      routes := s.tcl.routes.set i e, pool := poolWithout s.tcl.pool i } } := by
  rw [rewritten, if_neg other, if_neg other]

/-- Settles O34: the release synthesis with room for its records, then the cleared entry. -/
theorem routeClearReleasesItems : Obligations.RouteClearReleasesItems := by
  intro s tag index h thawed valid elsewhere e mine rel room
  let i : Fin 64 := ⟨index.toNat, h⟩
  have valid : s.tcl.routes[i].valid = true := valid
  have records : vacantRecords .clear i s = rel := by
    rw [vacantRecords, if_pos valid, synthRecords_eq rfl, ← slotsOf_val]
    rfl
  have other : ¬ stalledAt i s := by
    intro here
    obtain ⟨st, stalled, entry⟩ := Option.map_eq_some_iff.mp here
    exact elsewhere st stalled (congrArg Fin.val entry)
  have invalid : s.tcl.routes[i].valid = false → slotsOf s.tcl.pool i = [] := fun no => by
    rw [valid] at no
    cases no
  show done (clearRoute tag index s) = _
  rw [clearRoute_room (i := i) rfl thawed invalid (by rw [records]; exact room), records, done_respond,
    rewritten_unstalled other, ← poolWithout_val]
  rfl

/-! ## The bytes of a loaded entry (R47, R195) -/

theorem classKey_code {b : Byte} {key : ClassKey} (h : ClassKey.ofCode b = some key) : key.code = b := by
  unfold ClassKey.ofCode at h
  split at h
  · next any =>
    cases h
    exact any.symm
  · split at h
    · cases h
      simp only [ClassKey.code]
      bv_omega
    · cases h

theorem optByte_length {b : Byte} {len : Option Nat} (h : lengthOf b = some len) : optByte len = b := by
  unfold lengthOf at h
  split at h
  · next none =>
    cases h
    exact none.symm
  · split at h
    · cases h
      exact natByte_toNat b
    · cases h

theorem routeAction_code : ∀ {b : BitVec 2} {a : RouteAction}, RouteAction.ofCode b = some a →
    a.code.setWidth 16 = b.setWidth 16 := by
  decide

/-- Eight pairs of bits put together again. -/
theorem pairs_join (a : Half) : [0, 2, 4, 6, 8, 10, 12, 14].foldr
    (fun k (w : Half) => (w <<< 2) ||| (a.extractLsb' k 2).setWidth 16) 0 = a := by
  refine BitVec.eq_of_getLsbD_eq fun i inside => ?_
  simp only [List.foldr_cons, List.foldr_nil]
  interval_cases i <;> simp

theorem actionsHalf_of {a : Half} {v : Vector RouteAction 8} (h : actionsOf a = some v) : actionsHalf v = a := by
  simp only [actionsOf, Option.bind_eq_bind, Option.bind_eq_some_iff, Option.pure_def, Option.some.injEq] at h
  obtain ⟨_, h0, _, h1, _, h2, _, h3, _, h4, _, h5, _, h6, _, h7, rfl⟩ := h
  refine Eq.trans ?_ (pairs_join a)
  simp only [actionsHalf, Vector.toList_mk, List.foldr_cons, List.foldr_nil, routeAction_code h0, routeAction_code h1,
    routeAction_code h2, routeAction_code h3, routeAction_code h4, routeAction_code h5, routeAction_code h6,
    routeAction_code h7]

/-- The flag bits of a byte below 16 put together again. -/
theorem flags_join : ∀ {b : Byte}, b.toNat < 16 →
    boolByte ((if b.getLsbD 0 then Lane.bulk else .urgent) = .bulk) ||| (boolByte (b.getLsbD 1) <<< 1)
      ||| (boolByte (b.getLsbD 2) <<< 2) ||| (boolByte (b.getLsbD 3) <<< 3) = b := by
  decide

/-- A loaded entry's host fields read back as the fields that spell it. -/
theorem routeEntryOf_hostBytes {source cls : Byte} {actions : Half} {flags wakeMask errorLimit length : Byte}
    {e : RouteEntry} (spelt : routeEntryOf source cls actions flags wakeMask errorLimit length = some e) :
    e.valid = true ∧ e.hostBytes = [1, source, cls] ++ halfBytes actions ++ [flags, wakeMask, errorLimit, length] := by
  simp only [routeEntryOf, Option.bind_eq_bind, Option.bind_eq_some_iff] at spelt
  obtain ⟨key, hk, acts, ha, len, hl, rest⟩ := spelt
  split at rest
  · next inside =>
    obtain ⟨narrow, flagged, -, -⟩ := inside
    cases rest
    have back : (source.setWidth 4).setWidth 8 = source := by bv_omega
    refine ⟨rfl, ?_⟩
    rw [RouteEntry.hostBytes, actionsHalf_of ha, classKey_code hk, optByte_length hl, natByte_toNat, RouteEntry.flagByte,
      flags_join flagged, back]
    rfl
  · cases rest

/-! ## ROUTE_LOAD -/

/-- A ROUTE_LOAD with its key free and room for its records. -/
theorem loadRoute_room {tag index : Byte} {i : Fin 64} {e : RouteEntry} {s : State} (at_ : i.val = index.toNat)
    (thawed : s.hlc.frozen = false) (free : keyTaken s.tcl.routes i e.source e.cls = false)
    (unheld : s.tcl.routes[i].valid = false → slotsOf s.tcl.pool i = [])
    (room : hasRoom (vacantRecords .load i s).length s) :
    loadRoute tag index (some e) s = respond 0x10 tag .ok [] (lodge (vacantRecords .load i s)
      (rewritten i { e with effective := effectiveAction s e } s)) := by
  obtain ⟨old, vacated⟩ := vacateRoute_room unheld room
  have found := routeIndex_val i at_
  unfold loadRoute
  simp only [thawed, found, free, Bool.false_eq_true, if_false, writeRoute, vacated, rewritten_again,
    effectiveAction_rewritten]

theorem stalledAt_val {i : Fin 64} {s : State} : s.tcl.stall.map (·.entry.val) = some i.val ↔ stalledAt i s := by
  simp [stalledAt, Option.map_eq_some_iff, Fin.ext_iff]

/-- What ROUTE_READ answers of an entry just written ACTIVE with its counts at 0: it holds no slot and no stall. -/
theorem routePayload_rewritten {i : Fin 64} {e : RouteEntry} (rs : List Record) (s : State)
    (reset : e.state = .active ∧ e.hits = 0 ∧ e.errors = 0 ∧ e.overflow = false) :
    routePayload i (lodge rs (rewritten i e s)) = e.hostBytes ++ [0, 0, 0, 0, 0, e.effective.code, 0, 0] := by
  obtain ⟨active, hits, errors, unmarked⟩ := reset
  have entry : (lodge rs (rewritten i e s)).tcl.routes[i] = e := Vector.getElem_set_self ..
  have empty : slotsOf (lodge rs (rewritten i e s)).tcl.pool i = [] :=
    List.filter_eq_nil_iff.mpr fun x mem => by simpa using (List.mem_filter.mp mem).2
  have unstalled : ¬ (lodge rs (rewritten i e s)).tcl.stall.map (·.entry) = some i := by
    simp only [lodge, rewritten]
    split
    · simp
    · next other => exact other
  simp only [routePayload, entry, empty, unstalled, active, hits, errors, unmarked]
  rfl

/-- Fields in range, in the statements' words, are those that spell an entry. -/
theorem routeFields_good {source cls : Byte} {actions : Half} {flags errorLimit length : Byte}
    (narrow : source.toNat ≤ 15) (key : cls = 0xFF ∨ (1 ≤ cls.toNat ∧ cls.toNat ≤ 15))
    (coded : ∀ k : Fin 8, actions.extractLsb' (2 * k) 2 ≠ 3) (flagged : flags.toNat ≤ 15)
    (limit : errorLimit.toNat ≤ 15) (len : length = 0xFF ∨ length.toNat ≤ 32)
    (long : flags.getLsbD 2 = true → 2 ≤ length.toNat) : ¬ badRoute source cls actions flags errorLimit length := by
  have zero : cls = 0 ↔ cls.toNat = 0 := by bv_omega
  refine not_badRoute_iff.mpr ⟨classKey_isSome.mpr ?_, actionsOf_isSome.mpr coded, lengthOf_isSome.mpr len, narrow,
    by omega, limit, fun ⟨paired, short⟩ => absurd (long paired) (by omega)⟩
  rw [ne_eq, zero]
  exact key.imp_right fun ⟨lo, hi⟩ => ⟨by omega, hi⟩

/-- Settles O33: the load is the vacating of its index, where that places records, and one write; the entry's bytes then read
back. -/
theorem routeEntryReadsBack : Obligations.RouteEntryReadsBack := by
  intro s tag tag' index source cls actions flags wakeMask errorLimit length thawed h narrow key coded flagged limit len
    long free old mine rel stalledHere invalid room
  let i : Fin 64 := ⟨index.toNat, h⟩
  have good := routeFields_good narrow key coded flagged limit len long
  obtain ⟨e, spelt, keySource, keyCls⟩ := routeEntryOf_good good wakeMask
  obtain ⟨valid, bytes⟩ := routeEntryOf_hostBytes spelt
  have untaken : keyTaken s.tcl.routes i e.source e.cls = false := by
    refine Bool.eq_false_iff.mpr fun taken => ?_
    obtain ⟨j, other, there, sameSource, sameCls⟩ := keyTaken_iff.mp taken
    refine free j (fun same => other (Fin.ext same)) there ?_ (by rw [sameCls]; exact classKey_code keyCls)
    rw [sameSource, keySource, BitVec.toNat_setWidth]
    omega
  have unheld : s.tcl.routes[i].valid = false → slotsOf s.tcl.pool i = [] := fun no => by
    rw [← slotsOf_val]
    exact invalid no
  have records : vacantRecords .load i s = rel := by
    rw [vacantRecords, synthRecords_eq rfl, ← slotsOf_val]
    rfl
  have written (e : RouteEntry) : rewritten i e s = { s with
      tcl := {
        routes := s.tcl.routes.set index.toNat e h
        pool := s.tcl.pool.filter (fun x => x.entry.val ≠ index.toNat)
        stall := if stalledHere then none else s.tcl.stall }
      dlc := { s.dlc with buffer := if stalledHere then s.dlc.buffer.tail else s.dlc.buffer } } := by
    have here : stalledHere ↔ stalledAt i s := stalledAt_val (i := i)
    rw [if_congr here rfl rfl, if_congr here rfl rfl, rewritten, ← poolWithout_val]
  let loaded := { e with effective := effectiveAction s e }
  refine ⟨loaded, answered 0x90 tag .ok [] (lodge rel (rewritten i loaded s)), ?_, by rw [written], valid, rfl, ?_⟩
  · show done (loadRoute tag index (routeEntryOf source cls actions flags wakeMask errorLimit length) s) = _
    rw [spelt, loadRoute_room (i := i) rfl thawed untaken unheld (by rw [records]; exact room), records, done_respond]
    rfl
  · have answer : routePayload i (lodge rel (rewritten i loaded s)) = [1, source, cls] ++ halfBytes actions
        ++ [flags, wakeMask, errorLimit, length] ++ [0, 0, 0, 0, 0, loaded.effective.code, 0, 0] := by
      have reset := routeEntryOf_reset spelt
      rw [routePayload_rewritten rel s (e := loaded) reset, ← bytes]
      rfl
    show done (readRoute tag' index _) = _
    rw [readRoute, routeIndex_val i rfl, ← answer]
    exact done_respond _ _ _ _ _

end Sys2Proof.Machine
end

section
/-! PROOFS. The stall timer's expiry (O31): what a frame's placed or lost record does to the Held Pool, and the loss of a
stalled record. -/

namespace Sys2Proof.Machine

/-! ## The pool effect of a paired frame (R66 to R69) -/

theorem itemEdge_eq {f : Frame} {item : Byte} {down : Bool} {more : List Byte}
    (payload : f.payload = item :: (if down then 1 else 2) :: more) : itemEdge f = some (item, down) := by
  rw [itemEdge, payload]
  cases down <;> rfl

theorem filter_slot (p : List PoolSlot) (i : Fin 64) (item : Byte) :
    (p.filter fun x => !(x.entry = i && x.item = item)) = p.filter (· ≠ ⟨i, item⟩) :=
  List.filter_congr fun x _ => by
    obtain ⟨entry, item'⟩ := x
    simp [PoolSlot.mk.injEq]

theorem filter_unheld {p : List PoolSlot} {x : PoolSlot} (h : x ∉ p) : p.filter (· ≠ x) = p :=
  List.filter_eq_self.mpr fun _ mem => decide_eq_true fun same => h (same ▸ mem)

/-- The state with the pool and one entry's overflow mark replaced. -/
def pooled (i : Fin 64) (p : List PoolSlot) (mark : Bool) (s : State) : State :=
  s.onTcl fun t => { t with pool := p, routes := t.routes.set i { t.routes[i] with overflow := mark } }

theorem pooled_pool (i : Fin 64) (p : List PoolSlot) (s : State) :
    s.onTcl (fun t => { t with pool := p }) = pooled i p s.tcl.routes[i].overflow s :=
  congrArg (fun v => s.onTcl fun t => { t with pool := p, routes := v }) (routes_set_self s.tcl.routes i).symm

theorem pooled_self (i : Fin 64) (s : State) : s = pooled i s.tcl.pool s.tcl.routes[i].overflow s :=
  pooled_pool i s.tcl.pool s

theorem poolEffect_unpaired {i : Fin 64} {s : State} (unpaired : s.tcl.routes[i].paired = false) (f : Frame)
    (placed : Bool) : poolEffect i f placed s = s := by
  rw [poolEffect, unpaired, if_neg Bool.false_ne_true]

section
variable {i : Fin 64} {f : Frame} {item : Byte} {s : State}

theorem poolEffect_down {placed : Bool} (paired : s.tcl.routes[i].paired = true)
    (edge : itemEdge f = some (item, true)) : poolEffect i f placed s =
      if poolHolds s.tcl.pool i item || !placed then s
      else if s.tcl.pool.length < 32 then s.onTcl fun t => { t with pool := t.pool ++ [⟨i, item⟩] }
      else s.onRoute i fun e => { e with overflow := true } := by
  simp only [poolEffect, paired, edge, if_true]

theorem poolEffect_up {placed : Bool} (paired : s.tcl.routes[i].paired = true)
    (edge : itemEdge f = some (item, false)) : poolEffect i f placed s =
      if poolHolds s.tcl.pool i item then
        pooled i (s.tcl.pool.filter (· ≠ ⟨i, item⟩)) (s.tcl.routes[i].overflow || !placed) s
      else s := by
  simp only [poolEffect, paired, edge, if_true]
  rw [← filter_slot]
  cases placed
  · rw [Bool.not_false, Bool.or_true]
    rfl
  · rw [Bool.not_true, Bool.or_false, ← pooled_pool]
    rfl

/-- A paired frame's record placed: a DOWN takes a slot or sets the mark, an UP frees its slot. -/
theorem poolEffect_placed {down : Bool} (paired : s.tcl.routes[i].paired = true)
    (edge : itemEdge f = some (item, down)) :
    poolEffect i f true s = pooled i
      (if down then (if (⟨i, item⟩ : PoolSlot) ∈ s.tcl.pool ∨ 32 ≤ s.tcl.pool.length then s.tcl.pool
          else s.tcl.pool ++ [⟨i, item⟩])
        else s.tcl.pool.filter (· ≠ ⟨i, item⟩))
      (s.tcl.routes[i].overflow || (down && decide ((⟨i, item⟩ : PoolSlot) ∉ s.tcl.pool)
        && decide (32 ≤ s.tcl.pool.length))) s := by
  by_cases held : (⟨i, item⟩ : PoolSlot) ∈ s.tcl.pool
  · have holds := poolHolds_iff.mpr held
    cases down
    · rw [poolEffect_up paired edge, if_pos holds]
      rfl
    · rw [poolEffect_down paired edge, holds, if_pos (Bool.true_or _)]
      simpa [held] using pooled_self i s
  · have free : poolHolds s.tcl.pool i item = false := Bool.eq_false_iff.mpr fun h => held (poolHolds_iff.mp h)
    cases down
    · rw [poolEffect_up paired edge, free, if_neg Bool.false_ne_true, if_neg Bool.false_ne_true, filter_unheld held]
      simpa using pooled_self i s
    · rw [poolEffect_down paired edge, free, if_neg (by decide)]
      by_cases room : s.tcl.pool.length < 32
      · rw [if_pos room]
        refine (pooled_pool i (s.tcl.pool ++ [⟨i, item⟩]) s).trans ?_
        simp [held, Nat.not_le.mpr room]
      · rw [if_neg room]
        simp only [held, Nat.not_lt.mp room, if_true, or_true, not_false_eq_true, decide_true, Bool.and_self, Bool.or_true]
        rfl

/-- A paired frame's record lost: only the UP of a held item shows. -/
theorem poolEffect_lost {down : Bool} (paired : s.tcl.routes[i].paired = true)
    (edge : itemEdge f = some (item, down)) :
    poolEffect i f false s = pooled i
      (if down then s.tcl.pool else s.tcl.pool.filter (· ≠ ⟨i, item⟩))
      (s.tcl.routes[i].overflow || (!down && decide ((⟨i, item⟩ : PoolSlot) ∈ s.tcl.pool))) s := by
  cases down
  · rw [poolEffect_up paired edge]
    by_cases held : (⟨i, item⟩ : PoolSlot) ∈ s.tcl.pool
    · rw [if_pos (poolHolds_iff.mpr held)]
      simp [held]
    · rw [if_neg (fun h => held (poolHolds_iff.mp h)), if_neg Bool.false_ne_true, filter_unheld held]
      simpa [held] using pooled_self i s
  · rw [poolEffect_down paired edge, if_pos (by rw [Bool.not_false, Bool.or_true])]
    simpa using pooled_self i s

end

/-! ## A stalled record lost (R62, R167) -/

/-- A lost record's rise of the gap count, in a full lane. -/
theorem loseUrgent_gap {s : State} {g : Nat} (full : 32 ≤ s.rqu.urgent.length) (small : g ≤ 255)
    (rises : g ≤ s.rqu.urgentGap + 1) : (loseUrgent s).rqu.urgent = s.rqu.urgent ∧ g ≤ (loseUrgent s).rqu.urgentGap := by
  have stable := fullLane_stable full small
  have counted : (countUrgentLoss s).rqu.urgent = s.rqu.urgent ∧ g ≤ (countUrgentLoss s).rqu.urgentGap :=
    ⟨rfl, by simp only [countUrgentLoss, State.onRqu_rqu]; omega⟩
  rw [loseUrgent, loseUrgentWith]
  split
  · exact stable.raiseUrgentLoss counted
  · exact counted

theorem loseStalled_gap {s : State} (full : 32 ≤ s.rqu.urgent.length) :
    (loseStalled s).rqu.urgent = s.rqu.urgent ∧ min 255 (s.rqu.urgentGap + 1) ≤ (loseStalled s).rqu.urgentGap := by
  have small : min 255 s.rqu.urgentGap ≤ 255 := Nat.min_le_left ..
  unfold loseStalled
  split
  · obtain ⟨lane, gap⟩ := (fullLane_stable full small).raiseFault (k := .dockStall) (fun _ h => h) (s := s)
      ⟨rfl, Nat.min_le_right ..⟩
    rw [← lane] at full ⊢
    exact loseUrgent_gap full (Nat.min_le_left ..) (by omega)
  · exact (fullLane_stable full (Nat.min_le_left ..)).raiseFault (fun _ h => h)
      (loseUrgent_gap full (Nat.min_le_left ..) (Nat.min_le_right ..))

/-- DOCK_STALL is raised once, in either order of the loss and the raise. -/
theorem loseStalled_fault (s : State) :
    (loseStalled s).hlc.faults[2] = ⟨true, min 255 (s.hlc.faults[2].count + 1)⟩ := by
  have raises (t : State) : (raiseFault .dockStall t).hlc.faults[2] = ⟨true, min 255 (t.hlc.faults[2].count + 1)⟩ :=
    (raised_raiseFault (k := .dockStall) (by decide) (by decide) t).1.1
  have keeps (t : State) : (loseUrgent t).hlc.faults[2] = t.hlc.faults[2] :=
    (faultStays_stable (k := .dockStall) (by decide) (by decide) t.hlc.faults[2]).loseUrgent (s := t) rfl
  unfold loseStalled
  split
  · rw [keeps, raises]
  · rw [raises, keeps]

theorem loseStalled_beyond (s : State) : Beyond s (loseStalled s) :=
  (beyond_stable s).loseStalled (fun _ b => ⟨b.time, b.params, b.link, b.pse, b.dock, b.choices, b.pending⟩) (.refl s)

theorem loseStalled_tcl (s : State) : (loseStalled s).tcl = s.tcl := loseStalled_keeps (tcl_calm s.tcl) rfl

theorem loseStalled_dlc (s : State) : (loseStalled s).dlc = s.dlc := loseStalled_keeps (dlc_calm s.dlc) rfl

/-! ## The expiry -/

/-- A frame as the record that the expiry places of it. -/
theorem fwdRecord_entered (f : Frame) (s : State) : endStall (enterUrgent false (fwdRecord .urgent f) s)
    = lodge [⟨.fwd, .urgent, f.source.setWidth 8, f.cls.setWidth 8, 0, 0, f.payload, false⟩] (endStall s) := rfl

section
variable {s : State} {st : Stall} {f : Frame} {rest : List Frame}

theorem exec_stall_placed (stalled : s.tcl.stall = some st) (buffer : s.dlc.buffer = f :: rest)
    (room : s.rqu.urgent.length < 32) : exec .stallTimerExpiry s
      = .next (drivePins (poolEffect st.entry f true (endStall (enterUrgent false (fwdRecord .urgent f) s)))) := by
  show Host.Outcome.next (drivePins (escalateStall s)) = _
  have enters : urgentRoom s = true := decide_eq_true room
  simp only [escalateStall, stalled, buffer]
  rw [if_pos enters]

theorem exec_stall_lost (stalled : s.tcl.stall = some st) (buffer : s.dlc.buffer = f :: rest)
    (full : 32 ≤ s.rqu.urgent.length) : exec .stallTimerExpiry s
      = .next (drivePins (poolEffect st.entry f false (endStall (loseStalled s)))) := by
  show Host.Outcome.next (drivePins (escalateStall s)) = _
  have refuses : ¬ urgentRoom s = true := fun room => absurd full (Nat.not_le.mpr (of_decide_eq_true room))
  simp only [escalateStall, stalled, buffer]
  rw [if_neg refuses]

/-- What the statement says of a lost record. -/
structure StallLost (s : State) (rest : List Frame) (t : State) : Prop where
  beyond : Beyond s t
  stall : t.tcl.stall = none
  buffer : t.dlc.buffer = rest
  lane : t.rqu.urgent = s.rqu.urgent
  gap : min 255 (s.rqu.urgentGap + 1) ≤ t.rqu.urgentGap
  fault : t.hlc.faults[2] = ⟨true, min 255 (s.hlc.faults[2].count + 1)⟩

theorem stallLost (buffer : s.dlc.buffer = f :: rest) (full : 32 ≤ s.rqu.urgent.length) :
    StallLost s rest (endStall (loseStalled s)) := by
  obtain ⟨lane, gap⟩ := loseStalled_gap full
  have b := loseStalled_beyond s
  refine ⟨⟨b.time, b.params, b.link, b.pse, b.dock, b.choices, b.pending⟩, rfl, ?_, lane, gap, loseStalled_fault s⟩
  show (loseStalled s).dlc.buffer.tail = rest
  rw [loseStalled_dlc, buffer, List.tail_cons]

theorem StallLost.pooled {t : State} (h : StallLost s rest t) (i p mark) : StallLost s rest (pooled i p mark t) :=
  ⟨⟨h.beyond.time, h.beyond.params, h.beyond.link, h.beyond.pse, h.beyond.dock, h.beyond.choices, h.beyond.pending⟩,
    h.stall, h.buffer, h.lane, h.gap, h.fault⟩

theorem StallLost.pins {t : State} (h : StallLost s rest t) : StallLost s rest (drivePins t) :=
  ⟨h.beyond.pins, h.stall, h.buffer, h.lane, h.gap, h.fault⟩

theorem endStall_loseStalled_tcl (s : State) : (endStall (loseStalled s)).tcl = { s.tcl with stall := none } :=
  congrArg (fun t : Tcl => { t with stall := none }) (loseStalled_tcl s)

end

/-- Settles O31: with room the record enters and the pool effect follows; in a full lane the loss leaves TCL and DLC, and
the pool effect of a lost record follows. -/
theorem stallLimitEndsStall : Obligations.StallLimitEndsStall := by
  intro s st f rest stalled buffer e placed lost
  have ended : endStall (enterUrgent false (fwdRecord .urgent f) s) = placed := by
    rw [fwdRecord_entered]
    simp only [placed, endStall, State.onTcl, State.onDlc, buffer, List.tail_cons]
  have told {t : State} (h : StallLost s rest t) : lost t := ⟨h.beyond, h.stall, h.buffer, h.lane, h.gap, h.fault⟩
  have entry : (endStall (loseStalled s)).tcl.routes[st.entry] = e := by
    rw [endStall_loseStalled_tcl]
  refine ⟨fun unpaired => ⟨fun room => ?_, fun full => ?_⟩, fun item down more paired payload =>
    ⟨fun room => ?_, fun full => ?_⟩⟩
  · rw [exec_stall_placed stalled buffer room, ended, poolEffect_unpaired (s := placed) unpaired]
  · refine ⟨_, exec_stall_lost stalled buffer full, ?_⟩
    rw [poolEffect_unpaired (by rw [entry]; exact unpaired)]
    exact ⟨told (stallLost buffer full).pins, endStall_loseStalled_tcl s⟩
  · rw [exec_stall_placed stalled buffer room, ended, poolEffect_placed (s := placed) paired (itemEdge_eq payload)]
    rfl
  · refine ⟨_, exec_stall_lost stalled buffer full, ?_⟩
    rw [poolEffect_lost (by rw [entry]; exact paired) (itemEdge_eq payload)]
    refine ⟨told ((stallLost buffer full).pooled ..).pins, ?_⟩
    show (Machine.pooled ..).tcl = _
    simp only [Machine.pooled, State.onTcl_tcl, endStall_loseStalled_tcl]
    rfl

end Sys2Proof.Machine
end

section
/-! PROOFS. The path of a dock frame that is not tapped and carries no RESTART: to which part of the classifier it comes,
and its placement in the BULK lane (O32). -/

namespace Sys2Proof.Machine

/-! ## The way to an entry (R42, R48) -/

theorem tap_other {f : Frame} (other : ¬ (f.source = 3 ∧ f.cls = 1)) (s : State) : tap f s = s :=
  if_neg other

theorem classify_matched {dock : Bool} {f : Frame} {s : State} {i : Fin 64}
    (found : lookupRoute s.tcl.routes f.source f.cls = some i) :
    classify dock f s = handleMatched dock i f (countHit i s) := by
  simp only [classify, found]

theorem classify_default {dock : Bool} {f : Frame} {s : State} (none : lookupRoute s.tcl.routes f.source f.cls = none) :
    classify dock f s = handleDefault dock f s := by
  simp only [classify, none]

/-- An entry with one more hit (R48). -/
abbrev RouteEntry.hit (e : RouteEntry) : RouteEntry := { e with hits := min 65535 (e.hits + 1) }

theorem countHit_entry (i : Fin 64) (s : State) : (countHit i s).tcl.routes[i] = s.tcl.routes[i].hit :=
  Vector.getElem_set_self ..

/-- The state once a frame of an entry has been counted and has left the buffer. -/
def counted (i : Fin 64) (rest : List Frame) (s : State) : State :=
  { s with
    dlc := { s.dlc with buffer := rest }
    tcl := { s.tcl with routes := s.tcl.routes.set i s.tcl.routes[i].hit } }

theorem dropHead_eq {s : State} {f : Frame} {rest : List Frame} (head : s.dlc.buffer = f :: rest) :
    dropHead s = { s with dlc := { s.dlc with buffer := rest } } := by
  simp only [dropHead, State.onDlc, head, List.tail_cons]

theorem dropHead_countHit {i : Fin 64} {s : State} {f : Frame} {rest : List Frame} (head : s.dlc.buffer = f :: rest) :
    dropHead (countHit i s) = counted i rest s :=
  dropHead_eq (s := countHit i s) head

theorem handleMatched_disabled {i : Fin 64} {s : State} (disabled : s.tcl.routes[i].state = .disabled) (dock f) :
    handleMatched dock i f s = endFrame dock s := by
  simp only [handleMatched, disabled, if_true]

theorem handleMatched_malformed {i : Fin 64} {f : Frame} {s : State} (active : s.tcl.routes[i].state = .active)
    (bad : malformed s.tcl.routes[i] f = true) (dock) :
    handleMatched dock i f s = endFrame dock (countMalformed i s) := by
  simp only [handleMatched, active, bad, reduceCtorEq, if_false, if_true]

theorem handleMatched_rests {i : Fin 64} {f : Frame} {s : State} (active : s.tcl.routes[i].state = .active)
    (formed : malformed s.tcl.routes[i] f = false) (rests : s.tcl.routes[i].effective ≠ .forward) (dock) :
    handleMatched dock i f s = endFrame dock (signal i s.tcl.routes[i].effective s) := by
  simp only [handleMatched, active, formed, rests, reduceCtorEq, decide_false, Bool.false_and, Bool.false_eq_true,
    if_false]

theorem handleMatched_forwards {i : Fin 64} {f : Frame} {s : State} (active : s.tcl.routes[i].state = .active)
    (formed : malformed s.tcl.routes[i] f = false) (forwards : s.tcl.routes[i].effective = .forward)
    (unpaired : s.tcl.routes[i].paired = false) (dock) :
    handleMatched dock i f s = placeFrame dock i f (signal i .forward s) := by
  simp only [handleMatched, active, formed, forwards, poolForwards, unpaired, reduceCtorEq, decide_true, Bool.not_false,
    Bool.true_or, Bool.and_self, Bool.false_eq_true, if_false, if_true]

/-! ## Signalling (R57) -/

theorem activity_asleep {s : State} (asleep : s.sdu.sleep.asleep = true) : activity s = s := by
  cases sleep : s.sdu.sleep <;> simp_all [activity, SleepState.asleep]

/-- DROP signals nothing. -/
theorem signal_drop (i : Fin 64) (s : State) : signal i .drop s = s := by
  simp [signal]

section
variable {i : Fin 64} {a : RouteAction} {s : State}

/-- Awake, an entry that is no activity source signals nothing. -/
theorem signal_inactive (awake : s.sdu.sleep.asleep = false) (inactive : s.tcl.routes[i].activity = false) :
    signal i a s = s := by
  simp only [signal, inactive, Bool.false_and, Bool.false_eq_true, if_false, awake]

/-- Awake, an activity source signals its activity alone. -/
theorem signal_activity (live : a ≠ .drop) (awake : s.sdu.sleep.asleep = false)
    (active : s.tcl.routes[i].activity = true) : signal i a s = activity s := by
  have stays : (activity s).sdu.sleep.asleep = false := (asleep_calm false).activity awake
  cases a <;> simp_all [signal]

/-- Asleep, the posture in the wake mask hands over ROUTE_WAKE. -/
theorem signal_asleep (live : a ≠ .drop) (asleep : s.sdu.sleep.asleep = true) :
    signal i a s = if maskHas s.tcl.routes[i].wakeMask s.posture then wake .routeWake s else s := by
  cases a <;> simp_all [signal, activity_asleep asleep]

end

/-- A reason that a running gather holds already adds nothing. -/
theorem wake_gathered {k : WakeKind} {s : State} (waking : s.sdu.sleep = .waking) (runs : s.sdu.gatherTimer.isSome = true)
    (held : k ∈ s.sdu.wakeList) : wake k s = s := by
  have contains : s.sdu.wakeList.contains k = true := List.contains_iff_mem.mpr held
  simp only [wake, wakeWith, waking, runs, contains, if_true]

/-! ## The stage and the BULK lane (R168 to R172) -/

/-- A flush (R169). -/
def Rqu.flushed (time : Nat) (q : Rqu) : Rqu :=
  let k := min q.stage.length (96 - q.bulk.length)
  { q with
    bulk := q.bulk ++ q.stage.take k
    stage := q.stage.drop k
    flushTimer := if k = q.stage.length then none else some time }

theorem flushStage_eq (s : State) : flushStage s = s.onRqu (Rqu.flushed s.params.flushTime.toNat) := by
  have all : (s.rqu.stage.drop (96 - s.rqu.bulk.length)).isEmpty = true
      ↔ min s.rqu.stage.length (96 - s.rqu.bulk.length) = s.rqu.stage.length := by
    rw [List.isEmpty_iff, List.drop_eq_nil_iff, inf_eq_left]
  have taken : s.rqu.stage.take (min s.rqu.stage.length (96 - s.rqu.bulk.length))
      = s.rqu.stage.take (96 - s.rqu.bulk.length) := by
    rw [Nat.min_comm, ← List.take_eq_take_min]
  have left : s.rqu.stage.drop (min s.rqu.stage.length (96 - s.rqu.bulk.length))
      = s.rqu.stage.drop (96 - s.rqu.bulk.length) := by
    rw [Nat.min_comm, ← List.drop_eq_drop_min]
  simp only [flushStage, Rqu.flushed, State.onRqu, Config.bulkRecords, taken, left, if_congr all rfl rfl]

/-- A non-coalesced record handed to the BULK lane (R170). -/
def Rqu.direct (time : Nat) (r : Record) (q : Rqu) : Rqu :=
  let p := q.flushed time
  if p.stage = [] ∧ p.bulk.length < 96 then { p with bulk := p.bulk ++ [r], bulkGap := 0 }
  else { p with bulkGap := min 255 (q.bulkGap + 1) }

/-- A coalesced record handed to the stage (R168, R169). -/
def Rqu.coalesced (time : Nat) (r : Record) (q : Rqu) : Rqu :=
  let p := { q with
    stage := q.stage ++ [r], bulkGap := 0
    flushTimer := if q.stage = [] then some time else q.flushTimer }
  if 8 ≤ q.stage.length then { q with bulkGap := min 255 (q.bulkGap + 1) }
  else if q.stage.length < 5 then p else p.flushed time

theorem placeDirect_suppressed {s : State} (suppressed : s.rqu.suppressed = true) (r) : placeDirect r s = (s, false) := by
  rw [placeDirect, suppressed, if_pos rfl]

theorem placeCoalesced_suppressed {s : State} (suppressed : s.rqu.suppressed = true) (r) :
    placeCoalesced r s = (s, false) := by
  rw [placeCoalesced, suppressed, if_pos rfl]

theorem placeDirect_eq {s : State} (open_ : s.rqu.suppressed = false) (r : Record) : (placeDirect r s).1
    = s.onRqu (Rqu.direct s.params.flushTime.toNat
        { r with stamp := s.time, gap := s.rqu.bulkGap, forwarded := false }) := by
  rw [placeDirect, open_, if_neg Bool.false_ne_true, flushStage_eq]
  let q := s.rqu.flushed s.params.flushTime.toNat
  have room : (q.stage.isEmpty && decide (q.bulk.length < 96)) = true ↔ q.stage = [] ∧ q.bulk.length < 96 := by
    rw [Bool.and_eq_true, List.isEmpty_iff, decide_eq_true_eq]
  by_cases enters : q.stage = [] ∧ q.bulk.length < 96
  · refine (congrArg Prod.fst (if_pos (room.mpr enters))).trans ?_
    exact congrArg (fun p => s.onRqu fun _ => p) (if_pos enters).symm
  · refine (congrArg Prod.fst (if_neg fun h => enters (room.mp h))).trans ?_
    exact congrArg (fun p => s.onRqu fun _ => p) (if_neg enters).symm

theorem placeCoalesced_eq {s : State} (open_ : s.rqu.suppressed = false) (r : Record) : (placeCoalesced r s).1
    = s.onRqu (Rqu.coalesced s.params.flushTime.toNat
        { r with stamp := s.time, gap := s.rqu.bulkGap, forwarded := false }) := by
  have becomes {p : Rqu} (h : Rqu.coalesced s.params.flushTime.toNat
      { r with stamp := s.time, gap := s.rqu.bulkGap, forwarded := false } s.rqu = p) :
      (s.onRqu fun _ => p) = s.onRqu (Rqu.coalesced s.params.flushTime.toNat
        { r with stamp := s.time, gap := s.rqu.bulkGap, forwarded := false }) := by
    simp only [State.onRqu, h]
  rw [placeCoalesced, open_, if_neg Bool.false_ne_true]
  by_cases full : 8 ≤ s.rqu.stage.length
  · rw [← becomes (if_pos full), if_pos full]
    rfl
  · rw [if_neg full]
    simp only [State.onRqu_rqu, Config.stageHighWater, List.length_append, List.length_singleton, flushStage_eq,
      List.isEmpty_iff]
    by_cases high : 6 ≤ s.rqu.stage.length + 1
    · rw [← becomes ((if_neg full).trans (if_neg (by omega))), if_pos high]
      rfl
    · rw [← becomes ((if_neg full).trans (if_pos (by omega))), if_neg high]
      rfl

end Sys2Proof.Machine
end

section
/-! PROOFS. BULK frames at the head of the Dock Receive Buffer, and the flush timer (O32). -/

namespace Sys2Proof.Machine

/-! ## A BULK frame of an unpaired entry (R58, R66) -/

section
variable {i : Fin 64} {f : Frame} {rest : List Frame} {s : State}

theorem placeFrame_bulk (bulk : s.tcl.routes[i].lane = .bulk) (unpaired : s.tcl.routes[i].paired = false) (dock) :
    placeFrame dock i f s = endFrame dock
      (if s.tcl.routes[i].coalesce then placeCoalesced (fwdRecord .bulk f) s else placeDirect (fwdRecord .bulk f) s).1 := by
  have same : ∀ r : State × Bool, r.1.tcl = s.tcl → poolEffect i f r.2 r.1 = r.1 := fun r tcl =>
    poolEffect_unpaired (by rw [tcl]; exact unpaired) f r.2
  simp only [placeFrame, bulk]
  refine congrArg (endFrame dock) (same _ ?_)
  split
  · exact placeCoalesced_tcl _ s
  · exact placeDirect_tcl _ s

/-- What the statement says of the queue where a BULK frame is handed over. -/
abbrev Rqu.takes (coalesce : Bool) (time : Nat) (r : Record) (q : Rqu) : Rqu :=
  if q.suppressed then q else if coalesce then q.coalesced time r else q.direct time r

/-- A BULK frame as its record enters, with the part time and the BULK gap count. -/
abbrev bulkRecord (f : Frame) (s : State) : Record :=
  ⟨.fwd, .bulk, f.source.setWidth 8, f.cls.setWidth 8, s.time, s.rqu.bulkGap, f.payload, false⟩

theorem placeBulk_eq (f : Frame) (s : State) (coalesce : Bool) :
    (if coalesce then placeCoalesced (fwdRecord .bulk f) s else placeDirect (fwdRecord .bulk f) s).1
      = s.onRqu (Rqu.takes coalesce s.params.flushTime.toNat (bulkRecord f s)) := by
  cases suppressed : s.rqu.suppressed
  · have becomes (p : Rqu) (h : Rqu.takes coalesce s.params.flushTime.toNat (bulkRecord f s) s.rqu = p) :
        s.onRqu (Rqu.takes coalesce s.params.flushTime.toNat (bulkRecord f s)) = s.onRqu fun _ => p := by
      simp only [State.onRqu, h]
    cases coalesce
    · rw [if_neg Bool.false_ne_true, placeDirect_eq suppressed,
        becomes _ (by rw [Rqu.takes, suppressed, if_neg Bool.false_ne_true, if_neg Bool.false_ne_true])]
      rfl
    · rw [if_pos rfl, placeCoalesced_eq suppressed,
        becomes _ (by rw [Rqu.takes, suppressed, if_neg Bool.false_ne_true, if_pos rfl])]
      rfl
  · have still : s.onRqu (Rqu.takes coalesce s.params.flushTime.toNat (bulkRecord f s)) = s := by
      simp only [State.onRqu, Rqu.takes, suppressed, if_true]
    rw [still]
    cases coalesce
    · rw [if_neg Bool.false_ne_true, placeDirect_suppressed suppressed]
    · rw [if_pos rfl, placeCoalesced_suppressed suppressed]

/-- The head frame of a BULK entry that forwards, once its hit is counted and its signals are given. -/
theorem classify_bulk (found : lookupRoute s.tcl.routes f.source f.cls = some i)
    (active : s.tcl.routes[i].state = .active) (formed : malformed s.tcl.routes[i] f = false)
    (forwards : s.tcl.routes[i].effective = .forward) (unpaired : s.tcl.routes[i].paired = false) :
    classify true f s = placeFrame true i f (signal i .forward (countHit i s)) := by
  have entry := countHit_entry i s
  rw [classify_matched found, handleMatched_forwards (by rw [entry]; exact active) (by rw [entry]; exact formed)
    (by rw [entry]; exact forwards) (by rw [entry]; exact unpaired)]

end

/-! ## The queue's BULK part while the SDU wakes (R57, R172) -/

/-- What R168 to R172 speak of: lane, stage, gap count, timer and suppression. -/
abbrev Rqu.bulkPart (q : Rqu) : List Record × List Record × Nat × Option Nat × Bool :=
  (q.bulk, q.stage, q.bulkGap, q.flushTimer, q.suppressed)

theorem bulkPart_calm (b) : Calm fun s => s.rqu.bulkPart = b :=
  ⟨fun _ _ _ _ h => h, fun _ h => h, fun _ _ h => h, fun _ _ h => h, fun _ _ _ h => h⟩

/-! ## The statement -/

/-- A frame that signals nothing new, handed over (R168 to R172). -/
theorem exec_bulk {s : State} {f : Frame} {rest : List Frame} {i : Fin 64} (head : s.dlc.buffer = f :: rest)
    (free : s.tcl.stall = none) (plain : f.restart = false) (other : ¬ (f.source = 3 ∧ f.cls = 1))
    (found : lookupRoute s.tcl.routes f.source f.cls = some i) (active : s.tcl.routes[i].state = .active)
    (formed : malformed s.tcl.routes[i] f = false) (forwards : s.tcl.routes[i].effective = .forward)
    (unpaired : s.tcl.routes[i].paired = false) (bulk : s.tcl.routes[i].lane = .bulk)
    (quiet : signal i .forward (countHit i s) = countHit i s) :
    exec .dockFrameTaken s = .next (drivePins ((counted i rest s).onRqu
      (Rqu.takes s.tcl.routes[i].coalesce s.params.flushTime.toNat (bulkRecord f s)))) := by
  have entry := countHit_entry i s
  rw [exec_dockFrameTaken head free plain, tap_other other, classify_bulk found active formed forwards unpaired, quiet,
    placeFrame_bulk (by rw [entry]; exact bulk) (by rw [entry]; exact unpaired), entry, placeBulk_eq,
    ← dropHead_countHit head]
  rfl

/-- A frame with no entry under FORWARD_BULK (R49). -/
theorem exec_defaultBulk {s : State} {f : Frame} {rest : List Frame} (head : s.dlc.buffer = f :: rest)
    (free : s.tcl.stall = none) (plain : f.restart = false) (other : ¬ (f.source = 3 ∧ f.cls = 1))
    (none : lookupRoute s.tcl.routes f.source f.cls = none) (route : s.params.defaultRoute = 1) :
    exec .dockFrameTaken s = .next (drivePins { s with
      dlc := { s.dlc with buffer := rest }
      rqu := if s.sdu.sleep.asleep = true ∨ s.rqu.suppressed = true
          ∨ (s.dlc.state ≠ .attached ∧ s.dlc.state ≠ .detachRequested) then s.rqu
        else s.rqu.direct s.params.flushTime.toNat (bulkRecord f s) }) := by
  rw [exec_dockFrameTaken head free plain, tap_other other, classify_default none]
  have forwards : s.params.defaultForwards = true := decide_eq_true route
  have used : s.dlc.state.inUse = true ↔ ¬ (s.dlc.state ≠ .attached ∧ s.dlc.state ≠ .detachRequested) := by
    cases s.dlc.state <;> decide
  have direct := placeBulk_eq f s false
  rw [if_neg Bool.false_ne_true] at direct
  by_cases taken : s.sdu.sleep.asleep = false ∧ s.dlc.state.inUse = true
  · obtain ⟨awake, inUse⟩ := taken
    have route : handleDefault true f s = dropHead (placeDirect (fwdRecord .bulk f) s).1 := by
      simp only [handleDefault, forwards, awake, inUse, Bool.not_false, Bool.not_true, Bool.false_or, Bool.and_self,
        if_true, endFrame]
    rw [route, direct, dropHead_eq (s := s.onRqu _) head]
    have refused : ¬ (s.dlc.state ≠ .attached ∧ s.dlc.state ≠ .detachRequested) := used.mp inUse
    simp only [awake, refused, Bool.false_eq_true, or_false, false_or]
    rfl
  · have route : handleDefault true f s = dropHead s := by
      refine (if_neg fun h => taken ?_).trans rfl
      simpa [forwards] using h
    have kept : s.sdu.sleep.asleep = true ∨ s.rqu.suppressed = true
        ∨ (s.dlc.state ≠ .attached ∧ s.dlc.state ≠ .detachRequested) := by
      by_contra all
      simp only [not_or, Bool.not_eq_true] at all
      exact taken ⟨all.1, used.mpr all.2.2⟩
    rw [route, dropHead_eq head, if_pos kept]

/-- In STANDBY under suppression a frame wakes, and the queue's BULK part stays (R57, R172). -/
theorem exec_bulk_standby {s : State} {f : Frame} {rest : List Frame} {i : Fin 64} (head : s.dlc.buffer = f :: rest)
    (free : s.tcl.stall = none) (plain : f.restart = false) (other : ¬ (f.source = 3 ∧ f.cls = 1))
    (found : lookupRoute s.tcl.routes f.source f.cls = some i) (active : s.tcl.routes[i].state = .active)
    (formed : malformed s.tcl.routes[i] f = false) (forwards : s.tcl.routes[i].effective = .forward)
    (unpaired : s.tcl.routes[i].paired = false) (bulk : s.tcl.routes[i].lane = .bulk)
    (standby : s.sdu.sleep = .standby) (suppressed : s.rqu.suppressed = true)
    (wakes : maskHas s.tcl.routes[i].wakeMask s.posture = true) :
    exec .dockFrameTaken s = .next (drivePins (dropHead (wake .routeWake (countHit i s)))) := by
  have entry := countHit_entry i s
  have asleep : (countHit i s).sdu.sleep.asleep = true := congrArg SleepState.asleep standby
  have signals : signal i .forward (countHit i s) = wake .routeWake (countHit i s) := by
    rw [signal_asleep (by decide) asleep, entry]
    exact if_pos wakes
  have tcl : (wake .routeWake (countHit i s)).tcl = (countHit i s).tcl := (tcl_calm _).wake .routeWake rfl
  have part : (wake .routeWake (countHit i s)).rqu.bulkPart = s.rqu.bulkPart :=
    (bulkPart_calm _).wake .routeWake (s := countHit i s) rfl
  have still : (wake .routeWake (countHit i s)).rqu.suppressed = true := by
    simp only [Rqu.bulkPart, Prod.mk.injEq] at part
    rw [part.2.2.2.2, suppressed]
  rw [exec_dockFrameTaken head free plain, tap_other other, classify_bulk found active formed forwards unpaired, signals,
    placeFrame_bulk (by rw [tcl, entry]; exact bulk) (by rw [tcl, entry]; exact unpaired), placeBulk_eq]
  simp only [State.onRqu, Rqu.takes, still, if_true]
  rfl

/-- Settles O32: a frame whose signals change nothing is handed over in closed form; in STANDBY under suppression the wake
keeps the queue's BULK part. -/
theorem bulkFramesCoalesce : Obligations.BulkFramesCoalesce := by
  intro s flushed direct coalesced
  constructor
  · intro f rest head free plain other r
    refine ⟨fun i found active formed forwards unpaired bulk => ?_, exec_defaultBulk head free plain other⟩
    have entry := countHit_entry i s
    intro e taken
    refine ⟨fun silent => ?_, fun standby suppressed wakes => ?_⟩
    · have quiet : signal i .forward (countHit i s) = countHit i s := by
        rcases silent with ⟨inactive, awake⟩ | ⟨waking, runs, held⟩
        · exact signal_inactive awake (by rw [entry]; exact inactive)
        · rw [signal_asleep (s := countHit i s) (by decide) (congrArg SleepState.asleep waking)]
          split
          · exact wake_gathered waking runs held
          · rfl
      exact exec_bulk head free plain other found active formed forwards unpaired bulk quiet
    · refine ⟨_, exec_bulk_standby head free plain other found active formed forwards unpaired bulk standby suppressed
        wakes, ?_⟩
      have counted : Beyond s (countHit i s) := ⟨rfl, rfl, rfl, rfl, rfl, rfl, rfl⟩
      have b := (beyond_stable s).wake .routeWake counted
      have dlc : (wake .routeWake (countHit i s)).dlc = s.dlc := (dlc_calm s.dlc).wake .routeWake (s := countHit i s) rfl
      have part : (wake .routeWake (countHit i s)).rqu.bulkPart = s.rqu.bulkPart :=
        (bulkPart_calm _).wake .routeWake (s := countHit i s) rfl
      simp only [Rqu.bulkPart, Prod.mk.injEq] at part
      obtain ⟨lane, stage, gap, timer, -⟩ := part
      refine ⟨⟨b.time, b.params, b.link, b.pse, b.dock, b.choices, b.pending⟩,
        wake_waking .routeWake (s := countHit i s) (congrArg SleepState.asleep standby), ?_,
        (tcl_calm _).wake .routeWake (s := countHit i s) rfl, lane, stage, gap, timer⟩
      show (wake .routeWake (countHit i s)).dlc.buffer.tail = rest
      rw [dlc, head, List.tail_cons]
  · intro n running
    show Host.Outcome.next (drivePins (if s.rqu.flushTimer.isSome then flushStage s else s)) = _
    rw [running, if_pos Option.isSome_some, flushStage_eq]
    rfl

end Sys2Proof.Machine
end

section
/-! PROOFS. Frames that are not forwarded (O29): the hit alone, the signals of WAKE_ONLY, and the errors of malformed frames
with the disable at the limit. -/

namespace Sys2Proof.Machine

/-! ## What placing keeps beside the URGENT lane's own fault (R167, R189)

`Calm` asks for every fault kind and every update of the SDU. A kind's Fault Summary entry, and a gather that runs, stand
outside it; placing keeps them all the same, since it raises URGENT_LOSS alone and wakes with FAULT alone. -/

/-- A predicate that a lost record's raise carries over. -/
structure LossKept (P : State → Prop) : Prop where
  enter : ∀ b r s, urgentRoom s = true → P s → P (enterUrgent b r s)
  lose : Keeps P countUrgentLoss
  loss : Keeps P (noteFault .urgentLoss)
  woken : ∀ {pl}, PlacerHolds P pl → Keeps P (wakeWith pl .fault)

namespace LossKept

variable {P : State → Prop} (h : LossKept P)
include h

theorem placeQuiet : PlacerHolds P placeQuiet := by
  intro r s hs
  unfold Machine.placeQuiet placeWith
  split
  · next room => exact h.enter _ _ _ room hs
  · exact loseUrgentWith_keeps h.lose h.loss hs

theorem raiseUrgentLoss : Keeps P raiseUrgentLoss :=
  Stable.raiseWith (placeSilent_keeps fun r s => h.enter _ r s) (h.woken h.placeQuiet) h.loss

theorem place : PlacerHolds P place := by
  intro r s hs
  unfold Machine.place placeWith
  split
  · next room => exact h.enter _ _ _ room hs
  · exact loseUrgentWith_keeps h.lose h.raiseUrgentLoss hs

/-- A raise carries over what its note meets. -/
theorem raiseFault {k : FaultKind} {s : State} (noted : P (noteFault k s)) : P (raiseFault k s) := by
  simp only [Machine.raiseFault, raiseWith]
  split
  · exact noted
  · split
    · exact noted
    · exact h.place _ noted
    · exact h.woken h.place (h.place _ noted)

end LossKept

/-- A wake reason writes the SDU, the PCC and what its records write. -/
theorem wakeWith_keeps {P : State → Prop} {pl : Placer} (hp : PlacerHolds P pl) (sdu : ∀ f, Keeps P (State.onSdu f))
    (pcc : ∀ f, Keeps P (State.onPcc f)) (k) : Keeps P (wakeWith pl k) := by
  have atOnce : Keeps P (gatherAtOnce pl) := by
    intro s hs
    unfold gatherAtOnce
    split
    · exact hp _ (sdu _ hs)
    · exact hs
  have allowance := penAllowance_keeps hp pcc
  intro s hs
  unfold wakeWith
  split
  · have woken : P (gatherStart k (s.onSdu fun u => { u with sleep := .waking })) := sdu _ (sdu _ hs)
    simp only [sleepHandOn_waking]
    split
    · exact allowance (atOnce woken)
    · exact atOnce (allowance woken)
  · split
    · split
      · exact hs
      · exact sdu _ hs
    · exact atOnce (sdu _ hs)
  all_goals exact hs

/-- A kind's entry of the Fault Summary through the raise of another. -/
theorem faultIs_lossKept {k : FaultKind} (other : k ≠ .urgentLoss) (e : FaultEntry) :
    LossKept fun s => s.hlc.faults[k.index] = e where
  enter _ _ _ _ h := h
  lose _ h := h
  loss s h := by
    rw [← h]
    exact Vector.getElem_set_ne FaultKind.urgentLoss.index.isLt k.index.isLt
      (fun same => other (FaultKind.index_injective (Fin.ext same)).symm)
  woken hp := wakeWith_keeps hp (fun _ _ h => h) (fun _ _ h => h) _

theorem faultIs_reread (k : FaultKind) (e : FaultEntry) : Reread fun s => s.hlc.faults[k.index] = e where
  forward _ _ _ h := h
  tcl _ _ _ h := h
  act _ _ h := h
  drop _ h := h

/-- A gather runs, its first reason the one named. -/
abbrev gathers (k : WakeKind) (g : Nat) (s : State) : Prop :=
  s.sdu.sleep = .waking ∧ s.sdu.gatherTimer = some g ∧ s.sdu.wakeList.head? = some k

/-- A reason handed over while a gather runs stands behind its first. -/
theorem gathers_wakeWith (k : WakeKind) (g : Nat) (pl : Placer) (k' : WakeKind) :
    Keeps (gathers k g) (wakeWith pl k') := by
  intro s ⟨waking, runs, first⟩
  simp only [wakeWith, waking, runs, Option.isSome_some, if_true]
  split
  · exact ⟨waking, runs, first⟩
  · exact ⟨waking, runs, by simp [first]⟩

theorem gathers_lossKept (k : WakeKind) (g : Nat) : LossKept (gathers k g) where
  enter _ _ _ _ h := h
  lose _ h := h
  loss _ h := h
  woken _ := gathers_wakeWith k g _ _

/-- A wake reason in STANDBY starts a gather (R154). -/
theorem wake_gathers {k : WakeKind} {s : State} (standby : s.sdu.sleep = .standby) (long : s.params.wakeGather ≠ 0) :
    gathers k s.params.wakeGather.toNat (wake k s) := by
  have timed : ¬ s.params.wakeGather.toNat = 0 := fun zero => long (BitVec.eq_of_toNat_eq zero)
  have allowance := penAllowance_keeps (gathers_lossKept k s.params.wakeGather.toNat).place fun _ _ h => h
  have starts : gathers k s.params.wakeGather.toNat (gatherStart k (s.onSdu fun u => { u with sleep := .waking })) :=
    ⟨rfl, rfl, rfl⟩
  have once {t : State} (same : t.params = s.params) (h : gathers k s.params.wakeGather.toNat t) :
      gathers k s.params.wakeGather.toNat (gatherAtOnce place t) := by
    rw [gatherAtOnce, same, if_neg timed]
    exact h
  have kept : (penAllowance place (gatherStart k (s.onSdu fun u => { u with sleep := .waking }))).params = s.params :=
    blind_params.penAllowance blind_params.place _
  simp only [wake, wakeWith, standby, sleepHandOn_waking]
  split
  · exact allowance (once rfl starts)
  · exact once kept (allowance starts)

/-- A wake reason joins a running gather (R155). -/
theorem wake_joins {k : WakeKind} {s : State} (waking : s.sdu.sleep = .waking) (runs : s.sdu.gatherTimer.isSome = true) :
    wake k s = s.onSdu fun u => { u with
      wakeList := if k ∈ u.wakeList then u.wakeList else u.wakeList ++ [k] } := by
  by_cases held : k ∈ s.sdu.wakeList
  · rw [wake_gathered waking runs held]
    simp only [State.onSdu, held, if_true]
  · have new : ¬ s.sdu.wakeList.contains k = true := fun h => held (List.contains_iff_mem.mp h)
    simp only [wake, wakeWith, waking, runs, new, if_true, Bool.false_eq_true, if_false, State.onSdu, held]

/-- A wake reason in WAKING without a gather starts one (R154). -/
theorem wake_starts {k : WakeKind} {s : State} (waking : s.sdu.sleep = .waking) (idle : s.sdu.gatherTimer = none)
    (long : s.params.wakeGather ≠ 0) : wake k s = gatherStart k s := by
  have timed : ¬ s.params.wakeGather.toNat = 0 := fun zero => long (BitVec.eq_of_toNat_eq zero)
  simp only [wake, wakeWith, waking, idle, Option.isSome_none, Bool.false_eq_true, if_false]
  exact if_neg timed

/-! ## The disable (R51) -/

/-- Without a stall there is no retry. -/
theorem retryIfChanged_unstalled {before : Option RouteAction} {s : State} (free : s.tcl.stall = none) :
    retryIfChanged before s = s := by
  rw [retryIfChanged, free]
  rfl

theorem recomputeEntry_stall (c : SynthCause) (i : Fin 64) {s : State} (free : s.tcl.stall = none) :
    (recomputeEntry place c i s).tcl.stall = none := by
  have stable := (bufferIs_poised s.dlc.buffer).toStable
  exact (stable.recomputeEntry stable.place c i ⟨free, rfl⟩).1

/-- The disable without a stall: the recomputation, a record, and the raise. -/
theorem disableEntry_unstalled {i : Fin 64} {s : State} (free : s.tcl.stall = none) : ∃ r, disableEntry i s
    = raiseFault .routeDisabled (place r (recomputeEntry place .disabled i
        (s.onRoute i fun e => { e with state := .disabled }))) := by
  simp only [disableEntry]
  rw [retryIfChanged_unstalled (recomputeEntry_stall .disabled i (s := s.onRoute i _) free)]
  exact ⟨_, rfl⟩

/-- An entry at its error limit is DISABLED with action DROP (R51, R54). -/
theorem disableEntry_entry {i : Fin 64} {s : State} (free : s.tcl.stall = none)
    (valid : s.tcl.routes[i].valid = true) : entryFresh { s.tcl.routes[i] with state := .disabled } i (disableEntry i s) := by
  have entry : (s.onRoute i fun e => { e with state := .disabled }).tcl.routes[i]
      = { s.tcl.routes[i] with state := .disabled } := by
    rw [onRoute_routes, if_pos rfl]
  have calm := entryFresh_calm { s.tcl.routes[i] with state := .disabled } i
  have fresh := recomputeEntry_fresh (e := { s.tcl.routes[i] with state := .disabled }) valid .disabled (i := i)
    (s := s.onRoute i _) ⟨_, _, entry⟩
  obtain ⟨r, disables⟩ := disableEntry_unstalled (i := i) free
  rw [disables]
  exact calm.raiseFault _ (calm.place r fresh)

theorem entryFresh_disabled {e : RouteEntry} {i : Fin 64} {s : State} (h : entryFresh e i s)
    (disabled : e.state = .disabled) : s.tcl.routes[i].effective = .drop := by
  obtain ⟨⟨a, o, read⟩, fresh⟩ := h
  have state : s.tcl.routes[i].state = .disabled := by rw [read]; exact disabled
  rw [fresh, effectiveAction, state]
  simp

/-- ROUTE_DISABLED is raised once. -/
theorem raiseDisabled_fault {e : FaultEntry} {t : State} (before : t.hlc.faults[3] = e) :
    (raiseFault .routeDisabled t).hlc.faults[3] = ⟨true, min 255 (e.count + 1)⟩ := by
  rw [← before]
  exact (faultIs_lossKept (k := .routeDisabled) (by decide) _).raiseFault (noteFault_entry .routeDisabled t)

theorem disableEntry_fault {i : Fin 64} {s : State} (free : s.tcl.stall = none) :
    (disableEntry i s).hlc.faults[3] = ⟨true, min 255 (s.hlc.faults[3].count + 1)⟩ := by
  have kept := faultIs_lossKept (k := .routeDisabled) (by decide) s.hlc.faults[3]
  have reread := faultIs_reread .routeDisabled s.hlc.faults[3]
  obtain ⟨r, disables⟩ := disableEntry_unstalled (i := i) free
  rw [disables]
  exact raiseDisabled_fault (kept.place r (reread.recomputeEntry kept.place .disabled i (s := s.onRoute i _) rfl))

/-- A malformed frame below the limit (R51). -/
theorem countMalformed_below {i : Fin 64} {s : State} (below : s.tcl.routes[i].errorLimit = 0
    ∨ min 15 (s.tcl.routes[i].errors + 1) ≠ s.tcl.routes[i].errorLimit) :
    countMalformed i s = s.onRoute i fun e => { e with errors := min 15 (e.errors + 1) } := by
  refine if_neg ?_
  rw [onRoute_routes, if_pos rfl]
  rintro ⟨limited, reached⟩
  exact below.elim limited fun other => other reached

/-- A malformed frame at the limit (R51). -/
theorem countMalformed_limit {i : Fin 64} {s : State} (limited : s.tcl.routes[i].errorLimit ≠ 0)
    (reached : min 15 (s.tcl.routes[i].errors + 1) = s.tcl.routes[i].errorLimit) :
    countMalformed i s = disableEntry i (s.onRoute i fun e => { e with errors := min 15 (e.errors + 1) }) := by
  refine if_pos ?_
  rw [onRoute_routes, if_pos rfl]
  exact ⟨limited, reached⟩

end Sys2Proof.Machine
end

section
/-! PROOFS. O29: each clause is the closed form of a frame's handling, or a predicate carried through it. -/

namespace Sys2Proof.Machine

section

variable {s : State} {f : Frame} {rest : List Frame} {i : Fin 64} (head : s.dlc.buffer = f :: rest)
  (free : s.tcl.stall = none) (plain : f.restart = false) (other : ¬ (f.source = 3 ∧ f.cls = 1))
  (found : lookupRoute s.tcl.routes f.source f.cls = some i)

include head free plain other found

theorem exec_matched : exec .dockFrameTaken s = .next (drivePins (handleMatched true i f (countHit i s))) := by
  rw [exec_dockFrameTaken head free plain, tap_other other, classify_matched found]

/-- On a DISABLED entry, and under DROP, the hit is all (R48, R57). -/
theorem exec_hitAlone (rests : s.tcl.routes[i].state = .disabled
      ∨ (malformed s.tcl.routes[i] f = false ∧ s.tcl.routes[i].effective = .drop)) :
    exec .dockFrameTaken s = .next (drivePins (counted i rest s)) := by
  have entry := countHit_entry i s
  rw [exec_matched head free plain other found, ← dropHead_countHit head]
  cases state : s.tcl.routes[i].state with
  | disabled => rw [handleMatched_disabled (by rw [entry]; exact state)]; rfl
  | active =>
    obtain ⟨formed, drop⟩ := rests.resolve_left (by rw [state]; decide)
    rw [handleMatched_rests (by rw [entry]; exact state) (by rw [entry]; exact formed) (by rw [entry, drop]; decide),
      entry, drop, signal_drop]
    rfl

theorem exec_wakeOnly (active : s.tcl.routes[i].state = .active) (formed : malformed s.tcl.routes[i] f = false)
    (wakeOnly : s.tcl.routes[i].effective = .wakeOnly) :
    exec .dockFrameTaken s = .next (drivePins (dropHead (signal i .wakeOnly (countHit i s)))) := by
  have entry := countHit_entry i s
  rw [exec_matched head free plain other found, handleMatched_rests (by rw [entry]; exact active)
    (by rw [entry]; exact formed) (by rw [entry, wakeOnly]; decide), entry, wakeOnly]
  rfl

theorem exec_malformed (active : s.tcl.routes[i].state = .active) (bad : malformed s.tcl.routes[i] f = true) :
    exec .dockFrameTaken s = .next (drivePins (dropHead (countMalformed i (countHit i s)))) := by
  have entry := countHit_entry i s
  rw [exec_matched head free plain other found, handleMatched_malformed (by rw [entry]; exact active)
    (by rw [entry]; exact bad)]
  rfl

end

/-! ## WAKE_ONLY (R57) -/

section

variable {s : State} {i : Fin 64}

/-- An update of the SDU alone, with the head frame gone. -/
theorem dropHead_onSdu {f : Frame} {rest : List Frame} (head : s.dlc.buffer = f :: rest) (u : Sdu → Sdu) :
    dropHead ((countHit i s).onSdu u) = { counted i rest s with sdu := u s.sdu } := by
  rw [dropHead_eq (s := (countHit i s).onSdu u) head]
  rfl

theorem signal_resumes (resting : s.sdu.sleep ∈ [.drowsy, .sleepAdvised]) (active : s.tcl.routes[i].activity = true) :
    signal i .wakeOnly (countHit i s)
      = giveVerdict .resume .none s.sdu.sleep ((countHit i s).onSdu (Sdu.stirred s.params)) := by
  have sleep : s.sdu.sleep = .drowsy ∨ s.sdu.sleep = .sleepAdvised := by simpa using resting
  have awake : (countHit i s).sdu.sleep.asleep = false := by
    rcases sleep with e | e
    · exact congrArg SleepState.asleep e
    · exact congrArg SleepState.asleep e
  rw [signal_activity (by decide) awake (by rw [countHit_entry]; exact active)]
  exact activity_resumes (s := countHit i s) sleep

theorem stirred_resumed (p : Params) {u : Sdu} (resting : u.sleep ∈ [.drowsy, .sleepAdvised]) :
    u.stirred p = { u.restarted p with sleep := .active, advised := .none } := by
  rcases (by simpa using resting : u.sleep = .drowsy ∨ u.sleep = .sleepAdvised) with e | e <;> simp only [Sdu.stirred, e]

theorem signal_wakes (asleep : s.sdu.sleep.asleep = true) (wakes : maskHas s.tcl.routes[i].wakeMask s.posture = true) :
    signal i .wakeOnly (countHit i s) = wake .routeWake (countHit i s) := by
  rw [signal_asleep (s := countHit i s) (by decide) asleep, countHit_entry]
  exact if_pos wakes

end

theorem countHit_beyond (i : Fin 64) (s : State) : Beyond s (countHit i s) := ⟨rfl, rfl, rfl, rfl, rfl, rfl, rfl⟩

theorem Beyond.dropHead {s t : State} (b : Beyond s t) : Beyond s (dropHead t) :=
  ⟨b.time, b.params, b.link, b.pse, b.dock, b.choices, b.pending⟩

/-- What a signal keeps of the TCL and the DLC, the head frame gone. -/
theorem signalled {s t : State} {i : Fin 64} {f : Frame} {rest : List Frame} (head : s.dlc.buffer = f :: rest)
    (signals : ∀ {P : State → Prop}, Calm P → P (countHit i s) → P t) :
    (dropHead t).dlc.buffer = rest ∧ (dropHead t).tcl.routes[i].hits = s.tcl.routes[i].hit.hits := by
  have tcl : t.tcl = (countHit i s).tcl := signals (tcl_calm _) rfl
  have dlc : t.dlc = s.dlc := signals (dlc_calm s.dlc) rfl
  refine ⟨?_, ?_⟩
  · show t.dlc.buffer.tail = rest
    rw [dlc, head, List.tail_cons]
  · show t.tcl.routes[i].hits = _
    rw [tcl, countHit_entry]

/-- A RESUME by a frame: the idle timer restarts and the verdict is the first record placed (R142, R157). -/
theorem exec_wakeOnly_resumes {s : State} {f : Frame} {rest : List Frame} {i : Fin 64}
    (head : s.dlc.buffer = f :: rest) (resting : s.sdu.sleep ∈ [.drowsy, .sleepAdvised])
    (active : s.tcl.routes[i].activity = true) :
    let t := drivePins (dropHead (signal i .wakeOnly (countHit i s)))
    Beyond s t ∧ t.dlc.buffer = rest ∧ t.tcl.routes[i].hits = s.tcl.routes[i].hit.hits
      ∧ t.sdu = { s.sdu.restarted s.params with sleep := .active, advised := .none }
      ∧ firstPlaced (partRecord .verdict [natByte (holdCount s) <<< 4, 2, 0xFF, 0, s.sdu.sleep.code]) s t := by
  let resumed := (countHit i s).onSdu (Sdu.stirred s.params)
  have sdu : resumed.sdu = { s.sdu.restarted s.params with sleep := .active, advised := .none } :=
    stirred_resumed s.params resting
  have awake : resumed.sdu.sleep.asleep = false := by rw [sdu]; rfl
  have record : verdictRecord .resume .none s.sdu.sleep resumed
      = partRecord .verdict [natByte (holdCount s) <<< 4, 2, 0xFF, 0, s.sdu.sleep.code] := by
    rw [verdictRecord, holdCount_congr (s := s) (t := resumed) (stirred_holds s.params s.sdu), sdu]
    rfl
  have signals := signal_resumes resting active
  obtain ⟨buffer, hits⟩ := signalled head (i := i) (t := signal i .wakeOnly (countHit i s))
    (fun calm h => signal_keeps calm i .wakeOnly h)
  intro t
  refine ⟨((beyond_stable s).signal i .wakeOnly (countHit_beyond i s)).dropHead.pins, buffer, hits, ?_, fun room => ?_⟩
  · show (signal i .wakeOnly (countHit i s)).sdu = _
    rw [signals, ← sdu]
    exact place_sdu_awake _ awake
  · have placed := place_urgent (r := verdictRecord .resume .none s.sdu.sleep resumed) (s := resumed) room
    refine ⟨[], ?_⟩
    show (signal i .wakeOnly (countHit i s)).rqu.urgent = _
    rw [signals, List.append_nil, ← record]
    exact placed

/-! ## Malformed frames (R50, R51) -/

/-- An entry with one more error (R51). -/
abbrev RouteEntry.erred (e : RouteEntry) : RouteEntry := { e with errors := min 15 (e.errors + 1) }

theorem countMalformed_countHit_below {s : State} {i : Fin 64} {f : Frame} {rest : List Frame}
    (head : s.dlc.buffer = f :: rest) (below : s.tcl.routes[i].errorLimit = 0
      ∨ min 15 (s.tcl.routes[i].errors + 1) ≠ s.tcl.routes[i].errorLimit) :
    dropHead (countMalformed i (countHit i s)) = { s with
      dlc := { s.dlc with buffer := rest }
      tcl := { s.tcl with routes := s.tcl.routes.set i s.tcl.routes[i].hit.erred } } := by
  have entry := countHit_entry i s
  have written : (countHit i s).onRoute i RouteEntry.erred
      = { s with tcl := { s.tcl with routes := s.tcl.routes.set i s.tcl.routes[i].hit.erred } } := by
    simp only [State.onRoute, State.onTcl, entry]
    simp only [countHit, State.onRoute, State.onTcl, Vector.set_set]
  rw [countMalformed_below (by rw [entry]; exact below), written]
  exact dropHead_eq head

/-- What the statement says of an entry disabled at its error limit. -/
structure Disabled (s : State) (i : Fin 64) (t : State) : Prop where
  beyond : Beyond s t
  entry : entryFresh { s.tcl.routes[i].hit.erred with state := .disabled } i t
  fault : t.hlc.faults[3] = ⟨true, min 255 (s.hlc.faults[3].count + 1)⟩

/-- A malformed frame at the limit (R51). -/
theorem countMalformed_countHit_limit {s : State} {i : Fin 64} (free : s.tcl.stall = none)
    (valid : s.tcl.routes[i].valid = true) (limited : s.tcl.routes[i].errorLimit ≠ 0)
    (reached : min 15 (s.tcl.routes[i].errors + 1) = s.tcl.routes[i].errorLimit) :
    Disabled s i (countMalformed i (countHit i s)) := by
  have entry := countHit_entry i s
  have b := (beyond_stable s).countMalformed i (countHit_beyond i s)
  have written : ((countHit i s).onRoute i RouteEntry.erred).tcl.routes[i] = s.tcl.routes[i].hit.erred := by
    rw [onRoute_routes, if_pos rfl, entry]
  have fresh := disableEntry_entry (i := i) (s := (countHit i s).onRoute i RouteEntry.erred) free
    (by rw [written]; exact valid)
  have fault := disableEntry_fault (i := i) (s := (countHit i s).onRoute i RouteEntry.erred) free
  rw [written, ← countMalformed_limit (by rw [entry]; exact limited) (by rw [entry]; exact reached)] at fresh
  rw [← countMalformed_limit (by rw [entry]; exact limited) (by rw [entry]; exact reached)] at fault
  exact ⟨b, fresh, fault⟩

theorem Disabled.told {s t : State} {i : Fin 64} {f : Frame} {rest : List Frame} (h : Disabled s i t)
    (head : t.dlc.buffer = f :: rest) (reached : min 15 (s.tcl.routes[i].errors + 1) = s.tcl.routes[i].errorLimit) :
    let t := drivePins (dropHead t)
    BeyondCommit s t ∧ t.pse = s.pse ∧ t.dlc.buffer = rest ∧ t.tcl.routes[i].state = .disabled
      ∧ t.tcl.routes[i].effective = .drop ∧ t.tcl.routes[i].errors = s.tcl.routes[i].errorLimit
      ∧ t.tcl.routes[i].hits = s.tcl.routes[i].hit.hits
      ∧ t.hlc.faults[3] = ⟨true, min 255 (s.hlc.faults[3].count + 1)⟩ := by
  obtain ⟨b, fresh, fault⟩ := h
  have b := b.dropHead.pins
  have effective := entryFresh_disabled fresh rfl
  obtain ⟨⟨a, o, read⟩, -⟩ := fresh
  refine ⟨⟨b.time, b.params, b.link, congrArg Pse.senses b.pse, b.dock, b.choices, b.pending⟩, b.pse,
    congrArg List.tail head, (congrArg RouteEntry.state read :), effective, ?_,
    (congrArg RouteEntry.hits read :), fault⟩
  exact (congrArg RouteEntry.errors read :).trans reached

/-- The lookup finds valid entries only (R48). -/
theorem lookupRoute_valid {v : Vector RouteEntry 64} {source cls : BitVec 4} {i : Fin 64}
    (found : lookupRoute v source cls = some i) : v[i].valid = true := by
  unfold lookupRoute at found
  split at found
  · next exact =>
    cases found
    exact (keyed_iff.mp (findRoute_holds exact)).1
  · exact (keyed_iff.mp (findRoute_holds found)).1

/-- Settles O29: the hit alone, the signals of WAKE_ONLY one by one, and a malformed frame's error or disable. -/
theorem discardedFramesAreCounted : Obligations.DiscardedFramesAreCounted := by
  intro s f rest head free plain other
  refine ⟨fun none route => ?_, fun i found => ?_⟩
  · have drops : s.params.defaultForwards = false := by
      rw [Params.defaultForwards, route]
      decide
    rw [exec_dockFrameTaken head free plain, tap_other other, classify_default none, handleDefault, drops,
      ← dropHead_eq head]
    rfl
  · intro e
    refine ⟨exec_hitAlone head free plain other found, fun active formed wakeOnly => ?_, fun active bad =>
      ⟨fun below => ?_, fun limited reached => ?_⟩⟩
    · have runs := exec_wakeOnly head free plain other found active formed wakeOnly
      have entry := countHit_entry i s
      intro wakes restarted taken leaves
      have leaves_of {u : Sdu → Sdu} (told : signal i .wakeOnly (countHit i s) = (countHit i s).onSdu u) :
          leaves (u s.sdu) := by
        show exec .dockFrameTaken s = _
        rw [runs, told, dropHead_onSdu head]
        rfl
      refine ⟨fun quiet => ?_, fun activity sleep => ?_, fun activity resting => ?_, fun wake standby => ?_,
        fun wake waking => ⟨fun gathers => ?_, fun idle long => ?_⟩⟩
      · refine leaves_of (u := id) ?_
        cases asleep : s.sdu.sleep.asleep with
        | true =>
          rw [asleep, if_pos rfl] at quiet
          rw [signal_asleep (s := countHit i s) (by decide) asleep, entry]
          exact if_neg quiet
        | false =>
          rw [asleep, if_neg Bool.false_ne_true] at quiet
          exact signal_inactive asleep (by rw [entry]; exact quiet)
      · have stirred : Sdu.stirred s.params s.sdu = restarted := by
          rw [Sdu.stirred, sleep]
          rfl
        rw [← stirred]
        refine leaves_of ?_
        rw [signal_activity (s := countHit i s) (by decide) (congrArg SleepState.asleep sleep)
          (by rw [entry]; exact activity)]
        exact activity_active (s := countHit i s) sleep
      · exact ⟨_, runs, exec_wakeOnly_resumes head resting activity⟩
      · have asleep : s.sdu.sleep.asleep = true := congrArg SleepState.asleep standby
        obtain ⟨buffer, hits⟩ := signalled head (i := i) (t := signal i .wakeOnly (countHit i s))
          (fun calm h => signal_keeps calm i .wakeOnly h)
        refine ⟨_, runs, ((beyond_stable s).signal i .wakeOnly (countHit_beyond i s)).dropHead.pins, buffer, hits, ?_,
          fun long => ?_⟩
        · show (signal i .wakeOnly (countHit i s)).sdu.sleep = .waking
          rw [signal_wakes asleep wake]
          exact wake_waking .routeWake (s := countHit i s) asleep
        · show (signal i .wakeOnly (countHit i s)).sdu.gatherTimer = _
            ∧ (signal i .wakeOnly (countHit i s)).sdu.wakeList.head? = _
          rw [signal_wakes asleep wake]
          exact (wake_gathers (k := .routeWake) (s := countHit i s) standby long).2
      · refine leaves_of (u := fun u => { u with
          wakeList := if .routeWake ∈ u.wakeList then u.wakeList else u.wakeList ++ [.routeWake] }) ?_
        rw [signal_wakes (congrArg SleepState.asleep waking) wake]
        exact wake_joins (s := countHit i s) waking gathers
      · refine leaves_of (u := fun u => { u with
          wakeList := [.routeWake], gatherTimer := some s.params.wakeGather.toNat }) ?_
        rw [signal_wakes (congrArg SleepState.asleep waking) wake]
        exact wake_starts (s := countHit i s) waking idle long
    · rw [exec_malformed head free plain other found active bad, countMalformed_countHit_below head below]
    · have disabled := countMalformed_countHit_limit free (lookupRoute_valid found) limited reached
      have buffer := (bufferIs_poised (f :: rest)).toStable.countMalformed i (s := countHit i s) ⟨free, head⟩
      exact ⟨_, exec_malformed head free plain other found active bad, disabled.told buffer.2 reached⟩

end Sys2Proof.Machine
end

section
/-! PROOFS. A forwarded URGENT frame (O27, its first clause), and the re-enable of a source's DISABLED entries where the lane
has room for its records (R52, R53). -/

namespace Sys2Proof.Machine

/-! ## An URGENT frame that forwards (R58 to R60) -/

section

variable {i : Fin 64} {f : Frame} {s : State}

theorem placeFrame_urgent_placed (urgent : s.tcl.routes[i].lane = .urgent) (unpaired : s.tcl.routes[i].paired = false)
    (room : s.rqu.urgent.length < 32 ∧ forwardedCount s.rqu.urgent < 24) :
    placeFrame true i f s = dropHead (enterUrgent true (fwdRecord .urgent f) s) := by
  have forwards : forwardRoom s = true := Bool.and_eq_true _ _ |>.mpr ⟨decide_eq_true room.1, decide_eq_true room.2⟩
  simp only [placeFrame, urgent]
  rw [if_pos forwards]
  exact poolEffect_unpaired (s := dropHead (enterUrgent true (fwdRecord .urgent f) s)) unpaired f true

theorem placeFrame_urgent_stalls (urgent : s.tcl.routes[i].lane = .urgent)
    (full : ¬ (s.rqu.urgent.length < 32 ∧ forwardedCount s.rqu.urgent < 24)) :
    placeFrame true i f s = s.onTcl fun t => { t with stall := some ⟨i, s.params.stallLimit.toNat⟩ } := by
  have refuses : ¬ forwardRoom s = true := fun room => full <| by
    have both := Bool.and_eq_true _ _ |>.mp room
    exact ⟨of_decide_eq_true both.1, of_decide_eq_true both.2⟩
  simp only [placeFrame, urgent]
  rw [if_neg refuses, if_pos trivial]

end

/-- The signals of a forwarding entry, awake: its activity, where it is a source of activity (R57, R143). -/
theorem signal_forward_awake {s : State} {i : Fin 64} (awake : s.sdu.sleep.asleep = false)
    (source : s.tcl.routes[i].activity = true → s.sdu.sleep = .active) :
    signal i .forward (countHit i s) = (countHit i s).onSdu fun u =>
      if s.tcl.routes[i].activity then u.restarted s.params else u := by
  have entry := countHit_entry i s
  cases activity : s.tcl.routes[i].activity with
  | false => exact signal_inactive (s := countHit i s) awake (by rw [entry]; exact activity)
  | true =>
    have active := source activity
    rw [signal_activity (s := countHit i s) (by decide) awake (by rw [entry]; exact activity),
      activity_active (s := countHit i s) active]
    exact onSdu_congr (s := countHit i s) (by
      show Sdu.stirred s.params s.sdu = _
      rw [Sdu.stirred, active, if_pos rfl]
      rfl)

/-! ## The re-enable with room for its records (R52, R53) -/

/-- An entry re-enabled with its action as R54 gives it. -/
abbrev RouteEntry.back (s : State) (e : RouteEntry) : RouteEntry :=
  { e.enabled with effective := effectiveAction s e.enabled }

theorem onRoute_const {i : Fin 64} {s : State} {g : RouteEntry → RouteEntry} :
    s.onRoute i g = s.onRoute i fun _ => g s.tcl.routes[i] := rfl

/-- One entry's re-enable: its record enters, and its action is brought up to date. -/
theorem reenableEntry_room {i : Fin 64} {s : State} (free : s.tcl.stall = none) (valid : s.tcl.routes[i].valid = true)
    (drop : s.tcl.routes[i].effective = .drop) (room : hasRoom 1 s) :
    reenableEntry i s = enterUrgent false (enabledRecord s i) (s.onRoute i (RouteEntry.back s)) := by
  let written := s.onRoute i RouteEntry.enabled
  have entry : written.tcl.routes[i] = s.tcl.routes[i].enabled := by
    simp only [written, onRoute_routes, if_true]
  have record : routeRecord .enabled i s.tcl.routes[i].errors written.tcl.routes[i] = enabledRecord s i := by
    rw [entry]
    rfl
  have told : place (enabledRecord s i) written = enterUrgent false (enabledRecord s i) written :=
    if_pos (decide_eq_true (Nat.lt_of_succ_le room))
  let entered := enterUrgent false (enabledRecord s i) written
  have recomputed : recomputeEntry place .disabled i entered = enterUrgent false (enabledRecord s i)
      (s.onRoute i (RouteEntry.back s)) := by
    have action : effectiveAction entered entered.tcl.routes[i] = effectiveAction s s.tcl.routes[i].enabled := by
      show effectiveAction s written.tcl.routes[i] = _
      rw [entry]
    have read : entered.tcl.routes[i] = s.tcl.routes[i].enabled := entry
    have rests : (!s.tcl.routes[i].valid
          || decide (effectiveAction s s.tcl.routes[i].enabled = s.tcl.routes[i].effective)) = true
        ↔ effectiveAction s s.tcl.routes[i].enabled = s.tcl.routes[i].effective := by
      rw [valid, Bool.not_true, Bool.false_or, decide_eq_true_eq]
    have unheld : ¬ s.tcl.routes[i].effective = .forward := by rw [drop]; decide
    simp only [recomputeEntry]
    rw [action, read]
    by_cases same : effectiveAction s s.tcl.routes[i].enabled = s.tcl.routes[i].effective
    · have back : RouteEntry.back s s.tcl.routes[i] = s.tcl.routes[i].enabled := by
        rw [RouteEntry.back, same]
      rw [if_pos (rests.mpr same), onRoute_const (g := RouteEntry.back s), back]
      rfl
    · rw [if_neg (fun h => same (rests.mp h)), if_neg unheld]
      simp only [entered, written, enterUrgent, State.onRqu, State.onRoute, State.onTcl, Vector.set_set]
      simp
  show (let s2 := place (routeRecord .enabled i s.tcl.routes[i].errors written.tcl.routes[i]) written
    retryIfChanged (stalledAction s2) (recomputeEntry place .disabled i s2)) = _
  simp only [record, told]
  rw [recomputed]
  exact retryIfChanged_unstalled free

/-- The route table with the entries of a list that await their re-enable brought back. -/
def backAmong (named : BitVec 4 → Bool) (l : List (Fin 64)) (s : State) : Vector RouteEntry 64 :=
  Vector.ofFn fun i =>
    if i ∈ l ∧ s.tcl.routes[i].awaits named = true then s.tcl.routes[i].back s else s.tcl.routes[i]

theorem backAmong_getElem (named l s) (i : Fin 64) : (backAmong named l s)[i]
    = if i ∈ l ∧ s.tcl.routes[i].awaits named = true then s.tcl.routes[i].back s else s.tcl.routes[i] := by
  simp [backAmong]

theorem backAmong_nil (named s) : backAmong named [] s = s.tcl.routes :=
  routes_ext fun i => by rw [backAmong_getElem, if_neg (by simp)]

theorem backAmong_rests {named : BitVec 4 → Bool} {s : State} {i : Fin 64}
    (rests : s.tcl.routes[i].awaits named = false) (l) : backAmong named (i :: l) s = backAmong named l s := by
  refine routes_ext fun j => ?_
  rw [backAmong_getElem, backAmong_getElem]
  by_cases here : j = i
  · rw [here, rests]
    simp
  · simp [here]

/-- An entry brought back first, the others behind it. -/
theorem backAmong_awaits {named : BitVec 4 → Bool} {s : State} {i : Fin 64} {l : List (Fin 64)} (new : i ∉ l)
    (awaits : s.tcl.routes[i].awaits named = true) (r : Record) :
    backAmong named l (enterUrgent false r (s.onRoute i (RouteEntry.back s))) = backAmong named (i :: l) s := by
  have read (j : Fin 64) : (enterUrgent false r (s.onRoute i (RouteEntry.back s))).tcl.routes[j]
      = if i = j then s.tcl.routes[j].back s else s.tcl.routes[j] := onRoute_routes i j _ s
  refine routes_ext fun j => ?_
  rw [backAmong_getElem, backAmong_getElem, read]
  by_cases here : i = j
  · subst here
    rw [if_pos rfl, if_neg (fun h => new h.1), if_pos ⟨List.mem_cons_self .., awaits⟩]
  · rw [if_neg here]
    simp only [List.mem_cons, Ne.symm here, false_or]
    rfl

/-- With no stall, the entries at DROP and room for the records, the re-enable brings the entries back and places their
records, and changes nothing else. -/
theorem fold_reenable_room (named : BitVec 4 → Bool) : ∀ (l : List (Fin 64)) (s : State), l.Nodup →
    s.tcl.stall = none →
    (∀ i ∈ l, s.tcl.routes[i].awaits named = true → s.tcl.routes[i].effective = .drop) →
    hasRoom (awaiting named l s).length s →
    l.foldl (reenableStep named) s = lodge ((awaiting named l s).map (enabledRecord s))
      (s.onTcl fun t => { t with routes := backAmong named l s })
  | [], s, _, _, _, _ => by simp [State.onTcl, lodge, backAmong_nil, stampAll]
  | i :: l, s, nodup, free, drop, room => by
    obtain ⟨new, nodup⟩ := List.nodup_cons.mp nodup
    have dropRest := fun j mem => drop j (List.mem_cons_of_mem i mem)
    rw [List.foldl_cons]
    cases awaits : s.tcl.routes[i].awaits named
    · have same : awaiting named (i :: l) s = awaiting named l s :=
        List.filter_cons_of_neg (by rw [awaits]; exact Bool.false_ne_true)
      rw [same] at room ⊢
      rw [reenableStep, awaits, if_neg Bool.false_ne_true, fold_reenable_room named l s nodup free dropRest room,
        backAmong_rests awaits]
    · let next := enterUrgent false (enabledRecord s i) (s.onRoute i (RouteEntry.back s))
      have other : ∀ j ∈ l, next.tcl.routes[j] = s.tcl.routes[j] := fun j mem =>
        (onRoute_routes i j _ s).trans (if_neg fun (same : i = j) => new (same ▸ mem))
      have more : awaiting named (i :: l) s = i :: awaiting named l s := List.filter_cons_of_pos awaits
      have same : awaiting named l next = awaiting named l s :=
        List.filter_congr fun j mem => by rw [other j mem]
      have records : (awaiting named l s).map (enabledRecord next) = (awaiting named l s).map (enabledRecord s) :=
        List.map_congr_left fun j mem => by rw [enabledRecord, other j (List.mem_of_mem_filter mem)]
      have valid : s.tcl.routes[i].valid = true := by
        rw [RouteEntry.awaits, Bool.and_eq_true, Bool.and_eq_true] at awaits
        exact awaits.1.1
      rw [more, hasRoom, List.length_cons] at room
      have roomNext : hasRoom (awaiting named l next).length next := by
        rw [same, hasRoom]
        simp only [next, enterUrgent, State.onRqu_rqu, List.length_append, List.length_singleton]
        show s.rqu.urgent.length + 1 + _ ≤ 32
        omega
      rw [reenableStep, awaits, if_pos rfl, reenableEntry_room free valid (drop i (List.mem_cons_self ..) awaits)
        (by rw [hasRoom]; omega), fold_reenable_room named l next nodup free
        (fun j mem a => by rw [other j mem] at a ⊢; exact dropRest j mem a) roomNext, same, records, more, List.map_cons,
        backAmong_awaits new awaits, enterUrgent_onTcl, lodge_enter]
      rfl

theorem reenable_room {named : BitVec 4 → Bool} {s : State} (free : s.tcl.stall = none)
    (drop : ∀ i : Fin 64, s.tcl.routes[i].awaits named = true → s.tcl.routes[i].effective = .drop)
    (room : hasRoom (awaiting named (List.finRange 64) s).length s) :
    reenable named s = lodge ((awaiting named (List.finRange 64) s).map (enabledRecord s))
      (s.onTcl fun t => { t with routes := backAmong named (List.finRange 64) s }) := by
  rw [reenable_eq]
  exact fold_reenable_room named _ s (List.nodup_finRange 64) free (fun i _ => drop i) room

end Sys2Proof.Machine
end

section
/-! PROOFS. What the handling of a dock frame reads of the Dock Receive Buffer: nothing, while no frame is stalled, until the
frame leaves it. The operations commute with filling the buffer anew, those that look at the stall only while there is
none. -/

namespace Sys2Proof.Machine

/-! ## Operations that never see the buffer -/

/-- The state with the Dock Receive Buffer filled anew. -/
abbrev refilled (b : List Frame) (s : State) : State := s.onDlc fun d => { d with buffer := b }

/-- The operation commutes with filling the buffer anew. -/
abbrev BufferBlind (f : State → State) : Prop := ∀ b s, refilled b (f s) = f (refilled b s)

/-- A placer that commutes with filling the buffer anew. -/
abbrev PlacerBlind (pl : Placer) : Prop := ∀ r, BufferBlind (pl r)

theorem ite_refilled {c : Prop} [Decidable c] {b : List Frame} {x y x' y' : State} (hx : refilled b x = x')
    (hy : refilled b y = y') : refilled b (if c then x else y) = if c then x' else y' := by
  split
  · exact hx
  · exact hy

section placing

variable {pl : Placer} (hp : PlacerBlind pl)

theorem loseUrgentWith_blind {g : State → State} (hg : BufferBlind g) : BufferBlind (loseUrgentWith g) := fun b s =>
  ite_refilled (hg b (countUrgentLoss s)) rfl

theorem placeWith_blind {g : State → State} (hg : BufferBlind g) : PlacerBlind (placeWith g) := fun _ b s =>
  ite_refilled rfl (loseUrgentWith_blind hg b s)

theorem placeSilent_blind : PlacerBlind placeSilent := fun _ _ _ => ite_refilled rfl rfl

theorem placeQuiet_blind : PlacerBlind placeQuiet := placeWith_blind fun _ _ => rfl

include hp

theorem raiseWith_blind {w : State → State} (hw : BufferBlind w) (k) : BufferBlind (raiseWith pl w k) := by
  intro b s
  refine ite_refilled rfl ?_
  have placed := hp (faultRecord k (noteFault k s)) b (noteFault k s)
  simp only [State.onDlc_params]
  cases s.params.severity k with
  | log => rfl
  | notify => exact placed
  | wake => exact (hw b _).trans (congrArg w placed)

theorem beginSession_blind (o) : BufferBlind (beginSession pl o) := fun b _ => hp _ b _

theorem penAllowance_blind : BufferBlind (penAllowance pl) := by
  intro b s
  unfold penAllowance
  simp only [State.onDlc_pcc]
  cases s.pcc.state with
  | charging => exact ite_refilled rfl (hp _ b _)
  | paused => exact ite_refilled rfl (ite_refilled (hp _ b _) (beginSession_blind hp _ b s))
  | full =>
    cases s.pcc.level with
    | none => rfl
    | some l => exact ite_refilled (beginSession_blind hp _ b s) rfl
  | off => rfl
  | searching => rfl
  | detected => rfl
  | fault => rfl

theorem gatherAtOnce_blind : BufferBlind (gatherAtOnce pl) := fun b _ => ite_refilled (hp _ b _) rfl

theorem wakeWith_blind (k) : BufferBlind (wakeWith pl k) := by
  intro b s
  unfold wakeWith
  simp only [State.onDlc_sdu, sleepHandOn_waking]
  cases s.sdu.sleep with
  | standby =>
    let woken := gatherStart k (s.onSdu fun u => { u with sleep := .waking })
    exact ite_refilled
      ((penAllowance_blind hp b _).trans (congrArg (penAllowance pl) (gatherAtOnce_blind hp b woken)))
      ((gatherAtOnce_blind hp b _).trans (congrArg (gatherAtOnce pl) (penAllowance_blind hp b woken)))
  | waking => exact ite_refilled (ite_refilled rfl rfl) (gatherAtOnce_blind hp b _)
  | active => rfl
  | drowsy => rfl
  | sleepAdvised => rfl

end placing

theorem raiseUrgentLoss_blind : BufferBlind raiseUrgentLoss :=
  raiseWith_blind placeSilent_blind (wakeWith_blind placeQuiet_blind _) _

theorem place_blind : PlacerBlind place := placeWith_blind raiseUrgentLoss_blind

theorem wake_blind (k) : BufferBlind (wake k) := wakeWith_blind place_blind k

theorem raiseFault_blind (k) : BufferBlind (raiseFault k) := raiseWith_blind place_blind (wake_blind _) k

theorem activity_blind : BufferBlind activity := by
  intro b s
  cases sleep : s.sdu.sleep with
  | active =>
    rw [activity_active sleep, activity_active (s := refilled b s) sleep]
    rfl
  | drowsy =>
    rw [activity_resumes (.inl sleep), activity_resumes (s := refilled b s) (.inl sleep)]
    exact place_blind _ b _
  | sleepAdvised =>
    rw [activity_resumes (.inr sleep), activity_resumes (s := refilled b s) (.inr sleep)]
    exact place_blind _ b _
  | standby =>
    have asleep := congrArg SleepState.asleep sleep
    rw [activity_asleep asleep, activity_asleep (s := refilled b s) asleep]
  | waking =>
    have asleep := congrArg SleepState.asleep sleep
    rw [activity_asleep asleep, activity_asleep (s := refilled b s) asleep]

theorem adviseLidClosed_blind {b : List Frame} {s : State} (awake : s.sdu.sleep.asleep = false) :
    refilled b (adviseSleep .lidClosed (idleRestart s)) = adviseSleep .lidClosed (idleRestart (refilled b s)) := by
  rw [adviseSleep_eq (s := idleRestart (refilled b s)) _ awake, adviseSleep_eq (s := idleRestart s) _ awake]
  exact place_blind _ b _

theorem lidClosed_blind : BufferBlind lidClosed := by
  intro b s
  unfold lidClosed
  simp only [State.onDlc_sdu]
  cases sleep : s.sdu.sleep with
  | active => exact ite_refilled (activity_blind b s) (adviseLidClosed_blind (congrArg SleepState.asleep sleep))
  | drowsy => exact ite_refilled (activity_blind b s) (adviseLidClosed_blind (congrArg SleepState.asleep sleep))
  | sleepAdvised => exact ite_refilled (activity_blind b s) (place_blind _ b _)
  | standby => rfl
  | waking => rfl

theorem sleepOnCommit_blind (previous new) : BufferBlind (sleepOnCommit previous new) := by
  intro b s
  have moved : refilled b (if new = .closed then lidClosed s else activity s)
      = if new = .closed then lidClosed (refilled b s) else activity (refilled b s) :=
    ite_refilled (lidClosed_blind b s) (activity_blind b s)
  simp only [sleepOnCommit, ← moved]
  exact ite_refilled (wake_blind _ b _) rfl

theorem signal_blind (i a) : BufferBlind (signal i a) := by
  intro b s
  cases live : s.tcl.routes[i].activity && (decide (a = .forward) || decide (a = .wakeOnly)) with
  | true =>
    simp only [signal, State.onDlc_tcl, live, if_true, ← activity_blind]
    exact ite_refilled (wake_blind _ b _) rfl
  | false =>
    simp only [signal, State.onDlc_tcl, live, Bool.false_eq_true, if_false]
    exact ite_refilled (wake_blind _ b _) rfl

/-! ## Release synthesis and the entries' actions -/

theorem releaseSlots_blind (e c) : ∀ l, BufferBlind (releaseSlots place e c l)
  | [], _, _ => rfl
  | x :: rest, b, s => by
    rw [releaseSlots, releaseSlots, ← place_blind]
    exact releaseSlots_blind e c rest b _

theorem synthesize_blind (c i) : BufferBlind (synthesize place c i) := by
  intro b s
  have released := releaseSlots_blind s.tcl.routes[i] c (slotsOf s.tcl.pool i) b s
  simp only [synthesize, State.onDlc_tcl, ← released]
  refine ite_refilled ?_ rfl
  rw [← place_blind]
  rfl

theorem recomputeEntry_blind (c i) : BufferBlind (recomputeEntry place c i) := fun b _ =>
  ite_refilled rfl (ite_refilled (synthesize_blind _ i b _) rfl)

theorem poolEffect_blind (i f placed) : BufferBlind (poolEffect i f placed) := by
  intro b s
  unfold poolEffect
  refine ite_refilled ?_ rfl
  simp only [State.onDlc_tcl]
  split
  · exact ite_refilled rfl (ite_refilled rfl rfl)
  · exact ite_refilled (ite_refilled rfl rfl) rfl
  · rfl

end Sys2Proof.Machine
end

section
/-! PROOFS. The upper part of a dock frame's path, through a tap's commit and the classifier: it commutes with filling the
buffer anew while no frame is stalled, up to what the frame's end does to the buffer. -/

namespace Sys2Proof.Machine

/-! ## Recomputation without a stall -/

/-- No frame is stalled. -/
abbrev unstalled (s : State) : Prop := s.tcl.stall = none

theorem unstalled_poised : Poised unstalled :=
  have stable : Stable unstalled :=
    { enter := fun _ _ _ _ h => h
      lose := fun _ h => h
      rqu := fun _ _ _ h => h
      sdu := fun _ _ h => h
      tcl := fun _ hf s h => (hf.stall s.tcl).trans h
      pcc := fun _ _ h => h
      fault := fun _ _ _ h => h
      unstall := fun _ _ _ => rfl
      notice := fun _ _ h => h }
  stable.poised fun _ _ h => h

theorem foldl_blind {α : Type} {f : State → α → State} (hf : ∀ a, BufferBlind (f · a)) :
    ∀ l : List α, BufferBlind (l.foldl f ·)
  | [], _, _ => rfl
  | a :: l, b, s => (foldl_blind hf l b (f s a)).trans (congrArg (l.foldl f ·) (hf a b s))

theorem recompute_unstalled (c : SynthCause) {s : State} (free : unstalled s) :
    recompute c s = (List.finRange 64).foldl (fun s i => recomputeEntry place c i s) s := by
  have stable := unstalled_poised.toStable
  have kept (l : List (Fin 64)) : unstalled (l.foldl (fun s i => recomputeEntry place c i s) s) :=
    Stable.fold (fun i => stable.recomputeEntry stable.place c i) l free
  rw [recompute, recomputeWith, retryIfChanged_unstalled (kept _)]

theorem recompute_blind (c : SynthCause) (b : List Frame) {s : State} (free : unstalled s) :
    refilled b (recompute c s) = recompute c (refilled b s) := by
  rw [recompute_unstalled c free, recompute_unstalled c (s := refilled b s) free]
  exact foldl_blind (fun i => recomputeEntry_blind c i) _ b s

/-! ## A commit, and the tap -/

/-- Three readers in any order. -/
theorem run_blind {a b c : State → State} {l : List Frame} (ha : ∀ s, unstalled s → refilled l (a s) = a (refilled l s))
    (hb : ∀ s, unstalled s → refilled l (b s) = b (refilled l s))
    (hc : ∀ s, unstalled s → refilled l (c s) = c (refilled l s)) (ka : Keeps unstalled a) (kb : Keeps unstalled b)
    (kc : Keeps unstalled c) (o : ReaderOrder) {s : State} (free : unstalled s) :
    refilled l (o.run a b c s) = o.run a b c (refilled l s) := by
  cases o with
  | abc => exact (hc _ (kb (ka free))).trans (congrArg c ((hb _ (ka free)).trans (congrArg b (ha _ free))))
  | acb => exact (hb _ (kc (ka free))).trans (congrArg b ((hc _ (ka free)).trans (congrArg c (ha _ free))))
  | bac => exact (hc _ (ka (kb free))).trans (congrArg c ((ha _ (kb free)).trans (congrArg a (hb _ free))))
  | bca => exact (ha _ (kc (kb free))).trans (congrArg a ((hc _ (kb free)).trans (congrArg c (hb _ free))))
  | cab => exact (hb _ (ka (kc free))).trans (congrArg b ((ha _ (kc free)).trans (congrArg a (hc _ free))))
  | cba => exact (ha _ (kb (kc free))).trans (congrArg a ((hb _ (kc free)).trans (congrArg b (hc _ free))))

theorem recheckBlocked_blind : BufferBlind recheckBlocked := by
  intro b s
  unfold recheckBlocked
  simp only [State.onDlc_pse]
  split
  · exact ite_refilled rfl rfl
  · rfl
  · rfl

/-- What a commit hands to the TCL, the PCC and the SDU, in the part's order (R35). -/
def handCommit (previous p : Posture) (s : State) : State :=
  s.choices.commit.run (recompute .posture) (penAllowance place) (sleepOnCommit previous p)
    (place (postureRecord s.pse.record) s)

theorem handCommit_blind (previous p) (b : List Frame) {s : State} (free : unstalled s) :
    refilled b (handCommit previous p s) = handCommit previous p (refilled b s) := by
  have stable := unstalled_poised.toStable
  have placed : unstalled (place (postureRecord s.pse.record) s) := stable.place _ free
  have handed := run_blind (a := recompute .posture) (b := penAllowance place) (c := sleepOnCommit previous p) (l := b)
    (fun t ht => recompute_blind _ b ht) (fun t _ => penAllowance_blind place_blind b t)
    (fun t _ => sleepOnCommit_blind _ _ b t) (stable.recompute _) (stable.penAllowance stable.place)
    (stable.sleepOnCommit _ _) s.choices.commit placed
  rw [place_blind] at handed
  exact handed

theorem commitPosture_hands (p cause row) (s : State) : commitPosture p cause row s
    = recheckBlocked (handCommit s.posture p (writeCommit p cause row s)) := rfl

theorem commitPosture_blind (p cause row) (b : List Frame) {s : State} (free : unstalled s) :
    refilled b (commitPosture p cause row s) = commitPosture p cause row (refilled b s) := by
  have handed := handCommit_blind s.posture p b (s := writeCommit p cause row s) free
  rw [commitPosture_hands, commitPosture_hands, recheckBlocked_blind, handed]
  rfl

theorem firstMatch_refilled (b : List Frame) (s : State) : firstMatch (refilled b s) = firstMatch s := rfl

theorem settleRow_blind (i : Fin 12) (b : List Frame) {s : State} (free : unstalled s) :
    refilled b (settleRow i s) = settleRow i (refilled b s) :=
  ite_refilled rfl (ite_refilled rfl (ite_refilled (commitPosture_blind _ _ _ b (s := cancelSettle s) free) rfl))

theorem evaluate_blind (b : List Frame) {s : State} (free : unstalled s) :
    refilled b (evaluate s) = evaluate (refilled b s) := by
  unfold evaluate
  refine ite_refilled rfl ?_
  rw [firstMatch_refilled]
  cases firstMatch s with
  | none => rfl
  | some i => exact settleRow_blind i b free

theorem setFace_blind (f : Face) (b : List Frame) {s : State} (free : unstalled s) :
    refilled b (setFace f s) = setFace f (refilled b s) :=
  ite_refilled rfl (evaluate_blind b (s := s.onPse _) free)

theorem tap_blind (f : Frame) (b : List Frame) {s : State} (free : unstalled s) :
    refilled b (tap f s) = tap f (refilled b s) := by
  unfold tap
  refine ite_refilled ?_ rfl
  cases baseAxes f.payload with
  | none => rfl
  | some v => exact setFace_blind _ b (s := s.onPse _) free

/-! ## The classifier -/

/-- The ROUTE record of a disable, from the state that the recomputation leaves (R53). -/
abbrev disabledRecord (i : Fin 64) (t : State) : Record :=
  routeRecord .disabled i t.tcl.routes[i].errors t.tcl.routes[i]

theorem disableEntry_recomputed {i : Fin 64} {s t : State} (free : unstalled s)
    (recomputed : recomputeEntry place .disabled i (s.onRoute i fun e => { e with state := .disabled }) = t) :
    disableEntry i s = raiseFault .routeDisabled (place (disabledRecord i t) t) := by
  have still := recomputeEntry_stall .disabled i (s := s.onRoute i fun e => { e with state := .disabled }) free
  have same : retryIfChanged (stalledAction (s.onRoute i fun e => { e with state := .disabled }))
      (recomputeEntry place .disabled i (s.onRoute i fun e => { e with state := .disabled })) = t :=
    (retryIfChanged_unstalled still).trans recomputed
  exact congrArg (fun t => raiseFault .routeDisabled (place (disabledRecord i t) t)) same

theorem disableEntry_blind (i) (b : List Frame) {s : State} (free : unstalled s) :
    refilled b (disableEntry i s) = disableEntry i (refilled b s) := by
  have recomputed := recomputeEntry_blind .disabled i b (s.onRoute i fun e => { e with state := .disabled })
  rw [disableEntry_recomputed free rfl, disableEntry_recomputed (s := refilled b s) free recomputed.symm]
  exact (raiseFault_blind _ b _).trans (congrArg (raiseFault .routeDisabled) (place_blind _ b _))

theorem countMalformed_blind (i) (b : List Frame) {s : State} (free : unstalled s) :
    refilled b (countMalformed i s) = countMalformed i (refilled b s) :=
  ite_refilled (disableEntry_blind i b (s := s.onRoute i _) free) rfl

/-! ## Placement of a frame's record -/

/-- Placements in the BULK lane commute in their state, and place alike. -/
theorem ite_refilled_pair {c : Prop} [Decidable c] {b : List Frame} {x y x' y' : State × Bool}
    (hx : (refilled b x.1, x.2) = x') (hy : (refilled b y.1, y.2) = y') :
    (refilled b (if c then x else y).1, (if c then x else y).2) = if c then x' else y' := by
  split
  · exact hx
  · exact hy

theorem placeDirect_blind (r : Record) (b : List Frame) (s : State) :
    (refilled b (placeDirect r s).1, (placeDirect r s).2) = placeDirect r (refilled b s) :=
  ite_refilled_pair rfl (ite_refilled_pair rfl rfl)

theorem placeCoalesced_blind (r : Record) (b : List Frame) (s : State) :
    (refilled b (placeCoalesced r s).1, (placeCoalesced r s).2) = placeCoalesced r (refilled b s) := by
  refine ite_refilled_pair rfl (ite_refilled_pair rfl (Prod.ext (ite_refilled rfl rfl) rfl))

/-- Two states that differ in the buffer at most. -/
def Alike (s t : State) : Prop := ∃ b, t = refilled b s

theorem Alike.dropHead {s t : State} (h : Alike s t) : Alike (dropHead s) (dropHead t) := by
  obtain ⟨b, rfl⟩ := h
  exact ⟨b.tail, rfl⟩

theorem Alike.poolEffect {s t : State} (h : Alike s t) (i f placed) :
    Alike (poolEffect i f placed s) (poolEffect i f placed t) := by
  obtain ⟨b, rfl⟩ := h
  exact ⟨b, (poolEffect_blind i f placed b s).symm⟩

theorem ite_alike {c : Prop} [Decidable c] {x y x' y' : State} (hx : Alike x x') (hy : Alike y y') :
    Alike (if c then x else y) (if c then x' else y') := by
  split
  · exact hx
  · exact hy

theorem alike_refilled (b : List Frame) (s : State) : Alike s (refilled b s) := ⟨b, rfl⟩

theorem placeFrame_alike (i f b) (s : State) : Alike (placeFrame true i f s) (placeFrame true i f (refilled b s)) := by
  have bulk (p q : State × Bool) (same : (refilled b p.1, p.2) = q) :
      Alike (endFrame true (poolEffect i f p.2 p.1)) (endFrame true (poolEffect i f q.2 q.1)) := by
    rw [← same]
    exact ((alike_refilled b p.1).poolEffect i f p.2).dropHead
  unfold placeFrame
  simp only [State.onDlc_tcl]
  cases s.tcl.routes[i].lane with
  | bulk => exact bulk _ _ (ite_refilled_pair (placeCoalesced_blind _ b s) (placeDirect_blind _ b s))
  | urgent =>
    have room : forwardRoom (refilled b s) = forwardRoom s := rfl
    simp only [room]
    split
    · exact Alike.poolEffect (s := dropHead _) (t := dropHead _)
        (Alike.dropHead ⟨b, rfl⟩) i f true
    · exact ⟨b, rfl⟩

theorem handleMatched_alike (i f b) {s : State} (free : unstalled s) :
    Alike (handleMatched true i f s) (handleMatched true i f (refilled b s)) := by
  have signalled := signal_blind i s.tcl.routes[i].effective b s
  have forwards : poolForwards i f (refilled b s) = poolForwards i f s := rfl
  simp only [handleMatched, State.onDlc_tcl, forwards, ← signalled, ← countMalformed_blind i b free]
  exact ite_alike (alike_refilled b s).dropHead (ite_alike (alike_refilled b _).dropHead
    (ite_alike (placeFrame_alike i f b _) (alike_refilled b _).dropHead))

theorem handleDefault_alike (f b) (s : State) :
    Alike (handleDefault true f s) (handleDefault true f (refilled b s)) := by
  have direct := congrArg Prod.fst (placeDirect_blind (fwdRecord .bulk f) b s)
  simp only [handleDefault, State.onDlc_params, State.onDlc_sdu, State.onDlc_dlc, ← direct]
  exact ite_alike (alike_refilled b _).dropHead (alike_refilled b s).dropHead

/-- A dock frame's path from two states that differ in the buffer at most. -/
theorem taken_alike (f b) {s : State} (free : unstalled s) :
    Alike (classify true f (tap f s)) (classify true f (tap f (refilled b s))) := by
  have tapped := tap_poised unstalled_poised (fun _ _ h => h) f free
  rw [← tap_blind f b free]
  simp only [classify, State.onDlc_tcl]
  split
  · next i _ =>
    exact handleMatched_alike i f b (s := countHit i (tap f s)) tapped
  · exact handleDefault_alike f b _

end Sys2Proof.Machine
end

section
/-! PROOFS. O27: the forwarded frame in closed form, and a frame with RESTART as the frame without the flag behind the
re-enable. -/

namespace Sys2Proof.Machine

/-! ## The frame without its flag -/

/-- The classifier and the tap read everything of a frame but its RESTART flag. -/
theorem taken_flag (f : Frame) (b : Bool) (s : State) :
    classify true { f with restart := b } (tap { f with restart := b } s) = classify true f (tap f s) := rfl

theorem exec_restart {s : State} {f : Frame} {rest : List Frame} (head : s.dlc.buffer = f :: rest)
    (free : s.tcl.stall = none) (flagged : f.restart = true) :
    exec .dockFrameTaken s = .next (drivePins (classify true f (tap f (reenable (· = f.source) s)))) := by
  show done (takeHead s) = _
  simp only [takeHead, head, free, takeDock, flagged, if_true]
  rfl

/-- The taking of a head frame takes it from the buffer or stalls it there. -/
theorem taken_head (f : Frame) (rest : List Frame) {s : State} (head : s.dlc.buffer = f :: rest) (free : unstalled s) :
    headTaken f rest (classify true f (tap f s)) :=
  (head_leads f rest).classify (fun _ _ h => h) f (tap_poised (bufferIs_poised _) (fun _ _ h => h) f ⟨free, head⟩)

/-- Two frames that differ in the flag alone, each at the head of its buffer, leave states that differ in a stalled frame's
place alone. -/
theorem taken_pins {f g : Frame} {rest : List Frame} {u t : State} (alike : Alike u t) (left : headTaken f rest u)
    (right : headTaken g rest t) : drivePins u = { drivePins t with dlc := { (drivePins t).dlc with
      buffer := if (drivePins t).tcl.stall.isSome = true then f :: rest else (drivePins t).dlc.buffer } } := by
  obtain ⟨c, rfl⟩ := alike
  rcases left with ⟨free, gone⟩ | ⟨stalled, held⟩
  · rcases right with ⟨-, same⟩ | ⟨stalled, -⟩
    · have same : c = u.dlc.buffer := same.trans gone.symm
      subst same
      have unheld : ¬ (drivePins (refilled u.dlc.buffer u)).tcl.stall.isSome = true := by
        show ¬ u.tcl.stall.isSome = true
        rw [free]
        decide
      rw [if_neg unheld]
      rfl
    · have stalled : u.tcl.stall.isSome = true := stalled
      rw [free] at stalled
      cases stalled
  · have held' : (drivePins (refilled c u)).tcl.stall.isSome = true := stalled
    have hold : dholdLevel (refilled c u) = dholdLevel u := by
      show (_ || u.tcl.stall.isSome) = (_ || u.tcl.stall.isSome)
      rw [stalled, Bool.or_true, Bool.or_true]
    rw [if_pos held', ← held]
    simp only [drivePins, hold]
    rfl

/-! ## A forwarded frame (R58 to R60) -/

section

variable {s : State} {f : Frame} {rest : List Frame} {i : Fin 64} (head : s.dlc.buffer = f :: rest)
  (free : s.tcl.stall = none) (plain : f.restart = false) (other : ¬ (f.source = 3 ∧ f.cls = 1))
  (found : lookupRoute s.tcl.routes f.source f.cls = some i) (active : s.tcl.routes[i].state = .active)
  (formed : malformed s.tcl.routes[i] f = false) (forwards : s.tcl.routes[i].effective = .forward)
  (unpaired : s.tcl.routes[i].paired = false)
  (source : s.tcl.routes[i].activity = true → s.sdu.sleep = .active) (awake : s.sdu.sleep.asleep = false)
  (urgent : s.tcl.routes[i].lane = .urgent)

include head free plain other found active formed forwards unpaired source awake

/-- The SDU behind a frame of an entry, awake: the idle timer restarted by a source of activity (R143). -/
abbrev Sdu.heard (e : RouteEntry) (p : Params) (u : Sdu) : Sdu := if e.activity then u.restarted p else u

theorem exec_forwards : exec .dockFrameTaken s
    = .next (drivePins (placeFrame true i f ((countHit i s).onSdu (Sdu.heard s.tcl.routes[i] s.params)))) := by
  have entry := countHit_entry i s
  rw [exec_matched head free plain other found, handleMatched_forwards (by rw [entry]; exact active)
    (by rw [entry]; exact formed) (by rw [entry]; exact forwards) (by rw [entry]; exact unpaired),
    signal_forward_awake awake source]

include urgent

theorem exec_forwards_placed (room : s.rqu.urgent.length < 32 ∧ forwardedCount s.rqu.urgent < 24) :
    exec .dockFrameTaken s = .next (drivePins { counted i rest s with
      sdu := s.sdu.heard s.tcl.routes[i] s.params
      rqu := { s.rqu with
        urgent := s.rqu.urgent ++ [⟨.fwd, .urgent, f.source.setWidth 8, f.cls.setWidth 8, s.time,
          s.rqu.urgentGap, f.payload, true⟩]
        urgentGap := 0 } }) := by
  have entry := countHit_entry i s
  let heard := (countHit i s).onSdu (Sdu.heard s.tcl.routes[i] s.params)
  have placed := placeFrame_urgent_placed (f := f) (s := heard) (i := i)
    (by show (countHit i s).tcl.routes[i].lane = _; rw [entry]; exact urgent)
    (by show (countHit i s).tcl.routes[i].paired = _; rw [entry]; exact unpaired) room
  rw [exec_forwards head free plain other found active formed forwards unpaired source awake, placed,
    dropHead_eq (s := enterUrgent true (fwdRecord .urgent f) heard) head]
  rfl

theorem exec_forwards_stalls (full : ¬ (s.rqu.urgent.length < 32 ∧ forwardedCount s.rqu.urgent < 24)) :
    exec .dockFrameTaken s = .next (drivePins { s with
      sdu := s.sdu.heard s.tcl.routes[i] s.params
      tcl := { s.tcl with
        routes := s.tcl.routes.set i s.tcl.routes[i].hit
        stall := some ⟨i, s.params.stallLimit.toNat⟩ } }) := by
  have entry := countHit_entry i s
  let heard := (countHit i s).onSdu (Sdu.heard s.tcl.routes[i] s.params)
  have stalls := placeFrame_urgent_stalls (f := f) (s := heard) (i := i)
    (by show (countHit i s).tcl.routes[i].lane = _; rw [entry]; exact urgent) full
  rw [exec_forwards head free plain other found active formed forwards unpaired source awake, stalls]
  rfl

end

/-! ## A frame with RESTART (R52) -/

/-- The entries of a source that a RESTART frame re-enables. -/
theorem awaits_source {e : RouteEntry} {source : BitVec 4} : e.awaits (· = source) = true
    ↔ e.valid = true ∧ e.state = .disabled ∧ e.source = source := by
  simp only [RouteEntry.awaits, Bool.and_eq_true, decide_eq_true_eq, and_assoc]

/-- The records of the re-enable, in the statement's words. -/
theorem enabledRecords_eq (source : BitVec 4) (s : State) :
    (awaiting (· = source) (List.finRange 64) s).map (enabledRecord s)
      = ((List.finRange 64).filter fun j : Fin 64 => decide (s.tcl.routes[j].valid = true
          ∧ s.tcl.routes[j].state = .disabled ∧ s.tcl.routes[j].source = source)).map
        (fun j => (⟨.route, .urgent, source.setWidth 8, s.tcl.routes[j].cls.code, 0, 0,
          [natByte j.val, 1, natByte s.tcl.routes[j].errors] ++ natBytes s.tcl.routes[j].hits, false⟩ : Record)) := by
  have same : awaiting (· = source) (List.finRange 64) s
      = (List.finRange 64).filter fun j : Fin 64 => decide (s.tcl.routes[j].valid = true
          ∧ s.tcl.routes[j].state = .disabled ∧ s.tcl.routes[j].source = source) :=
    List.filter_congr fun j _ => Bool.eq_iff_iff.mpr (awaits_source.trans (decide_eq_true_iff).symm)
  rw [← same]
  refine List.map_congr_left fun j mem => ?_
  obtain ⟨-, -, named⟩ := awaits_source.mp (List.mem_filter.mp mem).2
  rw [enabledRecord, named]
  rfl

theorem backAmong_all (source : BitVec 4) (s : State) : backAmong (· = source) (List.finRange 64) s
    = Vector.ofFn fun j : Fin 64 =>
        if s.tcl.routes[j].valid = true ∧ s.tcl.routes[j].state = .disabled ∧ s.tcl.routes[j].source = source
        then s.tcl.routes[j].back s else s.tcl.routes[j] := by
  refine congrArg Vector.ofFn (funext fun j => if_congr ?_ rfl rfl)
  rw [awaits_source]
  exact and_iff_right (List.mem_finRange j)

/-- A frame with RESTART behind its re-enable is the frame without the flag. -/
theorem exec_restart_plain {s : State} {f : Frame} {rest : List Frame} (head : s.dlc.buffer = f :: rest)
    (free : s.tcl.stall = none) (flagged : f.restart = true) {rs : List Record} {v : Vector RouteEntry 64}
    (same : reenable (· = f.source) s = lodge rs { s with tcl := { s.tcl with routes := v } }) :
    ∃ t, exec .dockFrameTaken { lodge rs { s with tcl := { s.tcl with routes := v } } with
        dlc := { s.dlc with buffer := { f with restart := false } :: rest } } = .next t
      ∧ exec .dockFrameTaken s = .next { t with dlc := { t.dlc with
          buffer := if t.tcl.stall.isSome = true then f :: rest else t.dlc.buffer } } := by
  let back := lodge rs { s with tcl := { s.tcl with routes := v } }
  let plain := refilled ({ f with restart := false } :: rest) back
  have still : unstalled back := free
  have alike := taken_alike f ({ f with restart := false } :: rest) still
  have left := taken_head f rest (s := back) head still
  have right := taken_head { f with restart := false } rest (s := plain) rfl still
  have runs := exec_dockFrameTaken (s := plain) (f := { f with restart := false }) rfl still rfl
  rw [taken_flag] at right runs
  refine ⟨_, runs, ?_⟩
  rw [exec_restart head free flagged, same]
  exact congrArg Host.Outcome.next (taken_pins alike left right)

/-- Settles O27: an URGENT frame's handling in closed form; and a RESTART frame, whose re-enable has a closed form where the
lane has room, behind which nothing reads the flag or the buffer. -/
theorem dockFrameForwardsOrStalls : Obligations.DockFrameForwardsOrStalls := by
  intro s f rest head free
  constructor
  · intro i plain other found active formed forwards unpaired source awake urgent e restarted s1
    split
    · next room =>
      exact exec_forwards_placed head free plain other found active formed forwards unpaired source awake urgent room
    · next full =>
      exact exec_forwards_stalls head free plain other found active formed forwards unpaired source awake urgent full
  · intro flagged back found drop room
    have dropped (j : Fin 64) (awaits : s.tcl.routes[j].awaits (· = f.source) = true) :
        s.tcl.routes[j].effective = .drop := drop j (awaits_source.mp awaits)
    have records := enabledRecords_eq f.source s
    have enough : hasRoom (awaiting (· = f.source) (List.finRange 64) s).length s := by
      have lengths := congrArg List.length records
      rw [List.length_map, List.length_map] at lengths
      rw [lengths]
      exact room
    have reenabled := reenable_room free dropped enough
    rw [records, backAmong_all] at reenabled
    exact exec_restart_plain head free flagged reenabled

end Sys2Proof.Machine
end

section
/-! PROOFS. O28: a paired frame that the Held Pool lets through is placed and has its pool effect; the one that it does
not, the UP of an item not held without the mark, is counted as a hit and nothing else. -/

namespace Sys2Proof.Machine

/-! ## The Held Pool decision (R66 to R69) -/

section

variable {i : Fin 64} {f : Frame} {s : State}

theorem poolForwards_paired {item : Byte} {down : Bool} (paired : s.tcl.routes[i].paired = true)
    (edge : itemEdge f = some (item, down)) : poolForwards i f s = true
      ↔ (⟨i, item⟩ : PoolSlot) ∈ s.tcl.pool ∨ down = true ∨ s.tcl.routes[i].overflow = true := by
  cases down
  · simp only [poolForwards, paired, edge, Bool.not_true, Bool.false_or, Bool.or_eq_true, poolHolds_iff,
      Bool.false_eq_true, false_or]
  · simp only [poolForwards, edge, Bool.or_true, true_or, or_true]

theorem handleMatched_passes (active : s.tcl.routes[i].state = .active) (formed : malformed s.tcl.routes[i] f = false)
    (forwards : s.tcl.routes[i].effective = .forward) (passes : poolForwards i f s = true) (dock) :
    handleMatched dock i f s = placeFrame dock i f (signal i .forward s) := by
  simp only [handleMatched, active, formed, forwards, passes, reduceCtorEq, decide_true, Bool.and_self,
    Bool.false_eq_true, if_false, if_true]

theorem handleMatched_withheld (active : s.tcl.routes[i].state = .active)
    (formed : malformed s.tcl.routes[i] f = false) (forwards : s.tcl.routes[i].effective = .forward)
    (withheld : poolForwards i f s = false) (dock) :
    handleMatched dock i f s = endFrame dock (signal i .forward s) := by
  simp only [handleMatched, active, formed, forwards, withheld, reduceCtorEq, Bool.and_false, Bool.false_eq_true,
    if_false]

/-- With room the record enters, the frame leaves the buffer and the pool effect of a placed record follows (R59). -/
theorem placeFrame_urgent_room (urgent : s.tcl.routes[i].lane = .urgent)
    (room : s.rqu.urgent.length < 32 ∧ forwardedCount s.rqu.urgent < 24) :
    placeFrame true i f s = poolEffect i f true (dropHead (enterUrgent true (fwdRecord .urgent f) s)) := by
  have enters : forwardRoom s = true := Bool.and_eq_true _ _ |>.mpr ⟨decide_eq_true room.1, decide_eq_true room.2⟩
  simp only [placeFrame, urgent]
  rw [if_pos enters]
  rfl

end

/-! ## A paired frame at the head of the buffer -/

/-- The pool once a paired frame's record is placed (R66 to R68). -/
abbrev poolAfter (x : PoolSlot) (down : Bool) (p : List PoolSlot) : List PoolSlot :=
  if down then (if x ∈ p ∨ 32 ≤ p.length then p else p ++ [x]) else p.filter (· ≠ x)

/-- The overflow mark once a paired frame's record is placed (R67). -/
abbrev markAfter (x : PoolSlot) (down : Bool) (p : List PoolSlot) (mark : Bool) : Bool :=
  mark || (down && decide (x ∉ p) && decide (32 ≤ p.length))

/-- The queue once a dock frame's record has entered the URGENT lane with the forwarded mark (R165, R166). -/
abbrev Rqu.forwarded (f : Frame) (now : Half) (q : Rqu) : Rqu :=
  { q with
    urgent := q.urgent ++ [⟨.fwd, .urgent, f.source.setWidth 8, f.cls.setWidth 8, now, q.urgentGap, f.payload, true⟩]
    urgentGap := 0 }

/-- The state that a paired frame leaves: the hit, the frame out of the buffer, pool and mark, and the queue. -/
abbrev pairTaken (i : Fin 64) (rest : List Frame) (p : List PoolSlot) (mark : Bool) (q : Rqu) (s : State) : State :=
  drivePins (pooled i p mark { counted i rest s with rqu := q })

theorem pooled_entry (i : Fin 64) (p mark) (s : State) :
    (pooled i p mark s).tcl.routes[i] = { s.tcl.routes[i] with overflow := mark } :=
  (routes_set_getElem ..).trans (if_pos rfl)

theorem pooled_other {i j : Fin 64} (other : j ≠ i) (p mark) (s : State) :
    (pooled i p mark s).tcl.routes[j] = s.tcl.routes[j] :=
  (routes_set_getElem ..).trans (if_neg other.symm)

theorem countHit_other {i j : Fin 64} (other : j ≠ i) (s : State) : (countHit i s).tcl.routes[j] = s.tcl.routes[j] :=
  (routes_set_getElem ..).trans (if_neg other.symm)

theorem pairTaken_entry (i rest p mark q s) : (pairTaken i rest p mark q s).tcl.routes[i]
    = { s.tcl.routes[i].hit with overflow := mark } :=
  (pooled_entry i p mark { counted i rest s with rqu := q }).trans
    (congrArg (fun e : RouteEntry => { e with overflow := mark }) (countHit_entry i s))

theorem pairTaken_other {i j : Fin 64} (other : j ≠ i) (rest p mark q s) :
    (pairTaken i rest p mark q s).tcl.routes[j] = s.tcl.routes[j] :=
  (pooled_other other p mark { counted i rest s with rqu := q }).trans (countHit_other other s)

theorem pairTaken_beyondCommit (i rest p mark q s) : BeyondCommit s (pairTaken i rest p mark q s) :=
  ⟨rfl, rfl, rfl, rfl, rfl, rfl, rfl⟩

section

variable {s : State} {f : Frame} {rest : List Frame} {i : Fin 64} {item : Byte} {down : Bool}
  (head : s.dlc.buffer = f :: rest) (free : s.tcl.stall = none) (plain : f.restart = false)
  (other : ¬ (f.source = 3 ∧ f.cls = 1)) (found : lookupRoute s.tcl.routes f.source f.cls = some i)
  (active : s.tcl.routes[i].state = .active) (formed : malformed s.tcl.routes[i] f = false)
  (forwards : s.tcl.routes[i].effective = .forward) (paired : s.tcl.routes[i].paired = true)
  (inactive : s.tcl.routes[i].activity = false) (awake : s.sdu.sleep.asleep = false)
  (edge : itemEdge f = some (item, down))

include head free plain other found active formed forwards paired inactive awake edge

/-- The UP of an item not held, without the mark, is dropped (R69). -/
theorem exec_paired_withheld (unheld : (⟨i, item⟩ : PoolSlot) ∉ s.tcl.pool) (up : down = false)
    (unmarked : s.tcl.routes[i].overflow = false) : exec .dockFrameTaken s
      = .next (pairTaken i rest (poolAfter ⟨i, item⟩ down s.tcl.pool)
          (markAfter ⟨i, item⟩ down s.tcl.pool s.tcl.routes[i].overflow) s.rqu s) := by
  have entry := countHit_entry i s
  have withheld : poolForwards i f (countHit i s) = false := Bool.eq_false_iff.mpr fun passes => by
    rcases (poolForwards_paired (by rw [entry]; exact paired) edge).mp passes with held | isDown | marked
    · exact unheld held
    · rw [up] at isDown
      cases isDown
    · rw [entry, unmarked] at marked
      cases marked
  have pool : poolAfter ⟨i, item⟩ down s.tcl.pool = (counted i rest s).tcl.pool := by
    rw [up]
    exact filter_unheld unheld
  have mark : markAfter ⟨i, item⟩ down s.tcl.pool s.tcl.routes[i].overflow
      = (counted i rest s).tcl.routes[i].overflow := by
    rw [up]
    exact (Bool.or_false _).trans (congrArg RouteEntry.overflow entry).symm
  rw [exec_matched head free plain other found, handleMatched_withheld (by rw [entry]; exact active)
    (by rw [entry]; exact formed) (by rw [entry]; exact forwards) withheld,
    signal_inactive (s := countHit i s) awake (by rw [entry]; exact inactive), pool, mark]
  exact congrArg (fun t => Host.Outcome.next (drivePins t))
    ((dropHead_countHit head).trans (pooled_self i (counted i rest s)))

/-- Every other paired frame is forwarded and has its pool effect (R66 to R69). -/
theorem exec_paired_forwarded (urgent : s.tcl.routes[i].lane = .urgent)
    (room : s.rqu.urgent.length < 32 ∧ forwardedCount s.rqu.urgent < 24)
    (passes : (⟨i, item⟩ : PoolSlot) ∈ s.tcl.pool ∨ down = true ∨ s.tcl.routes[i].overflow = true) :
    exec .dockFrameTaken s
      = .next (pairTaken i rest (poolAfter ⟨i, item⟩ down s.tcl.pool)
          (markAfter ⟨i, item⟩ down s.tcl.pool s.tcl.routes[i].overflow) (s.rqu.forwarded f s.time) s) := by
  have entry := countHit_entry i s
  have hit : (countHit i s).tcl.routes[i].overflow = s.tcl.routes[i].overflow := by rw [entry]
  have lets : poolForwards i f (countHit i s) = true :=
    (poolForwards_paired (by rw [entry]; exact paired) edge).mpr (by rw [hit]; exact passes)
  have entered : dropHead (enterUrgent true (fwdRecord .urgent f) (countHit i s))
      = { counted i rest s with rqu := s.rqu.forwarded f s.time } :=
    dropHead_eq (s := enterUrgent true (fwdRecord .urgent f) (countHit i s)) head
  rw [exec_matched head free plain other found, handleMatched_passes (by rw [entry]; exact active)
    (by rw [entry]; exact formed) (by rw [entry]; exact forwards) lets,
    signal_inactive (s := countHit i s) awake (by rw [entry]; exact inactive),
    placeFrame_urgent_room (s := countHit i s) (by rw [entry]; exact urgent) room, entered,
    poolEffect_placed (s := { counted i rest s with rqu := _ }) ((congrArg RouteEntry.paired entry).trans paired) edge,
    ← hit]
  rfl

end

/-- Settles O28: the pool's decision picks the queue; hit, buffer, pool and mark have one closed form in both cases. -/
theorem pairedFramesTrackItems : Obligations.PairedFramesTrackItems := by
  intro s f rest i item down more head free plain other found active formed forwards paired inactive awake urgent
    lane share payload
  have edge := itemEdge_eq payload
  by_cases passes : (⟨i, item⟩ : PoolSlot) ∈ s.tcl.pool ∨ down = true ∨ s.tcl.routes[i].overflow = true
  · refine ⟨_, exec_paired_forwarded head free plain other found active formed forwards paired inactive awake edge
      urgent ⟨lane, share⟩ passes, rfl, free, pairTaken_beyondCommit .., rfl, rfl, rfl, rfl,
      fun unheld up unmarked => ?_, fun _ => rfl, rfl, pairTaken_entry .., fun j ne => pairTaken_other ne ..⟩
    simp only [up, unmarked, Bool.false_eq_true, or_false] at passes
    exact absurd passes unheld
  · obtain ⟨unheld, up, unmarked⟩ := by simpa only [not_or, Bool.not_eq_true] using passes
    exact ⟨_, exec_paired_withheld head free plain other found active formed forwards paired inactive awake edge
      unheld up unmarked, rfl, free, pairTaken_beyondCommit .., rfl, rfl, rfl, rfl, fun _ _ _ => rfl,
      fun h => absurd h passes, rfl, pairTaken_entry .., fun j ne => pairTaken_other ne ..⟩

end Sys2Proof.Machine
end

section
/-! PROOFS. The output pins (O4). -/

namespace Sys2Proof.Machine

/-- Every command ends with the two output pins driven anew (R86, R176). -/
theorem exec_drivesPins (c : Instr) (s : State) : ∃ u, exec c s = .next (drivePins u) := by
  cases c <;> exact ⟨_, rfl⟩

/-- The notify condition as a proposition (R175). -/
theorem notify_eq (s : State) :
    notify s = decide (s.rqu.urgent ≠ [] ∨ 2 ^ s.params.notifyShift.toNat ≤ s.rqu.bulk.length) := by
  cases empty : s.rqu.urgent <;> simp [notify, empty]

theorem dholdLevel_eq (s : State) :
    dholdLevel s = decide (3 ≤ s.dlc.buffer.length ∨ s.tcl.stall.isSome = true) := by
  simp [dholdLevel, Config.holdThreshold]

/-- Settles O4: whatever a command does, it drives the pins last, and `drivePins` is the two rules. -/
theorem pinsFollowTheirRules : Obligations.PinsFollowTheirRules := by
  intro c s t e
  obtain ⟨u, driven⟩ := exec_drivesPins c s
  cases driven.symm.trans e
  refine ⟨?_, dholdLevel_eq u⟩
  rw [drivePins_alert, alertLevel, notify_eq]
  rfl

end Sys2Proof.Machine
end

section
/-! PROOFS. The dock state's moves (O45). -/

namespace Sys2Proof.Machine

/-! ## What leaves the dock state -/

/-- The dock state is `d`. -/
abbrev docked (d : DockState) (s : State) : Prop := s.dlc.state = d

theorem blind_dockState : Blind fun s => s.dlc.state :=
  ⟨fun _ _ => rfl, fun _ _ => rfl, fun _ _ => rfl, fun _ _ => rfl, fun _ _ _ => rfl, fun _ _ => rfl, fun _ _ => rfl⟩

theorem docked_stable (d : DockState) : Stable (docked d) := blind_dockState.stable (· = d)

theorem docked_posed (d : DockState) : Posed (docked d) := (docked_stable d).posed fun _ _ h => h

theorem docked_calm (d : DockState) : Calm (docked d) :=
  ⟨fun _ _ _ _ h => h, fun _ h => h, fun _ _ h => h, fun _ _ h => h, fun _ _ _ h => h⟩

/-- The handling of a frame leaves the dock state, the frame in the buffer or not. -/
theorem docked_classify (d : DockState) (dock f) : Keeps (docked d) (classify dock f) := fun _ hs =>
  FrameLeads.classify (P := docked d) (Q := docked d)
    { before := docked_stable d, after := docked_stable d, stalls := fun _ _ _ h => h
      ends := fun s h => (blind_dockState.endFrame dock s).trans h }
    (fun _ _ h => h) f hs

theorem docked_takeHead (d : DockState) : Keeps (docked d) takeHead := by
  intro s hs
  unfold takeHead
  split
  · refine docked_classify d true _ ((docked_posed d).tap _ ?_)
    split
    · exact (docked_stable d).reenable _ hs
    · exact hs
  · exact hs

theorem docked_lidArrival (d : DockState) (v) : Keeps (docked d) (lidArrival v) := fun _ hs =>
  docked_classify d false _ ((docked_posed d).hingeStepOf ((docked_posed d).orientStep (docked_calm d) hs))

theorem docked_acceptHall (d : DockState) (i l) : Keeps (docked d) (acceptHall i l) := fun _ hs =>
  docked_classify d false _ ((docked_posed d).evaluate ((docked_posed d).setHall i _ hs))

theorem docked_hallMillisecond (d : DockState) (a b) : Keeps (docked d) (hallMillisecond a b) := by
  have settled (i l) : Keeps (docked d) (settleHall i l) := fun _ hs => keeps_ite (docked_acceptHall d i l hs) hs
  intro s hs
  have counted := (docked_posed d).setHall .fold ((((countHall .lid a s).pse.hall .fold)).count b)
    ((docked_posed d).setHall .lid ((s.pse.hall .lid).count a) hs)
  unfold hallMillisecond
  simp only
  split
  · exact settled _ _ (settled _ _ counted)
  · exact settled _ _ (settled _ _ counted)

theorem docked_staleExpired {d : DockState} {s : State} (hs : docked d s) :
    docked d (if s.pse.staleTimer.isSome then
      (let s1 := s.onPse fun p => { p with staleTimer := none, hinge := .unknown }
       if s.pse.hinge = .unknown then s1 else evaluate s1) else s) := by
  split
  · simp only
    split
    · exact hs
    · exact (docked_posed d).evaluate hs
  · exact hs

/-! ## Requests -/

theorem docked_configSet (d : DockState) (tag number value) : Keeps (docked d) (configSet tag number value) := by
  intro s hs
  have stored (n v) : docked d (storeParam n v s) :=
    keeps_ite (s := s.onParams fun p => p.set n v) ((docked_posed d).recheckBlocked hs) hs
  unfold configSet
  simp only
  split
  · exact hs
  · split
    · exact hs
    · split
      · exact hs
      · exact stored _ _

theorem docked_loadRoute (d : DockState) (tag index fields) : Keeps (docked d) (loadRoute tag index fields) := by
  intro s hs
  unfold loadRoute
  split
  · exact hs
  · split
    · next _ _ i e _ =>
      split
      · exact hs
      · exact (blind_dockState.writeRoute i e s).trans hs
    · exact hs

theorem docked_clearRoute (d : DockState) (tag index) : Keeps (docked d) (clearRoute tag index) := by
  intro s hs
  unfold clearRoute
  split
  · exact hs
  · split
    · exact (blind_dockState.vacateRoute _ _ s).trans hs
    · exact hs

theorem docked_loadPosture (d : DockState) (tag row fields) : Keeps (docked d) (loadPosture tag row fields) := by
  intro s hs
  unfold loadPosture
  split
  · exact hs
  · split <;> exact hs

theorem docked_sendDock (d : DockState) (tag node cls len payload) :
    Keeps (docked d) (sendDock tag node cls len payload) := by
  intro s hs
  unfold sendDock
  split
  · exact hs
  · split
    · exact hs
    · split <;> exact hs

theorem docked_configPen (d : DockState) (tag raw) : Keeps (docked d) (configPen tag raw) := by
  intro s hs
  unfold configPen
  split
  · exact hs
  · split
    · exact hs
    · exact (docked_calm d).placeSet _ hs

theorem docked_setHostState (d : DockState) (tag arg) : Keeps (docked d) (setHostState tag arg) := by
  intro s hs
  unfold setHostState
  split
  · exact (docked_stable d).hostStandby hs
  · split
    · exact (docked_stable d).hostRunning hs
    · exact hs

theorem docked_holdClaim (d : DockState) (tag slot cls owner lifetime) :
    Keeps (docked d) (holdClaim tag slot cls owner lifetime) := by
  intro s hs
  unfold holdClaim
  split
  · split
    · exact hs
    · split
      · exact hs
      · exact (docked_stable d).claimHold _ _ _ _ hs
  · exact hs

theorem docked_holdRelease (d : DockState) (tag slot owner) : Keeps (docked d) (holdRelease tag slot owner) := by
  intro s hs
  unfold holdRelease
  split
  · split
    · exact hs
    · split
      · exact hs
      · split
        · exact hs
        · exact (docked_stable d).deferredAdvice (s := setHold _ none s) hs
  · exact hs

theorem docked_drainQueue (d : DockState) (tag count lane) : Keeps (docked d) (drainQueue tag count lane) := by
  intro s hs
  unfold drainQueue
  split
  · exact hs
  · split
    · show docked d (if _ then _ else _)
      split
      · exact hs
      · exact (docked_stable d).retryStall hs
    · exact hs

/-- Of the requests DETACH_ANSWER, DOCK_RETRY and RESET alone may move the dock state. -/
theorem docked_runRequest (d : DockState) (c : Instr) (answer : ∀ tag arg, c ≠ .detachAnswer tag arg)
    (retry : ∀ tag, c ≠ .dockRetry tag) (reset : ∀ tag, c ≠ .reset tag) : Keeps (docked d) (runRequest c) := by
  intro s hs
  cases c
  case configSet => exact docked_configSet d _ _ _ hs
  case configGet => simp only [runRequest, configGet]; split <;> exact hs
  case reset tag => exact absurd rfl (reset tag)
  case routeLoad => exact docked_loadRoute d _ _ _ hs
  case routeClear => exact docked_clearRoute d _ _ hs
  case routeRead => simp only [runRequest, readRoute]; split <;> exact hs
  case postureLoad => exact docked_loadPosture d _ _ _ hs
  case postureRead => simp only [runRequest, readPosture]; split <;> exact hs
  case orientLock =>
    simp only [runRequest, orientLock]
    split
    · exact (docked_posed d).setLock _ hs
    · exact hs
  case dockSend => exact docked_sendDock d _ _ _ _ _ hs
  case detachAnswer tag arg => exact absurd rfl (answer tag arg)
  case dockRetry tag => exact absurd rfl (retry tag)
  case penConfig => exact docked_configPen d _ _ hs
  case supply =>
    simp only [runRequest, setSupply]
    split
    · exact (docked_calm d).penAllowance hs
    · exact hs
  case hostState => exact docked_setHostState d _ _ hs
  case holdClaim => exact docked_holdClaim d _ _ _ _ _ hs
  case holdRelease => exact docked_holdRelease d _ _ _ hs
  case drain => exact docked_drainQueue d _ _ _ hs
  all_goals exact hs


/-! ## The dock state machine -/

/-- From a dock state to itself or along one transition of the table. -/
def DockState.reaches (old new : DockState) : Prop := new = old ∨ (old, new) ∈ dockMoves

/-- From a dock state to another through the IDENTIFYING of a node 0 restart (R116). -/
abbrev DockState.restartsTo (old new : DockState) : Prop :=
  (old, DockState.identifying) ∈ dockMoves ∧ (DockState.identifying, new) ∈ dockMoves

/-- A change of dock state along the table. -/
theorem changeDock_reaches {new : DockState} {ev cause sdu} {s : State} (hu : ∀ P, Stable P → Keeps P sdu)
    (move : (s.dlc.state, new) ∈ dockMoves) : s.dlc.state.reaches (changeDock new ev cause sdu s).dlc.state :=
  .inr (by rwa [changeDock_state hu])

/-- The dock state that an operation finds and the one that it leaves are one transition apart at most. -/
abbrev StepsDock (f : State → State) (s : State) : Prop := s.dlc.state.reaches (f s).dlc.state

theorem latchRequested_steps (s : State) : StepsDock latchRequested s := by
  unfold StepsDock latchRequested
  split
  · next attached => exact changeDock_reaches (fun _ h => h.wake _) (by rw [attached]; decide)
  · exact .inl rfl

theorem loseBase_steps (s : State) : StepsDock loseBase s := by
  unfold StepsDock loseBase
  split
  case h_1 state => exact changeDock_reaches (fun _ h => h.activity) (by rw [state]; decide)
  case h_2 state | h_3 state | h_4 state => exact changeDock_reaches (sdu_wakeActivity _) (by rw [state]; decide)
  case h_5 state | h_6 state | h_7 state => exact changeDock_reaches sdu_nothing (by rw [state]; decide)
  case h_8 => exact .inl rfl

theorem senseMillisecond_steps (present : Bool) (s : State) : StepsDock (senseMillisecond present) s := by
  have changes (t : Timer) {old new : DockState} (here : s.dlc.state = old) (move : (old, new) ∈ dockMoves) :
      s.dlc.state.reaches
        (changeDock new none .none nothing (s.onDlc fun d => { d with senseTimer := t })).dlc.state :=
    changeDock_reaches (s := s.onDlc fun d => { d with senseTimer := t }) sdu_nothing (here ▸ move)
  unfold StepsDock senseMillisecond
  split
  · simp only
    split
    · next sensed => exact changes _ sensed (by decide)
    · exact .inl rfl
  · split
    · exact .inl rfl
    · simp only
      split
      · next absent => exact changes _ absent (by decide)
      · exact .inl rfl

theorem senseComplete_steps (s : State) : StepsDock senseComplete s := by
  unfold StepsDock senseComplete
  split
  · next runs =>
    rw [Bool.and_eq_true, decide_eq_true_eq] at runs
    exact changeDock_reaches (s := s.onDlc fun d => { d with sense := true, senseTimer := none }) sdu_nothing
      (by rw [State.onDlc_dlc, runs.2]; decide)
  · exact .inl rfl

theorem senseLost_steps (s : State) : StepsDock senseLost s := by
  unfold StepsDock senseLost
  split
  · exact loseBase_steps (s.onDlc fun d => { d with sense := false, senseTimer := none })
  · exact .inl rfl

theorem acceptPress_steps (s : State) : StepsDock acceptPress s :=
  latchRequested_steps (s.onDlc fun d => { d with button := true, buttonRun := 0, buttonFresh := false })

theorem buttonMillisecond_steps (pressed : Bool) (s : State) : StepsDock (buttonMillisecond pressed) s := by
  unfold StepsDock buttonMillisecond
  split
  · exact .inl rfl
  · split
    · exact .inl rfl
    · split
      · exact .inl rfl
      · split
        · exact acceptPress_steps s
        · exact .inl rfl

theorem raiseFault_dockState (k : FaultKind) (s : State) : (raiseFault k s).dlc.state = s.dlc.state :=
  blind_dockState.raiseFault k s

/-- The HELLO timer runs in IDENTIFYING, which its last expiry leaves for FAULTED (R104). -/
theorem helloExpired_steps {s : State} (identifying : s.dlc.helloTimer.isSome = true → s.dlc.state = .identifying) :
    StepsDock helloExpired s := by
  unfold StepsDock helloExpired
  split
  · next runs =>
    split
    · exact .inl rfl
    · rw [raiseFault_dockState]
      exact changeDock_reaches sdu_nothing (by rw [identifying runs]; decide)
  · exact .inl rfl

theorem answerDetach_steps (tag arg : Byte) (s : State) : StepsDock (answerDetach tag arg) s := by
  unfold StepsDock answerDetach
  split
  · exact .inl rfl
  · split
    · exact .inl rfl
    · next requested =>
      rw [not_not] at requested
      rw [respond_dlc]
      split
      · exact changeDock_reaches sdu_nothing (by rw [requested]; decide)
      · exact changeDock_reaches sdu_nothing (by rw [requested]; decide)

theorem retryDock_steps (tag : Byte) (s : State) : StepsDock (retryDock tag) s := by
  unfold StepsDock retryDock
  split
  · next faulted =>
    rw [respond_dlc]
    exact changeDock_reaches sdu_nothing (by rw [faulted]; decide)
  · exact .inl rfl

/-! ## The link -/

/-- A link error leaves the dock state or, where it counts, leads to FAULTED (R106). -/
theorem linkError_steps (s : State) : StepsDock linkError s := by
  unfold StepsDock
  by_cases counting : s.dlc.state.countsErrors = true
  · by_cases limit : s.params.linkErrLimit.toNat ≤ s.dlc.counted
    · rw [linkError_limit counting limit]
      revert counting
      cases s.dlc.state <;> simp [DockState.countsErrors, DockState.reaches, dockMoves]
    · rw [linkError_below counting (Nat.not_le.mp limit), State.onDlc_dlc, Dlc.countError_counted]
      exact .inl rfl
  · rw [linkError, if_neg counting]
    exact .inl rfl

theorem managementClass_steps (cls payload) (s : State) : StepsDock (managementClass cls payload) s := by
  unfold StepsDock managementClass
  split
  · next hello =>
    split
    · next i _ =>
      have attaches : (acceptHello i s).dlc.state = .attached :=
        (congrArg Dlc.state (acceptHello_attaches hello.2 i).dock :)
      rw [attaches, hello.2]
      exact .inr (by decide)
    · exact linkError_steps s
  · split
    · next quiesced => exact changeDock_reaches sdu_nothing (by rw [quiesced.2]; decide)
    · exact .inl rfl

/-- A node 0 frame takes one transition or, with RESTART, two (R92, R116). -/
theorem management_steps (cls restart payload) (s : State) : StepsDock (management cls restart payload) s
    ∨ (restart = true ∧ s.dlc.state.restartsTo (management cls restart payload s).dlc.state) := by
  cases restart
  · exact .inl (managementClass_steps cls payload s)
  · by_cases mounted : s.dlc.state.forcesSlate = false
    · obtain ⟨handled, identifying⟩ := management_mounted mounted cls payload
      have first : (s.dlc.state, DockState.identifying) ∈ dockMoves := by
        revert mounted
        cases s.dlc.state <;> simp [DockState.forcesSlate, dockMoves]
      have second := managementClass_steps cls payload (nodeZeroRestart s)
      rw [StepsDock, identifying, ← handled] at second
      rcases second with stays | moves
      · exact .inl (.inr (by rwa [stays]))
      · exact .inr ⟨rfl, first, moves⟩
    · have rests : (nodeZeroRestart s).dlc.state = s.dlc.state := by
        have forced : s.dlc.state.forcesSlate = true := by simpa using mounted
        exact nodeZeroRestart_leads (P := docked s.dlc.state) (Q := docked s.dlc.state)
          (fun t ht => by rwa [restartDock_rest (by rw [ht, forced])])
          (fun t ht => by rwa [restartDock_rest (by rw [ht, forced])])
          (fun t ht => ((reenableDock_beyond t).dockState).trans ht) rfl
      have steps := managementClass_steps cls payload (nodeZeroRestart s)
      rw [StepsDock, rests] at steps
      exact .inl steps

theorem bufferFrame_dockState (f : Frame) (s : State) : (bufferFrame f s).dlc.state = s.dlc.state := by
  unfold bufferFrame
  split
  · rfl
  · exact raiseFault_dockState _ s

/-- An arriving frame takes one transition or, of node 0 with RESTART, two. -/
theorem frameArrives_steps (node cls restart payload) (s : State) :
    StepsDock (frameArrives node cls restart payload) s
      ∨ (node = 0 ∧ restart = true
        ∧ s.dlc.state.restartsTo (frameArrives node cls restart payload s).dlc.state) := by
  unfold StepsDock frameArrives
  split
  · exact .inl (.inl rfl)
  · split
    · exact .inl (linkError_steps s)
    · split
      · next zero =>
        split
        · exact .inl (.inl rfl)
        · exact (management_steps cls restart payload s).imp id fun ⟨restarts, twice⟩ => ⟨zero, restarts, twice⟩
      · split
        · exact .inl (.inl (bufferFrame_dockState _ s))
        · exact .inl (.inl rfl)

/-- A data character that ends a frame does what the frame's arrival does. -/
theorem dataCharacter_steps (b : Byte) (s : State) : StepsDock (dataCharacter b) s
    ∨ s.dlc.state.restartsTo (dataCharacter b s).dlc.state := by
  have broken : StepsDock (fun s => linkError (setRx .hunt s)) s := linkError_steps (setRx .hunt s)
  unfold StepsDock dataCharacter
  split
  · exact .inl (.inl rfl)
  · split
    · exact .inl broken
    · split <;> exact .inl (.inl rfl)
  · split <;> exact .inl (.inl rfl)
  · split
    · exact (frameArrives_steps _ _ _ _ (setRx .hunt s)).imp id fun ⟨_, _, twice⟩ => twice
    · exact .inl broken

theorem receive_steps (data mark stop) (s : State) : StepsDock (receive data mark stop) s
    ∨ (mark = false ∧ stop = true ∧ s.dlc.state.restartsTo (receive data mark stop s).dlc.state) := by
  unfold StepsDock receive
  split
  · exact .inl (.inl rfl)
  · split
    · split
      · exact .inl (linkError_steps (setRx .hunt s))
      · exact .inl (.inl rfl)
    · next good =>
      split
      · simp only
        split
        · exact .inl (linkError_steps (setRx (.length data (crc8Byte 0 data)) s))
        · exact .inl (.inl rfl)
      · next unmarked =>
        exact (dataCharacter_steps data s).imp id fun twice => ⟨by simpa using unmarked, by simpa using good, twice⟩

/-! ## Every command (O45) -/

/-- The commands that can carry a node 0 frame with RESTART to its end (R81, R92). -/
abbrev endsRestart (c : Instr) : Prop :=
  (∃ cls payload, c = .dockFrameArrival 0 cls true payload) ∨ ∃ b, c = .dockCharacter (lineBits b) false true

/-- The dock state before and after a command. -/
abbrev dockMoved (c : Instr) (old new : DockState) : Prop :=
  new = old ∨ (old, new) ∈ dockMoves ∨ endsRestart c ∧ old.restartsTo new

theorem dockMoved_of_reaches {c : Instr} {old new : DockState} (h : old.reaches new) : dockMoved c old new :=
  h.imp_right .inl

/-- A command's outcome, with the two output pins, has the dock state of what the command did. -/
theorem moved_done {c : Instr} {old : DockState} {u : State} (moved : dockMoved c old u.dlc.state) :
    ∃ t, done u = .next t ∧ dockMoved c old t.dlc.state := ⟨_, rfl, moved⟩

/-- A command that acts on a condition alone. -/
theorem reaches_ite {p : Prop} [Decidable p] {f : State → State} {s : State} (act : p → StepsDock f s) :
    s.dlc.state.reaches (if p then f s else s).dlc.state := by
  split
  · next hp => exact act hp
  · exact .inl rfl

theorem dockCharacter_moves (line : BitVec 9) (mark stop : Bool) (s : State) :
    ∃ t, exec (.dockCharacter line mark stop) s = .next t
      ∧ dockMoved (.dockCharacter line mark stop) s.dlc.state t.dlc.state := by
  refine moved_done (u := if line.getLsbD 0 then s else receive (lineData line) mark stop s) ?_
  split
  · exact .inl rfl
  · next low =>
    have spelt := lineBits_of_line line (by simpa using low)
    rcases receive_steps (lineData line) mark stop s with once | ⟨unmarked, good, twice⟩
    · exact dockMoved_of_reaches once
    · exact .inr (.inr ⟨.inr ⟨lineData line, by rw [spelt, unmarked, good]⟩, twice⟩)

theorem dockFrameArrival_moves (node cls restart payload) (s : State) :
    ∃ t, exec (.dockFrameArrival node cls restart payload) s = .next t
      ∧ dockMoved (.dockFrameArrival node cls restart payload) s.dlc.state t.dlc.state := by
  refine moved_done (u := if Config.framePayload < payload.length then linkError (setRx .hunt s)
    else frameArrives node cls restart payload (setRx .hunt s)) ?_
  split
  · exact dockMoved_of_reaches (linkError_steps (setRx .hunt s))
  · rcases frameArrives_steps node cls restart payload (setRx .hunt s) with once | ⟨zero, restarts, twice⟩
    · exact dockMoved_of_reaches once
    · exact .inr (.inr ⟨.inl ⟨cls, payload, by rw [zero, restarts]⟩, twice⟩)

/-- Every command but a reset and a transaction, which may carry one. -/
theorem exec_moves (c : Instr) {s : State} (hs : dockInv s)
    (transaction : ∀ waited mosi, c ≠ .hostTransaction waited mosi) (reset : ∀ tag, c ≠ .reset tag)
    (cold : c ≠ .coldReset) (warm : c ≠ .warmResetPin) :
    ∃ t, exec c s = .next t ∧ dockMoved c s.dlc.state t.dlc.state := by
  have timed := ((dockInv_iff s).mp hs).1
  have stable := docked_stable s.dlc.state
  have calm := docked_calm s.dlc.state
  have posed := docked_posed s.dlc.state
  have same : docked s.dlc.state s := rfl
  have stays {u : State} (h : docked s.dlc.state u) : ∃ t, done u = .next t ∧ dockMoved c s.dlc.state t.dlc.state :=
    moved_done (.inl h)
  have steps {u : State} (h : s.dlc.state.reaches u.dlc.state) :
      ∃ t, done u = .next t ∧ dockMoved c s.dlc.state t.dlc.state := moved_done (dockMoved_of_reaches h)
  cases c
  case hostTransaction waited mosi => exact absurd rfl (transaction waited mosi)
  case reset tag => exact absurd rfl (reset tag)
  case coldReset => exact absurd rfl cold
  case warmResetPin => exact absurd rfl warm
  -- the chapters The Dock Link and Attach and Detach
  case dockCharacter => exact dockCharacter_moves _ _ _ s
  case dockFrameArrival => exact dockFrameArrival_moves _ _ _ _ s
  case errorWindowExpiry => exact stays (keeps_ite same same)
  case transmissionStart => exact stays (keeps_ite (s.dlc.chooseFrame_keeps _).1 same)
  case transmissionComplete => exact stays s.dlc.endTransmission_keeps.1
  case dockSenseLevel => exact steps (senseMillisecond_steps _ s)
  case senseDebounceComplete => exact steps (senseComplete_steps s)
  case senseLoss => exact steps (senseLost_steps s)
  case latchRequest => exact steps (acceptPress_steps s)
  case latchButtonMillisecondLevel => exact steps (buttonMillisecond_steps _ s)
  case helloTimerExpiry => exact steps (helloExpired_steps timed.hello.mp)
  case grantTimerExpiry =>
    refine steps ?_
    split
    · next runs =>
      have requested := timed.grant.mp runs
      split
      · exact changeDock_reaches sdu_nothing (by rw [requested]; decide)
      · exact changeDock_reaches sdu_nothing (by rw [requested]; decide)
    · exact .inl rfl
  case quiesceTimerExpiry =>
    exact steps (reaches_ite fun runs => changeDock_reaches sdu_nothing (by rw [timed.quiesce.mp runs]; decide))
  case releaseWindowExpiry =>
    exact steps (reaches_ite fun runs => changeDock_reaches sdu_nothing (by rw [timed.window.mp runs]; decide))
  case latchDelayExpiry => exact stays (keeps_ite same same)
  case latchPeriodExpiry => exact stays (by split; exacts [by split <;> exact same, same])
  case latchOnExpiry => exact stays (keeps_ite same same)
  case detachAnswer => exact steps (answerDetach_steps _ _ s)
  case dockRetry => exact steps (retryDock_steps _ s)
  -- the Posture Engine and the traffic path
  case lidReadTimerExpiry => exact stays (keeps_ite same same)
  case lidSampleArrival => exact stays (keeps_ite (docked_lidArrival _ _ same) same)
  case lidReadFailure => exact stays (keeps_ite (posed.lidFailure calm same) same)
  case rotSettleExpiry => exact stays (keeps_ite (posed.rotExpire calm _ same) same)
  case pairingTimerExpiry => exact stays same
  case staleTimerExpiry => exact stays (docked_staleExpired same)
  case hallChange => exact stays (by split; exacts [same, docked_acceptHall _ _ _ same])
  case settleTimerExpiry => exact stays (by split; exacts [posed.commit _ _ _ same, same])
  case hallMillisecondLevel => exact stays (docked_hallMillisecond _ _ _ same)
  case dockFrameTaken => exact stays (docked_takeHead _ same)
  case stallTimerExpiry => exact stays (blind_dockState.escalateStall s)
  -- the charger, the sleep decisions and the queue
  case penCycleEnd => exact stays (calm.cycleEnd same)
  case burstTimerExpiry => exact stays same
  case probeStart => exact stays (keeps_ite same same)
  case probeEnd => exact stays (keeps_ite same same)
  case penRxEdge => exact stays same
  case captureOverflow => exact stays (keeps_ite same same)
  case progressWindowExpiry => exact stays (calm.progressExpired same)
  case sessionLimit => exact stays (calm.sessionLimit same)
  case dimTimerExpiry => exact stays (calm.dimExpired same)
  case sleepTimerExpiry => exact stays (calm.sleepExpired same)
  case gatherTimerExpiry => exact stays (keeps_ite (calm.gatherEnd same) same)
  case holdExpiry => exact stays (calm.holdExpired _ same)
  case flushTimerExpiry => exact stays (keeps_ite (stable.flushStage same) same)
  -- the other requests
  all_goals
    rw [exec_request _ rfl]
    exact stays (docked_runRequest _ _ (by simp) (by simp) (by simp) same)

/-- Settles O45: in every command the dock state machine runs at most once, but for a node 0 restart, whose
IDENTIFYING (R116) is left again by the HELLO that the same frame carries (R92). -/
theorem dockStateMovesAlongItsTable : Obligations.DockStateMovesAlongItsTable := by
  intro c s t hs e transaction reset cold warm
  obtain ⟨t', executed, moved⟩ := exec_moves c hs transaction reset cold warm
  cases executed.symm.trans e
  exact moved

end Sys2Proof.Machine
end

section
/-! PROOFS. Link errors (O37): the count in its window, and at the limit the change to FAULTED. -/

namespace Sys2Proof.Machine

theorem countsErrors_iff (d : DockState) :
    d.countsErrors = true ↔ d = .identifying ∨ d = .attached ∨ d = .detachRequested := by
  cases d <;> decide

/-- The DLC's block after a link failure: a counting state left for FAULTED (R106). -/
theorem changed_failed {d : Dlc} (counting : d.state.countsErrors = true) (p : Params) : (d.changed p .faulted).rest
    = ({ d with
          state := .faulted, errors := 0, errTimer := none, identifyMark := false
          helloTimer := if d.state = .identifying then none else d.helloTimer
          grantTimer := if d.state = .detachRequested then none else d.grantTimer } : Dlc).rest := by
  rcases (countsErrors_iff _).mp counting with state | state | state <;>
    simp [Dlc.changed, Dlc.leaveState, state, Dlc.enterState, Dlc.entryActions, Dlc.rest, DockState.countsErrors,
      DockState.inUse]

/-- A transition of a state that differs from another in its DLC alone, the dock state apart. -/
theorem Transition.of_onDlc {s t : State} {f : Dlc → Dlc} {d : Dlc} (h : Transition (s.onDlc f) d t)
    (state : (f s.dlc).state = s.dlc.state) : Transition s d t where
  time := h.time
  params := h.params
  link := h.link
  choices := h.choices
  pending := h.pending
  dock := h.dock
  senses := h.senses
  slate forced free := h.slate forced (state ▸ free)
  kept forced was := h.kept forced (state ▸ was)
  unknown attached other := h.unknown attached (state ▸ other)

/-- A change of dock state raises no fault but URGENT_LOSS and ROUTE_DISABLED. -/
theorem changeDock_faultEntry {k : FaultKind} (loss : k ≠ .urgentLoss) (disabled : k ≠ .routeDisabled)
    {new ev cause sdu} {s : State} (hu : ∀ P, Stable P → Keeps P sdu) :
    (changeDock new ev cause sdu s).hlc.faults[k.index] = s.hlc.faults[k.index] :=
  (faultStays_stable loss disabled s.hlc.faults[k.index]).changeDock_entered (fun _ _ h => h) hu (fun _ h => h) rfl

/-- A link error at LINK_ERR_LIMIT: the window closed, DOCK_LINK raised, then FAULTED (R84, R106). -/
theorem linkError_fails {s : State} (counting : s.dlc.state.countsErrors = true)
    (limit : s.params.linkErrLimit.toNat ≤ s.dlc.counted) : linkError s
    = changeDock .faulted (some .faulted) .linkErrors nothing
        (raiseFault .dockLink (s.onDlc fun d => { d with errors := 0, errTimer := none })) := by
  have reached : s.params.linkErrLimit.toNat ≤ (s.onDlc Dlc.countError).dlc.errors := by
    rwa [State.onDlc_dlc, Dlc.countError_counted]
  simp only [linkError, counting, if_true, if_pos reached]
  rw [State.onDlc, State.onDlc_dlc, Dlc.countError_counted]
  rfl

/-- What a link failure leaves. -/
theorem linkError_failed {s : State} (counting : s.dlc.state.countsErrors = true)
    (limit : s.params.linkErrLimit.toNat ≤ s.dlc.counted) :
    Transition s { s.dlc with
        state := .faulted, errors := 0, errTimer := none, identifyMark := false
        helloTimer := if s.dlc.state = .identifying then none else s.dlc.helloTimer
        grantTimer := if s.dlc.state = .detachRequested then none else s.dlc.grantTimer } (linkError s)
      ∧ (linkError s).hlc.faults[0] = ⟨true, min 255 (s.hlc.faults[0].count + 1)⟩ := by
  let closed := s.onDlc fun d => { d with errors := 0, errTimer := none }
  have raises := raiseFault_beyond .dockLink closed
  have failed := changeDock_transition (new := .faulted) (ev := some .faulted) (cause := .linkErrors) sdu_nothing
    (raiseFault .dockLink closed)
  rw [linkError_fails counting limit]
  refine ⟨?_, ?_⟩
  · refine (failed.from raises ?_).of_onDlc rfl
    rw [(dlc_calm closed.dlc).raiseFault .dockLink rfl]
    exact changed_failed (d := closed.dlc) counting _
  · have entry := changeDock_faultEntry (k := .dockLink) (by decide) (by decide) (new := .faulted)
      (ev := some .faulted) (cause := .linkErrors) (s := raiseFault .dockLink closed) sdu_nothing
    exact entry.trans (raised_raiseFault (k := .dockLink) (by decide) (by decide) closed).1.1

/-- Outside the counting states a link error is counted nowhere (R84). -/
theorem linkError_uncounted {s : State} (uncounted : ¬ s.dlc.state.countsErrors = true) : linkError s = s :=
  if_neg uncounted

theorem exec_errorWindowExpiry {s : State} {k : Nat} (runs : s.dlc.errTimer = some k) : exec .errorWindowExpiry s
    = .next (drivePins (s.onDlc fun d => { d with errors := 0, errTimer := none })) := by
  show done (if s.dlc.errTimer.isSome then _ else s) = _
  rw [runs, Option.isSome_some, if_pos rfl, done]

/-- Settles O37: a broken address character is a link error in HUNT, and the link error has an equation for each of its
three cases. -/
theorem linkErrorsAreCounted : Obligations.LinkErrorsAreCounted := by
  intro s data n counting
  have counts := countsErrors_iff s.dlc.state
  have present (h : counting) : s.dlc.state ≠ .absent := by rcases h with e | e | e <;> simp [e]
  refine ⟨fun h below => ?_, fun h limit => ?_, fun uncounted present => ?_, fun k runs => exec_errorWindowExpiry runs⟩
  · rw [exec_brokenAddress (present h), linkError_below (s := setRx .hunt s) (counts.mpr h) below, State.onDlc,
      Dlc.countError_counted]
    rfl
  · obtain ⟨failed, fault⟩ := linkError_failed (s := setRx .hunt s) (counts.mpr h) limit
    exact ⟨_, exec_brokenAddress (present h) data, failed.of_setRx.pins, fault⟩
  · rw [exec_brokenAddress present, linkError_uncounted (s := setRx .hunt s) (counts.not.mpr uncounted)]
    rfl

end Sys2Proof.Machine
end

section
/-! PROOFS. The transmitter (O38): what a transmission start chooses, what a completion frees, what DOCK_SEND queues. -/

namespace Sys2Proof.Machine

theorem exec_transmissionStart {s : State} (idle : s.dlc.sending = none) (present : s.dlc.state ≠ .absent) :
    exec .transmissionStart s = .next (drivePins (s.onDlc (Dlc.chooseFrame s.sdu.sleep.asleep))) := by
  show done (if mayTransmit s then _ else s) = _
  rw [if_pos (by simp [mayTransmit, idle, present]), done]

/-- The notice carries the sleep state of its moment (R91). -/
theorem boolByte_asleep (u : SleepState) : boolByte u.asleep = if u = .standby ∨ u = .waking then 1 else 0 := by
  cases u <;> decide

/-! ## The order of a transmission start (R88) -/

section

variable {b : Bool} {d : Dlc}

theorem chooseFrame_identify (owed : d.identifyMark = true) : d.chooseFrame b
    = { d with identifyMark := false, sending := some ⟨frameChars 0 1 [], false⟩ } := if_pos owed

theorem chooseFrame_quiesce (identify : d.identifyMark = false) {q : QuiesceSense} (owed : d.quiesceMark = some q) :
    d.chooseFrame b = { d with
      quiesceMark := none, sending := some ⟨frameChars 0 (if q = .quiesce then 2 else 3) [], false⟩ } := by
  have cls : q.cls = if q = .quiesce then 2 else 3 := by cases q <;> rfl
  rw [← cls]
  simp [Dlc.chooseFrame, identify, owed]

theorem chooseFrame_notice (identify : d.identifyMark = false) (quiesce : d.quiesceMark = none)
    (owed : d.noticeMark = true) : d.chooseFrame b
      = { d with noticeMark := false, sending := some ⟨frameChars 0 4 [boolByte b], false⟩ } := by
  simp [Dlc.chooseFrame, identify, quiesce, owed]

/-- The oldest waiting slot stands behind those in transmission alone. -/
theorem takeSlot_oldest {before : List TxSlot} (sending : ∀ y ∈ before, y.sending = true) {x : TxSlot}
    (waits : x.sending = false) (after : List TxSlot) : takeSlot (before ++ x :: after)
      = some (frameChars (x.node.setWidth 3) (x.cls.setWidth 4) x.payload,
          before ++ { x with sending := true } :: after) := by
  induction before with
  | nil => simp [takeSlot, waits]
  | cons y rest ih =>
    have chosen := ih fun z hz => sending z (List.mem_cons_of_mem _ hz)
    simp [takeSlot, sending y List.mem_cons_self, chosen]

theorem chooseFrame_slot (identify : d.identifyMark = false) (quiesce : d.quiesceMark = none)
    (notice : d.noticeMark = false) {before after : List TxSlot} {x : TxSlot} (slots : d.slots = before ++ x :: after)
    (sending : ∀ y ∈ before, y.sending = true) (waits : x.sending = false) : d.chooseFrame b = { d with
      slots := before ++ { x with sending := true } :: after
      sending := some ⟨frameChars (x.node.setWidth 3) (x.cls.setWidth 4) x.payload, true⟩ } := by
  simp [Dlc.chooseFrame, identify, quiesce, notice, slots, takeSlot_oldest sending waits]

theorem endTransmission_of_sending {x : Sending} (sending : d.sending = some x) : d.endTransmission = { d with
    sending := none, slots := if x.fromSlot then d.slots.filter (fun y => !y.sending) else d.slots } := by
  simp only [Dlc.endTransmission, sending]

end

/-! ## DOCK_SEND (R89) -/

theorem sendFits_of {node cls : Byte} {payload : List Byte} (low : 1 ≤ node.toNat) (high : node.toNat ≤ 7)
    (data : 1 ≤ cls.toNat) (cls15 : cls.toNat ≤ 15) (fits : payload.length ≤ 32) :
    sendFits node cls (natByte payload.length) payload = true := by
  have len : (natByte payload.length).toNat = payload.length := by simp [natByte]; omega
  simp [sendFits, low, high, data, cls15, len, fits, Config.framePayload]

theorem exec_dockSend_queues {s : State} (tag : Byte) {node cls len : Byte} {payload : List Byte}
    (good : sendFits node cls len payload = true) (used : s.dlc.state.inUse = true) (free : s.dlc.slots.length < 4) :
    exec (.dockSend tag node cls len payload) s = .next (answered 0xA0 tag .ok [] (s.onDlc fun d => { d with
      slots := d.slots ++ [⟨node, cls, payload, false⟩] })) := by
  have room : ¬ Config.transmitSlots ≤ s.dlc.slots.length := Nat.not_le.mpr free
  show done (sendDock tag node cls len payload s) = _
  simp [sendDock, good, used, room, done]
  rfl

/-- Settles O38: the order is that of `Dlc.chooseFrame`, one equation per choice. -/
theorem transmitterTakesItsTurn : Obligations.TransmitterTakesItsTurn := by
  intro s
  refine ⟨fun idle present => ?_, fun x sending => ?_,
    fun tag node cls payload low high data cls15 fits used free => ?_⟩
  · rw [exec_transmissionStart idle present, State.onDlc]
    refine ⟨fun owed => ?_, fun identify q owed => ?_, fun identify quiesce owed => ?_,
      fun identify quiesce notice before after x slots busy waits => ?_⟩
    · rw [chooseFrame_identify owed]
    · rw [chooseFrame_quiesce identify owed]
    · rw [chooseFrame_notice identify quiesce owed]
      rw [boolByte_asleep]
    · rw [chooseFrame_slot identify quiesce notice slots busy waits]
  · show done (s.onDlc Dlc.endTransmission) = _
    rw [done, State.onDlc, endTransmission_of_sending sending]
  · exact exec_dockSend_queues tag (sendFits_of low high data cls15 fits) (inUse_iff.mpr used) free

end Sys2Proof.Machine
end

section
/-! PROOFS. A sense loss (O40): ABSENT from every state past SENSED, with the record and the hand-on of its kind. -/

namespace Sys2Proof.Machine

/-! ## The record of a change of dock state (R102) -/

theorem leaveState_latchCount (d : Dlc) : d.leaveState.latchCount = d.latchCount := by
  unfold Dlc.leaveState
  split <;> rfl

theorem enterState_latchCount (new : DockState) (d : Dlc) : (Dlc.enterState new d).latchCount = d.latchCount := by
  cases new <;> rfl

/-- The record of a change but for an attach, which alone carries the identity. -/
theorem dockRecord_entered {ev : DockEvent} (plain : ev ≠ .attached) (new old : DockState) (cause : DockCause)
    (d : Dlc) : dockRecord ev old cause (Dlc.enterState new d.leaveState)
      = partRecord .dock ([ev.code, new.code, old.code, cause.code] ++ natBytes (dockPeriods ev d)) := by
  rw [dockRecord, if_neg plain, List.append_nil, Dlc.enterState_state, dockPeriods, enterState_latchCount,
    leaveState_latchCount, dockPeriods]

/-! ## The loss by the state that it finds (R113, R115) -/

/-- The event of a sense loss. -/
def lossEvent : DockState → DockEvent
  | .releasing => .detached
  | .attached | .detachRequested | .quiescing => .surpriseDetach
  | .absent | .sensed | .identifying | .faulted => .removed

/-- What a sense loss hands to the SDU. -/
def lossHandOn : DockState → State → State
  | .releasing => activity
  | .attached | .detachRequested | .quiescing => fun s => activity (wake .surpriseDetach s)
  | .absent | .sensed | .identifying | .faulted => nothing

theorem lossHandOn_stable (d : DockState) (P : State → Prop) (h : Stable P) : Keeps P (lossHandOn d) := by
  cases d
  case releasing => exact fun s => h.activity (s := s)
  case attached | detachRequested | quiescing => exact sdu_wakeActivity _ P h
  case absent | sensed | identifying | faulted => exact sdu_nothing P h

theorem lossHandOn_calm (d : DockState) (P : State → Prop) (h : Calm P) : Keeps P (lossHandOn d) := by
  cases d
  case releasing => exact fun s => h.activity (s := s)
  case attached | detachRequested | quiescing => exact calm_wakeActivity _ P h
  case absent | sensed | identifying | faulted => exact calm_nothing P h

theorem loseBase_eq {s : State} (absent : s.dlc.state ≠ .absent) (sensed : s.dlc.state ≠ .sensed) : loseBase s
    = changeDock .absent (some (lossEvent s.dlc.state)) .none (lossHandOn s.dlc.state) s := by
  unfold loseBase
  split <;> next state => simp_all [lossEvent, lossHandOn]

/-- The DLC's block after a change to ABSENT (R97, R101). -/
theorem changed_absent (d : Dlc) (p : Params) : (d.changed p .absent).rest = ({ d with
    state := .absent, errors := 0, errTimer := none, identifyMark := false, quiesceMark := none, slots := []
    sending := none, rx := .hunt, identity := Identity.absent
    helloTimer := if d.state = .identifying then none else d.helloTimer
    grantTimer := if d.state = .detachRequested then none else d.grantTimer
    quiesceTimer := if d.state = .quiescing then none else d.quiesceTimer
    window := if d.state = .releasing then none else d.window
    latchPhase := if d.state = .releasing then .off else d.latchPhase
    latchDrv := if d.state = .releasing then false else d.latchDrv
    latchDelay := if d.state = .releasing then none else d.latchDelay
    latchPeriod := if d.state = .releasing then none else d.latchPeriod
    latchOn := if d.state = .releasing then none else d.latchOn } : Dlc).rest := by
  cases state : d.state <;>
    simp [Dlc.changed, Dlc.leaveState, state, Dlc.enterState, Dlc.entryActions, Dlc.rest, Dlc.stopLatch,
      DockState.countsErrors, DockState.inUse]

/-- The record of a sense loss. -/
abbrev lossRecord (d : Dlc) : Record :=
  dockRecord (lossEvent d.state) d.state .none (Dlc.enterState .absent d.leaveState)

/-- From RELEASING the record carries the periods of the latch drive (R102, R112). -/
theorem lossRecord_releasing {d : Dlc} (releasing : d.state = .releasing) :
    lossRecord d = partRecord .dock ([8, 0, 6, 0xFF] ++ natBytes d.latchCount) := by
  rw [lossRecord, dockRecord_entered (by rw [releasing]; decide), releasing, dockPeriods, if_pos (.inr rfl)]
  rfl

theorem lossRecord_surprise {d : Dlc} (surprise : lossEvent d.state = .surpriseDetach) :
    lossRecord d = partRecord .dock [9, 0, d.state.code, 0xFF, 0, 0] := by
  rw [lossRecord, surprise, dockRecord_entered (by decide), dockPeriods, if_neg (by decide)]
  rfl

theorem lossRecord_removed {d : Dlc} (removed : lossEvent d.state = .removed) :
    lossRecord d = partRecord .dock [10, 0, d.state.code, 0xFF, 0, 0] := by
  rw [lossRecord, removed, dockRecord_entered (by decide), dockPeriods, if_neg (by decide)]
  rfl

theorem loseBase_firstPlaced {s : State} (absent : s.dlc.state ≠ .absent) (sensed : s.dlc.state ≠ .sensed) :
    firstPlaced (lossRecord s.dlc) s (loseBase s) := by
  rw [loseBase_eq absent sensed]
  exact firstPlaced_of_prefix fun room => changeDock_behind (lossHandOn_calm _) room

/-- The loss of a base in use or of one that is quiescing wakes (R113). -/
theorem loseBase_wakes {s : State} (surprise : lossEvent s.dlc.state = .surpriseDetach)
    (asleep : s.sdu.sleep.asleep = true) : (loseBase s).sdu.sleep = .waking := by
  have handOn : lossHandOn s.dlc.state = fun s => activity (wake .surpriseDetach s) := by
    revert surprise
    cases s.dlc.state <;> simp [lossEvent, lossHandOn]
  have known : s.dlc.state ≠ .absent ∧ s.dlc.state ≠ .sensed := by
    constructor <;> intro e <;> simp [e, lossEvent] at surprise
  rw [loseBase_eq known.1 known.2, handOn]
  exact changeDock_wakes asleep

/-- The accepted level of DOCK_SENSE_N is MISSING (R99). -/
def Dlc.missing (d : Dlc) : Dlc := { d with sense := false, senseTimer := none }

theorem exec_senseLoss {s : State} {n : Nat} (present : s.dlc.sense = true) (runs : s.dlc.senseTimer = some n) :
    exec .senseLoss s = .next (drivePins (loseBase (s.onDlc Dlc.missing))) := by
  show done (senseLost s) = _
  simp only [senseLost, present, runs, Option.isSome_some, Bool.and_self, if_true, done]
  rfl

/-- Settles O40: a sense loss past SENSED is one change to ABSENT, whose event and hand-on its old state chooses. -/
theorem senseLossEndsTheDock : Obligations.SenseLossEndsTheDock := by
  intro s n present runs absent sensed
  let lost := s.onDlc Dlc.missing
  have transition : Transition lost (lost.dlc.changed lost.params .absent) (loseBase lost) := by
    rw [loseBase_eq (s := lost) absent sensed]
    exact changeDock_transition (lossHandOn_stable _) lost
  have record : firstPlaced (lossRecord lost.dlc) s (loseBase lost) := loseBase_firstPlaced (s := lost) absent sensed
  refine ⟨_, exec_senseLoss present runs, ((transition.from (.refl _) (changed_absent _ _)).of_onDlc rfl).pins, ?_⟩
  have surprised (h : lossEvent s.dlc.state = .surpriseDetach) :
      firstPlaced (partRecord .dock [9, 0, s.dlc.state.code, 0xFF, 0, 0]) s (drivePins (loseBase lost))
        ∧ (s.sdu.sleep = .standby → (drivePins (loseBase lost)).sdu.sleep = .waking) :=
    ⟨lossRecord_surprise (d := lost.dlc) h ▸ record, fun standby => loseBase_wakes (s := lost) h (by
      show s.sdu.sleep.asleep = true
      rw [standby]; rfl)⟩
  split
  case h_1 releasing => exact lossRecord_releasing (d := lost.dlc) releasing ▸ record
  case h_2 state | h_3 state =>
    exact lossRecord_removed (d := lost.dlc) (congrArg lossEvent state : lossEvent lost.dlc.state = _) ▸ record
  case h_4 =>
    refine surprised ?_
    cases state : s.dlc.state <;> simp_all [lossEvent]

end Sys2Proof.Machine
end

section
/-! PROOFS. RELEASING and its latch drive (O44): the entry with the delay or the first period, the pulses, the
relock. -/

namespace Sys2Proof.Machine

/-! ## The latch drive's periods (R112) -/

/-- The on time of a period: the latch drive is active for all of it, or until the on timer's expiry. -/
abbrev Params.latchOnTimer (p : Params) : Timer :=
  let period := p.latchPeriod.toNat
  let on := min p.latchOn.toNat period
  if on < period then some on else none

/-- A period below the count's limit. -/
theorem startPeriod_below (p : Params) {d : Dlc} (below : d.latchCount < 500) : d.startPeriod p = { d with
    latchPhase := .pulsing, latchDrv := true, latchCount := d.latchCount + 1, latchPeriod := some p.latchPeriod.toNat
    latchOn := p.latchOnTimer } := by
  have count : min 500 (d.latchCount + 1) = d.latchCount + 1 := by omega
  rw [Dlc.startPeriod, count]

theorem exec_latchDelayExpiry {s : State} {n : Nat} (runs : s.dlc.latchDelay = some n) : exec .latchDelayExpiry s
    = .next (drivePins (s.onDlc fun d => Dlc.startPeriod s.params { d with latchDelay := none })) := by
  show done (if s.dlc.latchDelay.isSome then _ else s) = _
  rw [runs, Option.isSome_some, if_pos rfl, done]

theorem exec_latchPeriodExpiry {s : State} {n : Nat} (runs : s.dlc.latchPeriod = some n) : exec .latchPeriodExpiry s
    = .next (drivePins (if s.dlc.window = some 0 then s.onDlc fun d => { d with latchPeriod := none }
        else s.onDlc (Dlc.startPeriod s.params))) := by
  show done (if s.dlc.latchPeriod.isSome then _ else s) = _
  rw [runs, Option.isSome_some, if_pos rfl, done]

theorem exec_latchOnExpiry {s : State} {n : Nat} (runs : s.dlc.latchOn = some n) : exec .latchOnExpiry s
    = .next (drivePins (s.onDlc fun d => { d with latchDrv := false, latchOn := none })) := by
  show done (if s.dlc.latchOn.isSome then _ else s) = _
  rw [runs, Option.isSome_some, if_pos rfl, done]

/-! ## QUIESCING ends in RELEASING (R111) -/

/-- The DLC's block in RELEASING before its latch drive starts. -/
abbrev Dlc.freed (p : Params) (d : Dlc) : Dlc :=
  { d with
    state := .releasing, quiesceTimer := none, errors := 0, errTimer := none, identifyMark := false
    window := some p.releaseWindow.toNat }

/-- The DLC's block in RELEASING with the latch drive in its delay, or with LATCH_DELAY 0 in its first period. -/
abbrev Dlc.driven (p : Params) (d : Dlc) : Dlc :=
  if p.latchDelay = 0 then { d.freed p with
    latchPhase := .pulsing, latchCount := 1, latchDrv := true, latchPeriod := some p.latchPeriod.toNat
    latchOn := p.latchOnTimer }
  else { d.freed p with latchPhase := .delay, latchCount := 0, latchDelay := some p.latchDelay.toNat }

theorem startLatch_eq (p : Params) (d : Dlc) : d.startLatch p = if p.latchDelay = 0 then { d with
      latchPhase := .pulsing, latchCount := 1, latchDrv := true, latchPeriod := some p.latchPeriod.toNat
      latchOn := p.latchOnTimer }
    else { d with latchPhase := .delay, latchCount := 0, latchDelay := some p.latchDelay.toNat } := by
  have zero : p.latchDelay.toNat = 0 ↔ p.latchDelay = 0 := by simp [← BitVec.toNat_inj]
  unfold Dlc.startLatch
  simp only [zero, startPeriod_below p (d := { d with latchCount := 0 }) (by decide : 0 < 500)]

theorem changed_releasing {d : Dlc} (quiescing : d.state = .quiescing) (p : Params) :
    (d.changed p .releasing).rest = (d.driven p).rest := by
  have acts : d.changed p .releasing = { Dlc.startLatch p (Dlc.enterState .releasing d.leaveState) with
      window := some p.releaseWindow.toNat } := by
    rw [Dlc.changed, Dlc.entryActions, Dlc.enterState_state]
  rw [acts, startLatch_eq, Dlc.driven]
  split <;> simp [Dlc.leaveState, quiescing, Dlc.enterState, Dlc.rest, DockState.countsErrors, DockState.inUse]

theorem releaseBase_outcome {s : State} (quiescing : s.dlc.state = .quiescing) (cause : DockCause) :
    Transition s (s.dlc.driven s.params) (releaseBase cause s)
      ∧ firstPlaced (partRecord .dock [6, 6, 5, cause.code, 0, 0]) s (releaseBase cause s) := by
  have changes := changeDock_transition (new := .releasing) (ev := some .releasing) (cause := cause) sdu_nothing s
  have record : dockRecord .releasing s.dlc.state cause (Dlc.enterState .releasing s.dlc.leaveState)
      = partRecord .dock [6, 6, 5, cause.code, 0, 0] := by
    rw [dockRecord_entered (by decide), quiescing, dockPeriods, if_neg (by decide)]
    rfl
  exact ⟨changes.from (.refl s) (changed_releasing quiescing _),
    firstPlaced_of_prefix fun room => record ▸ changeDock_behind calm_nothing room⟩

theorem exec_quiesceTimerExpiry {s : State} {n : Nat} (runs : s.dlc.quiesceTimer = some n) :
    exec .quiesceTimerExpiry s = .next (drivePins (releaseBase .noQuiesce s)) := by
  show done (if s.dlc.quiesceTimer.isSome then _ else s) = _
  rw [runs, Option.isSome_some, if_pos rfl, done]

/-- A QUIESCED frame in QUIESCING (R92, R111). -/
theorem exec_quiesced {s : State} (quiescing : s.dlc.state = .quiescing) (hunts : s.dlc.rx = .hunt) :
    exec (.dockFrameArrival 0 2 false []) s = .next (drivePins (releaseBase .quiesced s)) := by
  have same : setRx .hunt s = s := by rw [setRx, State.onDlc, ← hunts]
  rw [arrival_managed (by decide) (by simp [quiescing]), same, management, if_neg Bool.false_ne_true, managementClass,
    if_neg fun hello => absurd hello.1 (by decide), if_pos ⟨rfl, quiescing⟩]

/-! ## RELEASING ends in a relock (R114) -/

/-- The DLC's block after a relock. -/
abbrev Dlc.relocked (d : Dlc) : Dlc :=
  { d with
    state := .attached, window := none, latchPhase := .off, latchDrv := false, latchDelay := none
    latchPeriod := none, latchOn := none, identifyMark := false
    quiesceMark := some .unquiesce }

theorem changed_relocked {d : Dlc} (releasing : d.state = .releasing) (p : Params) :
    (d.changed p .attached).rest = d.relocked.rest := by
  simp [Dlc.changed, Dlc.leaveState, Dlc.stopLatch, releasing, Dlc.enterState, Dlc.entryActions, Dlc.rest,
    DockState.countsErrors]

/-- Entry to ATTACHED out of RELEASING sets the notice mark (R91). -/
theorem enterState_notice_relocked {d : Dlc} (releasing : d.state = .releasing) :
    (Dlc.enterState .attached d.leaveState).noticeMark = true := by
  simp [Dlc.enterState, Dlc.leaveState, Dlc.stopLatch, releasing, DockState.inUse]

theorem relock_outcome {s : State} (releasing : s.dlc.state = .releasing) :
    let t := changeDock .attached (some .relocked) .none nothing s
    Transition s s.dlc.relocked t ∧ t.dlc.noticeMark = true
      ∧ firstPlaced (partRecord .dock ([7, 3, 6, 0xFF] ++ natBytes s.dlc.latchCount)) s t := by
  have changes := changeDock_transition (new := .attached) (ev := some .relocked) (cause := .none) sdu_nothing s
  have record : dockRecord .relocked s.dlc.state .none (Dlc.enterState .attached s.dlc.leaveState)
      = partRecord .dock ([7, 3, 6, 0xFF] ++ natBytes s.dlc.latchCount) := by
    rw [dockRecord_entered (by decide), releasing, dockPeriods, if_pos (.inl rfl)]
    rfl
  refine ⟨changes.from (.refl s) (changed_relocked releasing _), ?_,
    firstPlaced_of_prefix fun room => record ▸ changeDock_behind calm_nothing room⟩
  exact noticeMark_stable.changeDock_entered (fun _ _ h => h) sdu_nothing
    (fun t ht => (Dlc.entryActions_noticeMark _ _ t.dlc).trans ht) (enterState_notice_relocked releasing)

theorem exec_releaseWindowExpiry {s : State} {n : Nat} (runs : s.dlc.window = some n) : exec .releaseWindowExpiry s
    = .next (drivePins (changeDock .attached (some .relocked) .none nothing s)) := by
  show done (if s.dlc.window.isSome then _ else s) = _
  rw [runs, Option.isSome_some, if_pos rfl, done]

/-- Settles O44: the entry to RELEASING and the relock are one change of dock state each, the pulses between them writes
of the DLC's block alone. -/
theorem releaseAndRelock : Obligations.ReleaseAndRelock := by
  intro s n period on freed driven
  refine ⟨fun quiescing runs => ⟨?_, fun hunts => ?_⟩, fun releasing runs => ?_, fun runs below => ?_,
    fun runs remains below => ?_, fun runs closes => ?_, fun runs => exec_latchOnExpiry runs⟩
  · obtain ⟨transition, record⟩ := releaseBase_outcome quiescing .noQuiesce
    exact ⟨_, exec_quiesceTimerExpiry runs, transition.pins, record⟩
  · obtain ⟨transition, record⟩ := releaseBase_outcome quiescing .quiesced
    exact ⟨_, exec_quiesced quiescing hunts, transition.pins, record⟩
  · obtain ⟨transition, notice, record⟩ := relock_outcome releasing
    exact ⟨_, exec_releaseWindowExpiry runs, transition.pins, notice, record⟩
  · rw [exec_latchDelayExpiry runs, State.onDlc,
      startPeriod_below s.params (d := { s.dlc with latchDelay := none }) below]
  · rw [exec_latchPeriodExpiry runs, if_neg remains, State.onDlc, startPeriod_below s.params below]
  · rw [exec_latchPeriodExpiry runs, if_pos closes]
    rfl

end Sys2Proof.Machine
end

section
/-! PROOFS. The line (O35): a character's bits, the frame from its characters one by one, the bits that DTX carries. -/

namespace Sys2Proof.Machine

/-! ## The eleven bits of a character (R79) -/

theorem lineBits_data (data : Byte) {n : Nat} : (lineBits data).getLsbD (n + 1) = data.getLsbD n := by
  simp only [lineBits, BitVec.getLsbD_append]
  rw [if_neg (by omega), Nat.add_sub_cancel]

theorem charBits_line (data : Byte) (mark stop : Bool) {n : Nat} (inLine : n < 9) :
    (charBits data mark stop).getLsbD n = (lineBits data).getLsbD n := by
  simp only [charBits, BitVec.getLsbD_append]
  rw [if_pos (by omega), if_pos inLine]

theorem charBits_mark (data : Byte) (mark stop : Bool) : (charBits data mark stop).getLsbD 9 = mark := by
  simp only [charBits, BitVec.getLsbD_append]
  simp

theorem charBits_stop (data : Byte) (mark stop : Bool) : (charBits data mark stop).getLsbD 10 = stop := by
  simp only [charBits, BitVec.getLsbD_append]
  simp

/-! ## The address byte (R197) -/

theorem addressNode_addressByte (node : BitVec 3) (cls : BitVec 4) (restart : Bool) :
    addressNode (addressByte node cls restart) = node := by
  revert node cls restart; decide +kernel

theorem addressClass_addressByte (node : BitVec 3) (cls : BitVec 4) (restart : Bool) :
    addressClass (addressByte node cls restart) = cls := by
  revert node cls restart; decide +kernel

theorem addressRestart_addressByte (node : BitVec 3) (cls : BitVec 4) (restart : Bool) :
    addressRestart (addressByte node cls restart) = restart := by
  revert node cls restart; decide +kernel

/-! ## Reception, character by character (R81) -/

/-- A receiver within a frame, with the pins driven, from a state that hunts. -/
abbrev receiving (r : Receiver) (s : State) : State := drivePins (setRx r s)

/-- A good character on the line. -/
theorem exec_dockCharacter {s : State} (present : s.dlc.state ≠ .absent) (data : Byte) :
    exec (.dockCharacter (lineBits data) false true) s = .next (drivePins (dataCharacter data s)) := by
  show done (if (lineBits data).getLsbD 0 then s else receive (lineData (lineBits data)) false true s) = _
  rw [lineBits_start, lineData_lineBits, receive, if_neg present]
  rfl

/-- The first character of a frame, from HUNT. -/
theorem exec_addressCharacter {s : State} (present : s.dlc.state ≠ .absent) (hunts : s.dlc.rx = .hunt) (data : Byte) :
    exec (.dockCharacter (lineBits data) true true) s = .next (receiving (.length data (crc8Byte 0 data)) s) := by
  show done (if (lineBits data).getLsbD 0 then s else receive (lineData (lineBits data)) true true s) = _
  rw [lineBits_start, lineData_lineBits, receive, if_neg present]
  simp [hunts, Receiver.inFrame, done]

/-- A run whose first command is known. -/
theorem execAll_next {c : Instr} {s t : State} (first : exec c s = .next t) (rest : List Instr) :
    execAll (c :: rest) s = execAll rest t := by
  rw [execAll, first]

section

variable {s : State} (present : s.dlc.state ≠ .absent)
include present

/-- A character that leads from one receiver to another. -/
theorem execAll_character {r r' : Receiver} {data : Byte} {rest : List Instr}
    (leads : dataCharacter data (receiving r s) = setRx r' (receiving r s)) :
    execAll (.dockCharacter (lineBits data) false true :: rest) (receiving r s) = execAll rest (receiving r' s) := by
  rw [execAll_next (exec_dockCharacter (s := receiving r s) present data), leads]
  rfl

/-- The payload characters of a frame, one after another. -/
theorem execAll_payload (addr : Byte) (payload : List Byte) (some : payload ≠ []) (got : List Byte) (crc : Byte)
    (rest : List Instr) :
    execAll (payload.map (fun b => .dockCharacter (lineBits b) false true) ++ rest)
        (receiving (.payload addr payload.length got crc) s)
      = execAll rest (receiving (.check addr (got ++ payload) (payload.foldl crc8Byte crc)) s) := by
  induction payload generalizing got crc with
  | nil => exact absurd rfl some
  | cons b more ih =>
    rw [List.map_cons, List.cons_append]
    by_cases last : more = []
    · subst last
      exact execAll_character present rfl
    · have due : ¬ (b :: more).length ≤ 1 := by
        have := List.length_pos_iff.mpr last
        simp only [List.length_cons]; omega
      have leads : dataCharacter b (receiving (.payload addr (b :: more).length got crc) s)
          = setRx (.payload addr more.length (got ++ [b]) (crc8Byte crc b))
              (receiving (.payload addr (b :: more).length got crc) s) := if_neg due
      rw [execAll_character present leads, ih last, List.append_assoc]
      rfl

/-- The length character and the payload behind it. -/
theorem execAll_body (addr : Byte) {payload : List Byte} (fits : payload.length ≤ 32) (crc : Byte) (rest : List Instr) :
    execAll ((natByte payload.length :: payload).map (fun b => .dockCharacter (lineBits b) false true) ++ rest)
        (receiving (.length addr crc) s)
      = execAll rest (receiving (.check addr payload ((natByte payload.length :: payload).foldl crc8Byte crc)) s) := by
  have length : (natByte payload.length).toNat = payload.length := by simp [natByte]; omega
  have low : ¬ 32 < (natByte payload.length).toNat := by omega
  rw [List.map_cons, List.cons_append]
  by_cases none : payload = []
  · subst none
    exact execAll_character present rfl
  · have some : natByte payload.length ≠ 0 := fun zero => none (by
      rw [zero] at length
      exact List.length_eq_zero_iff.mp length.symm)
    have leads : dataCharacter (natByte payload.length) (receiving (.length addr crc) s)
        = setRx (.payload addr payload.length [] (crc8Byte crc (natByte payload.length)))
            (receiving (.length addr crc) s) := by
      show (if 32 < (natByte payload.length).toNat then _ else if natByte payload.length = 0 then _ else _) = _
      rw [if_neg low, if_neg some, length]
    rw [execAll_character present leads, execAll_payload present addr payload none]
    rfl

/-- The check character makes the frame arrive. -/
theorem exec_checkCharacter (node : BitVec 3) (cls : BitVec 4) (restart : Bool) (payload : List Byte) (crc : Byte) :
    exec (.dockCharacter (lineBits crc) false true) (receiving (.check (addressByte node cls restart) payload crc) s)
      = .next (drivePins (frameArrives node cls restart payload (setRx .hunt (drivePins s)))) := by
  rw [exec_dockCharacter (s := receiving (.check (addressByte node cls restart) payload crc) s) present]
  show Host.Outcome.next (drivePins (if crc = crc then _ else _)) = _
  rw [if_pos rfl, addressNode_addressByte, addressClass_addressByte, addressRestart_addressByte]
  rfl

theorem execAll_frame (hunts : s.dlc.rx = .hunt) (node : BitVec 3) (cls : BitVec 4) (restart : Bool)
    {payload : List Byte} (fits : payload.length ≤ 32) :
    let covered := [addressByte node cls restart, natByte payload.length] ++ payload
    execAll (.dockCharacter (lineBits (addressByte node cls restart)) true true ::
        (natByte payload.length :: payload ++ [crc8 covered]).map
          (fun b => .dockCharacter (lineBits b) false true)) s
      = .next (drivePins (frameArrives node cls restart payload (setRx .hunt (drivePins s)))) := by
  intro covered
  rw [execAll_next (exec_addressCharacter present hunts _) _, List.map_append, execAll_body present _ fits]
  exact execAll_next (exec_checkCharacter present node cls restart payload (crc8 covered)) []

end

/-! ## What DTX carries (R79) -/

theorem dtx_idle {d : Dlc} (idle : d.sending = none) (n : Nat) : d.dtx n = true := by
  simp [Dlc.dtx, idle]

/-- Bit time `11 j + n` is the `n`th of the `j`th character. -/
theorem dtx_character {d : Dlc} {x : Sending} (sending : d.sending = some x) {j n : Nat} {c : DockChar}
    (character : x.chars[j]? = some c) (inside : n < 11) :
    d.dtx (11 * j + n) = (charBits c.data c.mark true).getLsbD n := by
  have quotient : (11 * j + n) / 11 = j := by omega
  have remainder : (11 * j + n) % 11 = n := by omega
  simp [Dlc.dtx, sending, quotient, remainder, character]

theorem dtx_behind {d : Dlc} {x : Sending} (sending : d.sending = some x) {n : Nat} (behind : 11 * x.chars.length ≤ n) :
    d.dtx n = true := by
  have none : x.chars[n / 11]? = none := List.getElem?_eq_none (by omega)
  simp [Dlc.dtx, sending, none]

/-- Settles O35: within a frame nothing but the receiver moves, so that its characters lead by induction along the
payload to the check character, behind which the frame arrives. -/
theorem charactersMakeTheFrame : Obligations.CharactersMakeTheFrame := by
  refine ⟨fun data mark stop => ⟨charBits_start data mark stop, fun n inside => ?_, charBits_mark data mark stop,
      charBits_stop data mark stop, fun n inside => (charBits_line data mark stop inside).symm⟩,
    fun s node cls restart payload fits hunts present => ⟨_, execAll_frame present hunts node cls restart fits, ?_⟩,
    fun d n => ⟨fun idle => dtx_idle idle n, fun x sending => ⟨fun j c character inside => ?_, dtx_behind sending⟩⟩⟩
  · rw [charBits_line data mark stop (by omega), lineBits_data]
  · exact exec_dockFrameArrival fits node cls restart (drivePins s)
  · exact dtx_character sending character inside

end Sys2Proof.Machine
end

section
/-! PROOFS. HOST_STATE (O52), the rules: what a record placed in STANDBY may tell the SDU, and what the TCL's and the
PCC's reading of a sleep state change carry over. -/

namespace Sys2Proof.Machine

/-! ## A record placed in STANDBY (R154, R167, R189) -/

/-- A lost record's raise has woken the SDU: URGENT_LOSS wakes, and the lane is full. -/
abbrev woken (s : State) : Prop :=
  s.sdu.sleep = .waking ∧ s.params.severity .urgentLoss = .wake ∧ laneFull s

/-- The SDU's block but for the sleep state and the gather. -/
def Sdu.beside (u : Sdu) : Sdu := { u with sleep := .standby, wakeList := [], gatherTimer := none }

/-- The SDU's block stands as `u` and the PCC's is as `C` says, unless a lost record has woken the SDU. -/
abbrev dozes (u : Sdu) (C : Pcc → Prop) (s : State) : Prop :=
  (s.sdu = u ∧ C s.pcc) ∨ (woken s ∧ s.sdu.beside = u.beside)

theorem severity_stable (k : FaultKind) (v : Severity) : Stable fun s => s.params.severity k = v :=
  blind_params.stable fun p => p.severity k = v

theorem woken_place : PlacerHolds woken place := fun r _ ⟨waking, wakes, full⟩ =>
  ⟨waking_calm.place r waking, (severity_stable _ _).place r wakes, laneFull_stable.place r full⟩

/-- A wake reason writes, of the SDU, the sleep state and the gather alone. -/
theorem wakeWith_beside {b : Sdu} {pl : Placer} (hp : PlacerHolds (fun s => s.sdu.beside = b) pl) (k : WakeKind) :
    Keeps (fun s => s.sdu.beside = b) (wakeWith pl k) := by
  have atOnce : Keeps (fun s => s.sdu.beside = b) (gatherAtOnce pl) := by
    intro s hs
    unfold gatherAtOnce
    split
    · exact hp _ (s := s.onSdu fun u => { u with wakeList := [], gatherTimer := none }) hs
    · exact hs
  have allowance := penAllowance_keeps hp fun _ _ h => h
  intro s hs
  unfold wakeWith
  split
  · have starts : (gatherStart k (s.onSdu fun u => { u with sleep := .waking })).sdu.beside = b := hs
    simp only [sleepHandOn_waking]
    split
    · exact allowance (atOnce starts)
    · exact atOnce (allowance starts)
  · split
    · split
      · exact hs
      · exact hs
    · exact atOnce (s := gatherStart k s) hs
  all_goals exact hs

theorem beside_lossKept (b : Sdu) : LossKept fun s => s.sdu.beside = b where
  enter _ _ _ _ h := h
  lose _ h := h
  loss _ h := h
  woken hp := wakeWith_beside hp .fault

/-- The raise's wake in STANDBY, within which a lost record raises nothing further. -/
theorem wakeQuiet_waking (k : WakeKind) {s : State} (standby : s.sdu.sleep = .standby) :
    (wakeWith placeQuiet k s).sdu.sleep = .waking := by
  have h := waking_calm
  simp only [wakeWith, standby, sleepHandOn_waking]
  split
  · exact penAllowance_keeps h.placeQuiet h.pcc (h.gatherAtOnce h.placeQuiet (s := gatherStart k (s.onSdu _)) rfl)
  · exact h.gatherAtOnce h.placeQuiet (penAllowance_keeps h.placeQuiet h.pcc (s := gatherStart k (s.onSdu _)) rfl)

/-- The raise of URGENT_LOSS over a full lane in STANDBY. -/
theorem raiseUrgentLoss_dozes {u : Sdu} (standby : u.sleep = .standby) {C : Pcc → Prop} {s : State} (sdu : s.sdu = u)
    (pcc : C s.pcc) (full : laneFull s) : dozes u C (raiseUrgentLoss s) := by
  have noted : dozes u C (noteFault .urgentLoss s) := .inl ⟨sdu, pcc⟩
  have silent (r : Record) : placeSilent r (noteFault .urgentLoss s) = noteFault .urgentLoss s :=
    if_neg fun room => absurd (of_decide_eq_true room) (Nat.not_lt.mpr full)
  simp only [raiseUrgentLoss, raiseWith, silent]
  split
  · exact noted
  · split
    · exact noted
    · exact noted
    · next wakes =>
      have severity := severity_stable .urgentLoss .wake
      refine .inr ⟨⟨wakeQuiet_waking .fault (s := noteFault .urgentLoss s) (sdu ▸ standby), ?_, ?_⟩, ?_⟩
      · exact severity.wakeWith severity.placeQuiet .fault (s := noteFault .urgentLoss s) wakes
      · exact laneFull_stable.wakeWith laneFull_stable.placeQuiet .fault (s := noteFault .urgentLoss s) full
      · exact wakeWith_beside (beside_lossKept _).placeQuiet .fault (s := noteFault .urgentLoss s)
          (congrArg Sdu.beside sdu)

theorem dozes_place {u : Sdu} (standby : u.sleep = .standby) (C : Pcc → Prop) : PlacerHolds (dozes u C) place := by
  rintro r s (⟨sdu, pcc⟩ | ⟨w, beside⟩)
  · unfold place placeWith loseUrgentWith
    split
    · exact .inl ⟨sdu, pcc⟩
    · next full =>
      split
      · have full : laneFull s := by simpa [urgentRoom, Config.urgentRecords] using full
        exact raiseUrgentLoss_dozes (s := countUrgentLoss s) standby sdu pcc full
      · exact .inl ⟨sdu, pcc⟩
  · exact .inr ⟨woken_place r w, (beside_lossKept _).place r beside⟩

theorem dozes_reread (u : Sdu) (C : Pcc → Prop) : Reread (dozes u C) where
  forward r s room h := h.imp_right fun ⟨⟨w, l, f⟩, beside⟩ => ⟨⟨w, l, laneFull_stable.enter _ r s room f⟩, beside⟩
  tcl _ _ _ h := h
  act _ _ h := h
  drop _ h := h

theorem dozes_beside {u : Sdu} {C : Pcc → Prop} {s : State} (h : dozes u C s) : s.sdu.beside = u.beside :=
  h.elim (fun h => congrArg Sdu.beside h.1) And.right

theorem dozes_sleep {u : Sdu} (standby : u.sleep = .standby) {C : Pcc → Prop} {s : State} (h : dozes u C s) :
    s.sdu.sleep = .standby ∨ woken s :=
  h.imp (fun ⟨sdu, _⟩ => sdu ▸ standby) And.left

theorem dozes_pcc {u : Sdu} {C : Pcc → Prop} {s : State} (h : dozes u C s) (standby : s.sdu.sleep = .standby) :
    C s.pcc :=
  (h.resolve_right fun h => by simp [h.1.1] at standby).2

/-! ## Allowance in STANDBY (R129, R130) -/

/-- A charge that STANDBY pauses: the level, where it is known, is at KEEP_LEVEL or above. -/
abbrev Pcc.pausing (q : Pcc) : Prop := q.state = .charging ∧ ∀ l, q.level = some l → q.active.keep ≤ l

theorem not_allowed_standby {s : State} (standby : s.sdu.sleep = .standby) (pausing : s.pcc.pausing) :
    allowed s = false := by
  have high := pausing.2
  simp only [allowed, standby, Bool.and_eq_false_iff]
  right
  cases level : s.pcc.level with
  | none => simp
  | some l => simpa using high l level

/-- Allowance in STANDBY pauses such a charge, unless a lost record wakes the SDU. -/
theorem penAllowance_dozes {u : Sdu} (standby : u.sleep = .standby) {q : Pcc} {s : State} (h : dozes u (· = q) s) :
    dozes u (fun p => q.pausing → p.state = .paused) (penAllowance place s) := by
  have holds := dozes_place standby fun p => q.pausing → p.state = .paused
  by_cases pausing : q.pausing
  · rcases h with ⟨sdu, rfl⟩ | w
    · have refused := not_allowed_standby (sdu ▸ standby) pausing
      simp only [penAllowance, pausing.1, refused, Bool.false_eq_true, if_false]
      exact holds _ (.inl ⟨sdu, fun _ => rfl⟩)
    · have kept := penAllowance_keeps (P := dozes u fun _ => False) (dozes_place standby _)
        (fun _ _ h => .inr (h.resolve_left fun h => h.2)) (.inr w)
      exact .inr (kept.resolve_left fun h => h.2)
  · exact penAllowance_keeps holds (fun _ _ h => h.imp_left fun h => ⟨h.1, fun p => absurd p pausing⟩)
      (h.imp_left fun h => ⟨h.1, fun p => absurd p pausing⟩)

/-! ## The reading of a sleep state change (R151, R152) -/

/-- The TCL's and the PCC's reading of a sleep state change, in the part's order. -/
def readSleep (old new : SleepState) (s : State) : State :=
  if s.choices.penBeforeTcl then recomputeOn place old new (allowanceOn place old new s)
  else allowanceOn place old new (recomputeOn place old new s)

theorem sleepHandOn_eq (old new : SleepState) (s : State) :
    sleepHandOn place old new s = noticeOn old new (suppressOn old new (readSleep old new s)) := rfl

theorem recomputeOn_keeps {P : State → Prop} (h : Keeps P (recompute .sleep)) (old new : SleepState) :
    Keeps P (recomputeOn place old new) := by
  intro s hs
  unfold recomputeOn
  split
  · exact hs
  · exact h hs

theorem readSleep_keeps {P : State → Prop} (h : Handed P) (old new : SleepState) : Keeps P (readSleep old new) := by
  have recomputes := recomputeOn_keeps (h.recompute .sleep) old new
  have allows : Keeps P (Machine.allowanceOn place old new) := by
    intro s hs
    unfold allowanceOn
    split
    · exact h.allowance hs
    · exact hs
  intro s hs
  unfold readSleep
  split
  · exact recomputes (allows hs)
  · exact allows (recomputes hs)

/-- A sleep state change from or to an asleep state leads where the PCC's reading of it leads. -/
theorem readSleep_leads {P Q : State → Prop} (hP : Keeps P (recompute .sleep)) (hQ : Keeps Q (recompute .sleep))
    (allows : ∀ ⦃s⦄, P s → Q (penAllowance place s)) {old new : SleepState} (asleep : (old.asleep || new.asleep) = true)
    {s : State} (hs : P s) : Q (readSleep old new s) := by
  have reads (t : State) : allowanceOn place old new t = penAllowance place t := if_pos asleep
  unfold readSleep
  simp only [reads]
  split
  · exact recomputeOn_keeps hQ old new (allows hs)
  · exact allows (recomputeOn_keeps hP old new hs)

/-- The RQU but for the URGENT lane. -/
def Rqu.beside (q : Rqu) : Rqu := { q with urgent := [], urgentGap := 0 }

theorem rquBeside_handed (q : Rqu) : Handed fun s => s.rqu.beside = q :=
  Calm.handed ⟨fun _ _ _ _ h => h, fun _ h => h, fun _ _ h => h, fun _ _ h => h, fun _ _ _ h => h⟩
    ⟨fun _ _ _ h => h, fun _ _ _ h => h, fun _ _ h => h, fun _ h => h⟩ fun _ _ h => h

theorem readSleep_rqu (old new : SleepState) (s : State) : (readSleep old new s).rqu.beside = s.rqu.beside :=
  readSleep_keeps (rquBeside_handed _) old new rfl

theorem readSleep_params (old new : SleepState) (s : State) : (readSleep old new s).params = s.params :=
  readSleep_keeps ((blind_params.stable (· = s.params)).handed fun _ _ h => h) old new rfl

theorem readSleep_dockState (old new : SleepState) (s : State) : (readSleep old new s).dlc.state = s.dlc.state :=
  readSleep_keeps ((docked_stable s.dlc.state).handed fun _ _ h => h) old new rfl

/-- A change to STANDBY: the SDU stays asleep and a charge is paused, unless a lost record wakes it. -/
theorem readSleep_standby {u : Sdu} (standby : u.sleep = .standby) (old : SleepState) {s : State} (sdu : s.sdu = u) :
    dozes u (fun p => s.pcc.pausing → p.state = .paused) (readSleep old .standby s) :=
  readSleep_leads (P := dozes u (· = s.pcc)) ((dozes_reread u _).recompute (dozes_place standby _) .sleep)
    ((dozes_reread u _).recompute (dozes_place standby _) .sleep) (fun _ => penAllowance_dozes standby)
    (Bool.or_true _) (.inl ⟨sdu, rfl⟩)

/-- A change to an awake state leaves the SDU's block as it is. -/
theorem readSleep_awake {old new : SleepState} {s : State} (awake : s.sdu.sleep.asleep = false) :
    (readSleep old new s).sdu = s.sdu :=
  sdu_of_awake awake (readSleep_keeps (sduIs_handed s.sdu) old new (.inl rfl))

/-- The notice that a change to STANDBY owes an attached base, and one to ACTIVE from an asleep state (R91). -/
theorem noticeOn_owes {old new : SleepState} {s : State} (used : s.dlc.state.inUse = true)
    (owes : new = .standby ∨ (new = .active ∧ old.asleep = true)) : (noticeOn old new s).dlc.noticeMark = true := by
  have owed : (s.dlc.state.inUse && (new = .standby || (new = .active && old.asleep))) = true := by
    rcases owes with rfl | ⟨rfl, asleep⟩
    · simp [used]
    · simp [used, asleep]
  rw [noticeOn, if_pos owed]
  rfl

theorem noticeOn_beside (old new : SleepState) (s : State) :
    ∃ n, noticeOn old new s = s.onDlc fun d => { d with noticeMark := n } := by
  unfold noticeOn
  split
  · exact ⟨true, rfl⟩
  · exact ⟨s.dlc.noticeMark, rfl⟩

end Sys2Proof.Machine
end

section
/-! PROOFS. HOST_STATE (O52), the two requests in every sleep state. -/

namespace Sys2Proof.Machine

theorem Beyond.respond {s t : State} (b : Beyond s t) (ty tag : Byte) (status : Status) (payload : List Byte) :
    Beyond (respond ty tag status payload s) (respond ty tag status payload t) where
  time := b.time
  params := b.params
  link := by
    have link := b.link
    simp only [Hlc.link, Prod.mk.injEq] at link
    obtain ⟨-, interval, miso, frozen, transfer⟩ := link
    simp only [Hlc.link, Machine.respond, State.onHlc_hlc, interval, miso, frozen, transfer]
  pse := b.pse
  dock := b.dock
  choices := b.choices
  pending := b.pending

/-! ## STANDBY from an awake state (R149 to R152, R172) -/

/-- The SDU's block as HOST_STATE STANDBY puts it. -/
def Sdu.inStandby (u : Sdu) : Sdu :=
  { u with sleep := .standby, advised := .none, dimTimer := none, sleepTimer := none, sleepMark := false }

/-- The RQU's block with the stage flushed once and suppression begun (R172). -/
def Rqu.suppressing (q : Rqu) : Rqu :=
  { q with
    bulk := q.bulk ++ q.stage.take (96 - q.bulk.length), stage := q.stage.drop (96 - q.bulk.length)
    suppressed := true, flushTimer := none }

theorem Rqu.suppressing_eq (q : Rqu) : q.suppressing = { q with
    bulk := q.bulk ++ q.stage.take (min q.stage.length (96 - q.bulk.length))
    stage := q.stage.drop (min q.stage.length (96 - q.bulk.length)), suppressed := true, flushTimer := none } := by
  rcases Nat.le_total q.stage.length (96 - q.bulk.length) with fits | fits
  · rw [Rqu.suppressing, List.take_of_length_le fits, List.drop_of_length_le fits, Nat.min_eq_left fits,
      List.take_length, List.drop_length]
  · rw [Rqu.suppressing, Nat.min_eq_right fits]

theorem hostStandby_awake {s : State} (awake : s.sdu.sleep.asleep = false) : hostStandby s
    = noticeOn s.sdu.sleep .standby
        ((readSleep s.sdu.sleep .standby (s.onSdu Sdu.inStandby)).onRqu Rqu.suppressing) := by
  cases sleep : s.sdu.sleep
  case standby | waking => simp [sleep, SleepState.asleep] at awake
  all_goals
    simp only [hostStandby, sleep, changeSleep, sleepHandOn_eq, idleStop, State.onSdu_sdu]
    rfl

/-- What STANDBY from an awake state leaves. -/
theorem hostStandby_rests {s : State} (awake : s.sdu.sleep.asleep = false) :
    dozes s.sdu.inStandby (fun p => s.pcc.pausing → p.state = .paused) (hostStandby s)
      ∧ (hostStandby s).rqu.beside = s.rqu.suppressing.beside
      ∧ (s.dlc.state.inUse = true → (hostStandby s).dlc.noticeMark = true) := by
  have read := readSleep_standby (u := s.sdu.inStandby) rfl s.sdu.sleep (s := s.onSdu Sdu.inStandby) rfl
  have rqu := readSleep_rqu s.sdu.sleep .standby (s.onSdu Sdu.inStandby)
  have dock := readSleep_dockState s.sdu.sleep .standby (s.onSdu Sdu.inStandby)
  rw [hostStandby_awake awake]
  refine ⟨?_, ?_, fun used => noticeOn_owes (by rw [← used]; exact congrArg DockState.inUse dock) (.inl rfl)⟩
  all_goals
    obtain ⟨n, e⟩ := noticeOn_beside s.sdu.sleep .standby
      ((readSleep s.sdu.sleep .standby (s.onSdu Sdu.inStandby)).onRqu Rqu.suppressing)
    rw [e]
  · exact read
  · exact congrArg Rqu.suppressing rqu

/-! ## STANDBY from WAKING -/

/-- The SDU's block as HOST_STATE STANDBY puts it in WAKING, the gather ended. -/
def Sdu.ungathered (u : Sdu) : Sdu := { u.inStandby with advised := u.advised, gatherTimer := none, wakeList := [] }

theorem hostStandby_waking {s : State} (waking : s.sdu.sleep = .waking) :
    hostStandby s = noticeOn .waking .standby (readSleep .waking .standby (s.onSdu Sdu.ungathered)) := by
  have unsuppressed (t : State) : suppressOn .waking .standby t = t := rfl
  simp only [hostStandby, waking, changeSleep, sleepHandOn_eq, idleStop, State.onSdu_sdu, unsuppressed]
  rfl

theorem hostStandby_ungathers {s : State} (waking : s.sdu.sleep = .waking) :
    dozes s.sdu.ungathered (fun _ => True) (hostStandby s) ∧ (hostStandby s).rqu.beside = s.rqu.beside := by
  have read := readSleep_standby (u := s.sdu.ungathered) rfl .waking (s := s.onSdu Sdu.ungathered) rfl
  have rqu := readSleep_rqu .waking .standby (s.onSdu Sdu.ungathered)
  obtain ⟨n, e⟩ := noticeOn_beside .waking .standby (readSleep .waking .standby (s.onSdu Sdu.ungathered))
  rw [hostStandby_waking waking, e]
  exact ⟨read.imp_left fun h => ⟨h.1, trivial⟩, rqu⟩

/-! ## RUNNING (R142, R149, R150, R152, R172) -/

/-- The SDU's block as HOST_STATE RUNNING puts it in an asleep state. -/
def Sdu.running (p : Params) (u : Sdu) : Sdu :=
  { u.restarted p with sleep := .active, advised := .none, gatherTimer := none, wakeList := [] }

/-- The RQU's block with suppression ended: a stage that holds records has its flush timer restarted (R172). -/
def Rqu.unsuppressing (p : Params) (q : Rqu) : Rqu :=
  { q with
    suppressed := false, flushTimer := if q.stage.isEmpty then q.flushTimer else some p.flushTime.toNat }

theorem hostRunning_asleep {s : State} (asleep : s.sdu.sleep.asleep = true) :
    let read := readSleep s.sdu.sleep .active (s.onSdu (Sdu.running s.params))
    hostRunning s = noticeOn s.sdu.sleep .active (read.onRqu (Rqu.unsuppressing read.params)) := by
  cases sleep : s.sdu.sleep
  case active | drowsy | sleepAdvised => simp [sleep, SleepState.asleep] at asleep
  all_goals
    simp only [hostRunning, sleep, changeSleep, sleepHandOn_eq, idleRestart, State.onSdu_sdu]
    rfl

/-- What RUNNING from an asleep state leaves. -/
theorem hostRunning_wakes {s : State} (asleep : s.sdu.sleep.asleep = true) :
    (hostRunning s).sdu = s.sdu.running s.params
      ∧ (hostRunning s).rqu.beside = (s.rqu.unsuppressing s.params).beside
      ∧ (s.dlc.state.inUse = true → (hostRunning s).dlc.noticeMark = true) := by
  let before := s.onSdu (Sdu.running s.params)
  have sdu := readSleep_awake (old := s.sdu.sleep) (new := .active) (s := before) rfl
  have rqu := readSleep_rqu s.sdu.sleep .active before
  have params := readSleep_params s.sdu.sleep .active before
  have dock := readSleep_dockState s.sdu.sleep .active before
  rw [hostRunning_asleep asleep]
  refine ⟨?_, ?_, fun used =>
    noticeOn_owes (by rw [← used]; exact congrArg DockState.inUse dock) (.inr ⟨rfl, asleep⟩)⟩
  all_goals
    obtain ⟨n, e⟩ := noticeOn_beside s.sdu.sleep .active
      ((readSleep s.sdu.sleep .active before).onRqu (Rqu.unsuppressing (readSleep s.sdu.sleep .active before).params))
    rw [e]
  · exact sdu
  · rw [params]
    exact congrArg (Rqu.unsuppressing s.params) rqu

theorem hostRunning_active {s : State} (active : s.sdu.sleep = .active) :
    hostRunning s = s.onSdu (Sdu.restarted s.params) := by
  simp only [hostRunning, active, activity]
  rfl

theorem hostRunning_resumes {s : State} (resumes : s.sdu.sleep = .drowsy ∨ s.sdu.sleep = .sleepAdvised) :
    (hostRunning s).sdu = { s.sdu.restarted s.params with sleep := .active, advised := .none }
      ∧ firstPlaced (partRecord .verdict [natByte (holdCount s) <<< 4, 2, 0xFF, 0, s.sdu.sleep.code]) s
          (hostRunning s) := by
  let stirred := s.onSdu (Sdu.stirred s.params)
  have block : stirred.sdu = { s.sdu.restarted s.params with sleep := .active, advised := .none } := by
    rcases resumes with e | e <;> simp only [stirred, State.onSdu_sdu, Sdu.stirred, e]
  have holds : holdCount stirred = holdCount s := holdCount_congr (by rw [block]; rfl)
  have running : hostRunning s = giveVerdict .resume .none s.sdu.sleep stirred := by
    rw [← activity_resumes resumes]
    rcases resumes with e | e <;> simp only [hostRunning, e]
  have record : verdictRecord .resume .none s.sdu.sleep stirred
      = partRecord .verdict [natByte (holdCount s) <<< 4, 2, 0xFF, 0, s.sdu.sleep.code] := by
    rw [verdictRecord, holds, block]
    rfl
  rw [running, giveVerdict, record]
  refine ⟨(place_sdu_awake _ (by rw [block]; rfl)).trans block, firstPlaced_of_prefix fun room => ?_⟩
  exact place_urgent (s := stirred) room ▸ List.prefix_rfl

/-! ## The requests -/

theorem exec_standby (tag : Byte) (s : State) :
    exec (.hostState tag 0) s = .next (drivePins (respond 0x30 tag .ok [] (hostStandby s))) := rfl

theorem exec_running (tag : Byte) (s : State) :
    exec (.hostState tag 1) s = .next (drivePins (respond 0x30 tag .ok [] (hostRunning s))) := rfl

theorem hostStandby_beyond (s : State) : Beyond s (hostStandby s) := (beyond_stable s).hostStandby (.refl s)

theorem hostRunning_beyond (s : State) : Beyond s (hostRunning s) := (beyond_stable s).hostRunning (.refl s)

/-- Settles O52: STANDBY is told through `dozes`, which a record lost in a full lane alone may end; RUNNING leaves the
SDU awake, which no record tells anything. -/
theorem hostStateSleepsAndWakes : Obligations.HostStateSleepsAndWakes := by
  intro s tag ok dim restarted k
  have standbyBeyond := ((hostStandby_beyond s).respond 0x30 tag .ok []).pins
  have runningBeyond := ((hostRunning_beyond s).respond 0x30 tag .ok []).pins
  have told (h : woken (hostStandby s)) : (hostStandby s).sdu.sleep = .waking
      ∧ s.params.severity .urgentLoss = .wake ∧ 32 ≤ (hostStandby s).rqu.urgent.length := by
    rw [← (hostStandby_beyond s).params]
    exact h
  refine ⟨fun sleep => ⟨_, exec_standby tag s, standbyBeyond, ?_⟩,
    fun waking => ⟨_, exec_standby tag s, standbyBeyond, ?_⟩, fun standby => ?_, fun active => ?_,
    fun resumes => ⟨_, exec_running tag s, runningBeyond, ?_⟩, fun sleep => ⟨_, exec_running tag s, runningBeyond, ?_⟩⟩
  · have awake : s.sdu.sleep.asleep = false := by
      revert sleep
      cases s.sdu.sleep <;> simp [SleepState.asleep]
    obtain ⟨rests, rqu, notice⟩ := hostStandby_rests awake
    rw [Rqu.suppressing_eq] at rqu
    have beside := dozes_beside rests
    exact ⟨(dozes_sleep rfl rests).imp_right told, (congrArg Sdu.advised beside :), (congrArg Sdu.dimTimer beside :),
      (congrArg Sdu.sleepTimer beside :), (congrArg Sdu.sleepMark beside :), (congrArg Sdu.holds beside :),
       (congrArg Rqu.bulk rqu :), (congrArg Rqu.stage rqu :),
      (congrArg Rqu.suppressed rqu :), (congrArg Rqu.flushTimer rqu :), fun used => notice (inUse_iff.mpr used),
      fun standby charging high => dozes_pcc rests standby ⟨charging, high⟩⟩
  · obtain ⟨rests, rqu⟩ := hostStandby_ungathers waking
    refine ⟨rests.imp (fun h => ?_) fun h => told h.1, (congrArg Rqu.suppressed rqu :), (congrArg Rqu.stage rqu :),
      (congrArg Rqu.bulk rqu :)⟩
    exact ⟨congrArg Sdu.sleep h.1, congrArg Sdu.gatherTimer h.1, congrArg Sdu.wakeList h.1⟩
  · rw [exec_standby, hostStandby, standby]
    rfl
  · rw [exec_running, hostRunning_active active]
    rfl
  · exact hostRunning_resumes (by simpa using resumes)
  · have asleep : s.sdu.sleep.asleep = true := by
      rcases (by simpa using sleep : s.sdu.sleep = .standby ∨ s.sdu.sleep = .waking) with e | e <;> rw [e] <;> rfl
    obtain ⟨sdu, rqu, notice⟩ := hostRunning_wakes asleep
    have flush : (hostRunning s).rqu.flushTimer
        = if s.rqu.stage = [] then s.rqu.flushTimer else some s.params.flushTime.toNat := by
      simp only [← List.isEmpty_iff]
      exact (congrArg Rqu.flushTimer rqu :)
    exact ⟨sdu, (congrArg Rqu.suppressed rqu :), (congrArg Rqu.stage rqu :), (congrArg Rqu.bulk rqu :), flush,
      fun used => notice (inUse_iff.mpr used)⟩

end Sys2Proof.Machine
end

section
/-! PROOFS. A detach decided (O43): a change of dock state with its record, and the grant and the denial by the host and
by the grant timer. -/

namespace Sys2Proof.Machine

/-! ## A change of dock state and its record (R101, R102) -/

/-- The event's DOCK record carries neither an identity nor periods (R102). -/
abbrev DockEvent.isPlain (ev : DockEvent) : Prop := ev ∉ [DockEvent.attached, .relocked, .detached]

theorem dockRecord_plain {ev : DockEvent} (plain : ev.isPlain) (new old : DockState) (cause : DockCause) (d : Dlc) :
    dockRecord ev old cause (Dlc.enterState new d.leaveState)
      = partRecord .dock [ev.code, new.code, old.code, cause.code, 0, 0] := by
  simp only [DockEvent.isPlain, List.mem_cons, List.not_mem_nil, or_false, not_or] at plain
  obtain ⟨attached, relocked, detached⟩ := plain
  rw [dockRecord_entered attached, dockPeriods, if_neg (not_or.mpr ⟨relocked, detached⟩)]
  rfl

/-- The first record of such a change is its own. -/
theorem changeDock_firstPlaced {new : DockState} {ev : DockEvent} {cause : DockCause} {sdu : State → State}
    (plain : ev.isPlain) (hu : ∀ Q, Calm Q → Keeps Q sdu) (s : State) :
    firstPlaced (partRecord .dock [ev.code, new.code, s.dlc.state.code, cause.code, 0, 0]) s
      (changeDock new (some ev) cause sdu s) :=
  firstPlaced_of_prefix fun room =>
    dockRecord_plain plain new s.dlc.state cause s.dlc ▸ changeDock_behind hu room

/-- A change of dock state behind an update of the DLC that keeps the dock state, told of the state before the
update. -/
theorem changeDock_updated {f : Dlc → Dlc} {s : State} {d : Dlc} {new ev cause sdu}
    (hu : ∀ P, Stable P → Keeps P sdu) (state : (f s.dlc).state = s.dlc.state)
    (rest : ((f s.dlc).changed s.params new).rest = d.rest) :
    Transition s d (changeDock new ev cause sdu (s.onDlc f)) :=
  ((changeDock_transition hu (s.onDlc f)).from (.refl _) rest).of_onDlc state

/-! ## Grant and denial (R109 to R111) -/

/-- The DLC's block after a grant. -/
abbrev Dlc.granted (p : Params) (d : Dlc) : Dlc :=
  { d with
    state := .quiescing, grantTimer := none, errors := 0, errTimer := none, identifyMark := false
    quiesceMark := some .quiesce, quiesceTimer := some p.quiesceTimeout.toNat }

/-- The DLC's block after a denial. -/
abbrev Dlc.denied (d : Dlc) : Dlc := { d with state := .attached, grantTimer := none, identifyMark := false }

theorem changed_granted {d : Dlc} (requested : d.state = .detachRequested) (p : Params) :
    (d.changed p .quiescing).rest = (d.granted p).rest := by
  simp [Dlc.changed, Dlc.leaveState, requested, Dlc.enterState, Dlc.entryActions, Dlc.rest, DockState.countsErrors,
    DockState.inUse]

theorem changed_denied {d : Dlc} (requested : d.state = .detachRequested) (p : Params) :
    (d.changed p .attached).rest = d.denied.rest := by
  simp [Dlc.changed, Dlc.leaveState, requested, Dlc.enterState, Dlc.entryActions, Dlc.rest, DockState.countsErrors]

theorem grantDetach_transition {s : State} (requested : s.dlc.state = .detachRequested) (ev : DockEvent) :
    Transition s (s.dlc.granted s.params) (grantDetach ev s) :=
  (changeDock_transition sdu_nothing s).from (.refl s) (changed_granted requested _)

theorem denyDetach_transition {s : State} (requested : s.dlc.state = .detachRequested) (ev : DockEvent) :
    Transition s s.dlc.denied (denyDetach ev s) :=
  (changeDock_transition sdu_nothing s).from (.refl s) (changed_denied requested _)

theorem grantDetach_firstPlaced {s : State} (requested : s.dlc.state = .detachRequested) {ev : DockEvent}
    (plain : ev.isPlain) : firstPlaced (partRecord .dock [ev.code, 5, 4, 0xFF, 0, 0]) s (grantDetach ev s) := by
  have first := changeDock_firstPlaced (new := .quiescing) (cause := .none) plain calm_nothing s
  rwa [requested] at first

theorem denyDetach_firstPlaced {s : State} (requested : s.dlc.state = .detachRequested) {ev : DockEvent}
    (plain : ev.isPlain) : firstPlaced (partRecord .dock [ev.code, 3, 4, 0xFF, 0, 0]) s (denyDetach ev s) := by
  have first := changeDock_firstPlaced (new := .attached) (cause := .none) plain calm_nothing s
  rwa [requested] at first

/-! ## The commands that decide -/

theorem exec_grantTimerExpiry {s : State} {n : Nat} (runs : s.dlc.grantTimer = some n) :
    exec .grantTimerExpiry s = .next (drivePins (if s.params.grantDefault = 1 then grantDetach .grantedByDefault s
      else denyDetach .timedOut s)) := by
  show done (if s.dlc.grantTimer.isSome then (if s.params.grantsByDefault then _ else _) else s) = _
  simp only [runs, Option.isSome_some, if_true, Params.grantsByDefault, decide_eq_true_eq, done]

theorem exec_detachAnswer {s : State} (requested : s.dlc.state = .detachRequested) {arg : Byte} (named : arg.toNat ≤ 1)
    (tag : Byte) : exec (.detachAnswer tag arg) s = .next (drivePins (respond 0x21 tag .ok []
      (if arg = 0 then grantDetach .granted s else denyDetach .denied s))) := by
  show done (answerDetach tag arg s) = _
  rw [answerDetach, if_neg (Nat.not_lt.mpr named), if_neg (not_not_intro requested), done]

/-- Settles O43: each of the four decisions is one change of dock state, told by its own record. -/
theorem grantDecidesDetach : Obligations.GrantDecidesDetach := by
  intro s n tag requested runs granted denied ok
  refine ⟨⟨_, exec_grantTimerExpiry runs, ?_⟩, ⟨_, exec_detachAnswer requested (by decide) tag, ?_⟩,
    ⟨_, exec_detachAnswer requested (by decide) tag, ?_⟩⟩
  · by_cases grants : s.params.grantDefault = 1
    · rw [if_pos grants, if_pos grants]
      exact ⟨(grantDetach_transition requested _).pins, grantDetach_firstPlaced requested (by decide)⟩
    · rw [if_neg grants, if_neg grants]
      exact ⟨(denyDetach_transition requested _).pins, denyDetach_firstPlaced requested (by decide)⟩
  · exact ⟨((grantDetach_transition requested .granted).respond 0x21 tag .ok []).pins,
      grantDetach_firstPlaced requested (ev := .granted) (by decide)⟩
  · exact ⟨((denyDetach_transition requested .denied).respond 0x21 tag .ok []).pins,
      denyDetach_firstPlaced requested (ev := .denied) (by decide)⟩

end Sys2Proof.Machine
end

section
/-! PROOFS. The latch button (O42): the level of a millisecond by its debounce, and an accepted press. -/

namespace Sys2Proof.Machine

/-! ## A detach request (R108) -/

theorem sdu_wake (k : WakeKind) (P : State → Prop) (h : Stable P) : Keeps P (wake k) := h.wake k

theorem calm_wake (k : WakeKind) (P : State → Prop) (h : Calm P) : Keeps P (wake k) := h.wake k

/-- A wake reason alone, handed to the SDU by a change of dock state, ends the sleep as well (R154). -/
theorem changeDock_wake_waking {new ev cause} {k : WakeKind} {s : State} (asleep : s.sdu.sleep.asleep = true) :
    (changeDock new ev cause (wake k) s).sdu.sleep = .waking := by
  have slept := asleep_dockable true
  refine ReaderOrder.run_leads_last (Q := fun s => s.sdu.sleep = .waking) (slept.postureOnDock _)
    (waking_dockable.postureOnDock _) (slept.recompute _) (waking_dockable.recompute _) (fun _ => wake_waking k) _ ?_
  cases ev
  · exact asleep
  · exact slept.calm.place _ (s := s.onDlc fun d => Dlc.enterState new d.leaveState) asleep

/-- The DLC's block with a press accepted (R100). -/
def Dlc.press (d : Dlc) : Dlc := { d with button := true, buttonRun := 0, buttonFresh := false }

theorem changed_detachRequested {d : Dlc} (attached : d.state = .attached) (p : Params) :
    (d.changed p .detachRequested).rest = ({ d with
      state := .detachRequested, grantTimer := some p.grantTimeout.toNat, identifyMark := false } : Dlc).rest := by
  simp [Dlc.changed, Dlc.leaveState, attached, Dlc.enterState, Dlc.entryActions, Dlc.rest, DockState.countsErrors]

theorem acceptPress_attached {s : State} (attached : s.dlc.state = .attached) : acceptPress s
    = changeDock .detachRequested (some .detachRequest) .none (wake .detachRequest) (s.onDlc Dlc.press) :=
  if_pos (c := (s.onDlc Dlc.press).dlc.state = .attached) attached

theorem acceptPress_noted {s : State} (other : s.dlc.state ≠ .attached) : acceptPress s = s.onDlc Dlc.press :=
  if_neg (c := (s.onDlc Dlc.press).dlc.state = .attached) other

theorem acceptPress_transition {s : State} (attached : s.dlc.state = .attached) : Transition s { s.dlc.press with
    state := .detachRequested, grantTimer := some s.params.grantTimeout.toNat, identifyMark := false }
      (acceptPress s) := by
  rw [acceptPress_attached attached]
  exact changeDock_updated (sdu_wake _) rfl (changed_detachRequested (d := s.dlc.press) attached _)

theorem acceptPress_firstPlaced {s : State} (attached : s.dlc.state = .attached) :
    firstPlaced (partRecord .dock [1, 4, 3, 0xFF, 0, 0]) s (acceptPress s) := by
  have first := changeDock_firstPlaced (new := .detachRequested) (ev := .detachRequest) (cause := .none) (by decide)
    (calm_wake .detachRequest) (s.onDlc Dlc.press)
  have before : (s.onDlc Dlc.press).dlc.state = .attached := attached
  rw [acceptPress_attached attached]
  rwa [before] at first

theorem acceptPress_wakes {s : State} (attached : s.dlc.state = .attached) (asleep : s.sdu.sleep.asleep = true) :
    (acceptPress s).sdu.sleep = .waking := by
  rw [acceptPress_attached attached]
  exact changeDock_wake_waking asleep

/-! ## A millisecond of the button (R100) -/

theorem buttonMillisecond_fresh {s : State} (fresh : s.dlc.buttonFresh = true) (pressed : Bool) :
    buttonMillisecond pressed s
      = s.onDlc fun d => { d with button := pressed, buttonRun := 0, buttonFresh := false } := if_pos fresh

theorem buttonMillisecond_equal {s : State} (settled : s.dlc.buttonFresh = false) {pressed : Bool}
    (equal : pressed = s.dlc.button) : buttonMillisecond pressed s = s.onDlc fun d => { d with buttonRun := 0 } := by
  rw [buttonMillisecond, settled, if_neg Bool.false_ne_true, if_pos equal]

/-- A level that differs, short of the 30 ms of the debounce. -/
theorem buttonMillisecond_counts {s : State} (settled : s.dlc.buttonFresh = false) {pressed : Bool}
    (differs : pressed ≠ s.dlc.button) (short : s.dlc.buttonRun < 29) :
    buttonMillisecond pressed s = s.onDlc fun d => { d with buttonRun := d.buttonRun + 1 } := by
  have short : s.dlc.buttonRun + 1 < Config.buttonDebounce := Nat.succ_lt_succ short
  rw [buttonMillisecond, settled, if_neg Bool.false_ne_true, if_neg differs, if_pos short]

/-- A level that differs through the whole debounce is accepted. -/
theorem buttonMillisecond_accepts {s : State} (settled : s.dlc.buttonFresh = false) {pressed : Bool}
    (differs : pressed ≠ s.dlc.button) (full : 29 ≤ s.dlc.buttonRun) : buttonMillisecond pressed s
      = if pressed then acceptPress s else s.onDlc fun d => { d with button := false, buttonRun := 0 } := by
  have full : ¬ s.dlc.buttonRun + 1 < Config.buttonDebounce := Nat.not_lt.mpr (Nat.succ_le_succ full)
  rw [buttonMillisecond, settled, if_neg Bool.false_ne_true, if_neg differs, if_neg full]

theorem exec_latchButton (s1 s2 s3 : Bool) (s : State) : exec (.latchButtonMillisecondLevel s1 s2 s3) s
    = .next (drivePins (buttonMillisecond (!majority s1 s2 s3) s)) := rfl

theorem exec_latchRequest (s : State) : exec .latchRequest s = .next (drivePins (acceptPress s)) := rfl

/-- Settles O42: a press told by LATCH_REQUEST and one counted over the debounce are the same operation. -/
theorem latchButtonRequestsDetach : Obligations.LatchButtonRequestsDetach := by
  intro s s1 s2 s3 pressed
  refine ⟨fun attached => ⟨_, exec_latchRequest s, (acceptPress_transition attached).pins,
      acceptPress_firstPlaced attached, fun standby => acceptPress_wakes attached (congrArg SleepState.asleep standby)⟩,
    fun other => ?_, fun fresh => ?_, fun settled => ⟨fun equal => ?_, fun differs short => ?_,
      fun differs full press => ⟨_, exec_latchButton s1 s2 s3 s, ?_⟩, fun differs full release => ?_⟩⟩
  · rw [exec_latchRequest, acceptPress_noted other]
    rfl
  · rw [exec_latchButton, buttonMillisecond_fresh fresh]
    rfl
  · rw [exec_latchButton, buttonMillisecond_equal settled equal]
    rfl
  · rw [exec_latchButton, buttonMillisecond_counts settled differs short]
    rfl
  · rw [exec_latchRequest, buttonMillisecond_accepts settled differs full, if_pos press]
  · rw [exec_latchButton, buttonMillisecond_accepts settled differs full, if_neg (Bool.eq_false_iff.mp release)]
    rfl

end Sys2Proof.Machine
end

section
/-! PROOFS. Sensing (O39): the sense timer, SENSED and its two ends. -/

namespace Sys2Proof.Machine

/-! ## The changes of dock state that sensing makes (R99, R103) -/

theorem changed_sensed {d : Dlc} (absent : d.state = .absent) (p : Params) : (d.changed p .sensed).rest
    = ({ d with state := .sensed, errors := 0, errTimer := none, identifyMark := false } : Dlc).rest := by
  simp [Dlc.changed, Dlc.leaveState, absent, Dlc.enterState, Dlc.entryActions, Dlc.rest, DockState.countsErrors,
    DockState.inUse]

theorem changed_unsensed {d : Dlc} (sensed : d.state = .sensed) (p : Params) : (d.changed p .absent).rest
    = ({ d with
          state := .absent, errors := 0, errTimer := none, identifyMark := false, quiesceMark := none, slots := []
          sending := none, rx := .hunt, identity := Identity.absent } : Dlc).rest := by
  rw [changed_absent]
  simp [sensed]

theorem changed_identifying {d : Dlc} (sensed : d.state = .sensed) (p : Params) : (d.changed p .identifying).rest
    = ({ d with
          state := .identifying, queries := 1, identifyMark := true, helloTimer := some p.helloTimeout.toNat
          quiesceMark := none, slots := d.slots.filter (fun y => y.sending) } : Dlc).rest := by
  simp [Dlc.changed, Dlc.leaveState, sensed, Dlc.enterState, Dlc.entryActions, Dlc.rest, DockState.countsErrors,
    DockState.inUse]

/-! ## A millisecond of DOCK_SENSE_N (R99) -/

/-- The DLC's block with the sense timer written. -/
def Dlc.sensing (t : Timer) (d : Dlc) : Dlc := { d with senseTimer := t }

/-- The accepted level of DOCK_SENSE_N is PRESENT (R99). -/
def Dlc.present (d : Dlc) : Dlc := { d with sense := true, senseTimer := none }

theorem senseMillisecond_equal {present : Bool} {s : State} (equal : present = s.dlc.sense) :
    senseMillisecond present s = if s.dlc.state = .sensed
      then changeDock .absent none .none nothing (s.onDlc (Dlc.sensing none))
      else s.onDlc (Dlc.sensing none) := if_pos equal

theorem senseMillisecond_starts {present : Bool} {s : State} (differs : present ≠ s.dlc.sense)
    (stopped : s.dlc.senseTimer = none) : senseMillisecond present s = if s.dlc.state = .absent
      then changeDock .sensed none .none nothing (s.onDlc (Dlc.sensing (some s.params.senseDebounce.toNat)))
      else s.onDlc (Dlc.sensing (some s.params.senseDebounce.toNat)) := by
  rw [senseMillisecond, if_neg differs, stopped]
  rfl

theorem senseMillisecond_runs {present : Bool} {s : State} {n : Nat} (differs : present ≠ s.dlc.sense)
    (runs : s.dlc.senseTimer = some n) : senseMillisecond present s = s := by
  rw [senseMillisecond, if_neg differs, runs]
  rfl

theorem exec_dockSenseLevel (s1 s2 s3 : Bool) (s : State) : exec (.dockSenseLevel s1 s2 s3) s
    = .next (drivePins (senseMillisecond (!majority s1 s2 s3) s)) := rfl

theorem exec_senseDebounceComplete {s : State} {n : Nat} (sensed : s.dlc.state = .sensed)
    (missing : s.dlc.sense = false) (runs : s.dlc.senseTimer = some n) : exec .senseDebounceComplete s
      = .next (drivePins (changeDock .identifying none .none nothing (s.onDlc Dlc.present))) := by
  show done (senseComplete s) = _
  rw [senseComplete, if_pos (by simp [sensed, missing, runs]), done]
  rfl

/-- Settles O39: sensing writes the sense timer, and with it at most one change of dock state. -/
theorem sensingFindsTheBase : Obligations.SensingFindsTheBase := by
  intro s s1 s2 s3 n present
  refine ⟨fun differs stopped absent => ?_, fun differs stopped docked => ?_, fun differs runs => ?_,
    fun equal other => ?_, fun equal sensed => ?_, fun sensed missing runs => ?_⟩
  · rw [exec_dockSenseLevel, senseMillisecond_starts differs stopped, if_pos absent]
    refine ⟨_, rfl, (changeDock_updated sdu_nothing rfl ?_).pins⟩
    exact changed_sensed (d := s.dlc.sensing (some s.params.senseDebounce.toNat)) absent _
  · rw [exec_dockSenseLevel, senseMillisecond_starts differs stopped, if_neg docked]
    rfl
  · rw [exec_dockSenseLevel, senseMillisecond_runs differs runs]
  · rw [exec_dockSenseLevel, senseMillisecond_equal equal, if_neg other]
    rfl
  · rw [exec_dockSenseLevel, senseMillisecond_equal equal, if_pos sensed]
    refine ⟨_, rfl, (changeDock_updated sdu_nothing rfl ?_).pins⟩
    exact changed_unsensed (d := s.dlc.sensing none) sensed _
  · refine ⟨_, exec_senseDebounceComplete sensed missing runs, (changeDock_updated sdu_nothing rfl ?_).pins⟩
    exact changed_identifying (d := s.dlc.present) sensed _

end Sys2Proof.Machine
end

section
/-! PROOFS. The charger's invariant (O58), the rules: it sees of the part the PCC, the committed posture and the sleep
state alone, so that of placing, waking, activity and recomputation only a re-evaluation of allowance can move it. -/

namespace Sys2Proof.Machine

/-! ## Predicates on the PCC, the posture and the sleep state -/

/-- A predicate on the PCC, the committed posture and the sleep state that waking, activity and a re-evaluation of
allowance carry over. -/
structure Powered (P : State → Prop) : Prop where
  sees : ∀ ⦃s t⦄, t.pcc = s.pcc → t.posture = s.posture → t.sdu.sleep = s.sdu.sleep → P s → P t
  sleeps : ∀ f s, s.sdu.sleep.leadsTo (f s.sdu).sleep → P s → P (s.onSdu f)
  allowance : ∀ {pl}, PlacerHolds P pl → Keeps P (penAllowance pl)

namespace Powered

variable {P : State → Prop} (h : Powered P)
include h

/-- A state that differs in nothing that the predicate sees. -/
theorem unseen {s t : State} (hs : P s) (pcc : t.pcc = s.pcc := by rfl) (posture : t.posture = s.posture := by rfl)
    (sleep : t.sdu.sleep = s.sdu.sleep := by rfl) : P t := h.sees pcc posture sleep hs

theorem reread : Reread P where
  forward _ _ _ hs := h.unseen hs
  tcl _ _ _ hs := h.unseen hs
  act _ _ hs := h.unseen hs
  drop _ hs := h.unseen hs

theorem gatherAtOnce {pl : Placer} (hp : PlacerHolds P pl) : Keeps P (gatherAtOnce pl) := by
  intro s hs
  unfold Machine.gatherAtOnce
  split
  · exact hp _ (h.unseen hs)
  · exact hs

theorem wakeWith {pl : Placer} (hp : PlacerHolds P pl) (k) : Keeps P (wakeWith pl k) := by
  intro s hs
  unfold Machine.wakeWith
  split
  · next standby =>
    have waking : P (s.onSdu fun u => { u with sleep := .waking }) :=
      h.sleeps _ s (by rw [standby]; exact ⟨rfl, fun _ => rfl⟩) hs
    have woken : P (gatherStart k (s.onSdu fun u => { u with sleep := .waking })) := h.unseen waking
    simp only [sleepHandOn_waking]
    split
    · exact h.allowance hp (h.gatherAtOnce hp woken)
    · exact h.gatherAtOnce hp (h.allowance hp woken)
  · split
    · split
      · exact hs
      · exact h.unseen hs
    · exact h.gatherAtOnce hp (h.unseen hs)
  all_goals exact hs

theorem lossKept : LossKept P where
  enter _ _ _ _ hs := h.unseen hs
  lose _ hs := h.unseen hs
  loss _ hs := h.unseen hs
  woken hp := h.wakeWith hp .fault

theorem place : PlacerHolds P place := h.lossKept.place

theorem wake (k) : Keeps P (wake k) := h.wakeWith h.place k

theorem raiseFault (k) : Keeps P (raiseFault k) := fun _ hs => h.lossKept.raiseFault (h.unseen hs)

theorem recompute (c) : Keeps P (recompute c) := h.reread.recompute h.place c

/-! ## Sleep -/

/-- The SDU's update to an awake state from an awake one, with its verdict. -/
theorem verdict {f : Sdu → Sdu} {s} (v r o) (awake : s.sdu.sleep.asleep = false) (still : (f s.sdu).sleep.asleep = false)
    (hs : P s) : P (giveVerdict v r o (s.onSdu f)) :=
  h.place _ (h.sleeps f s ⟨still.trans awake.symm, fun w => by simp [w, SleepState.asleep] at awake⟩ hs)

theorem resumeActive {s : State} (awake : s.sdu.sleep.asleep = false) (hs : P s) : P (resumeActive s) := by
  rw [resumeActive_eq awake]
  exact h.verdict _ _ _ awake rfl hs

theorem adviseSleep (reason) {s : State} (awake : s.sdu.sleep.asleep = false) (hs : P s) :
    P (adviseSleep reason s) := by
  rw [adviseSleep_eq reason awake]
  exact h.verdict _ _ _ awake rfl hs

theorem activity : Keeps P activity := by
  intro s hs
  have restarted : P (idleRestart s) := h.unseen hs
  unfold Machine.activity
  split
  case h_1 => exact restarted
  case h_2 sleep | h_3 sleep => exact h.resumeActive (congrArg SleepState.asleep sleep) restarted
  all_goals exact hs

theorem lidClosed : Keeps P lidClosed := by
  intro s hs
  have restarted : P (idleRestart s) := h.unseen hs
  unfold Machine.lidClosed
  split
  case h_1 sleep | h_2 sleep =>
    split
    · exact h.activity hs
    · exact h.adviseSleep _ (congrArg SleepState.asleep sleep) restarted
  case h_3 =>
    split
    · exact h.activity hs
    · exact h.place _ (h.unseen restarted)
  all_goals exact hs

theorem sleepOnCommit (a b) : Keeps P (sleepOnCommit a b) := by
  intro s hs
  have told : P (if b = .closed then Machine.lidClosed s else Machine.activity s) := by
    split
    · exact h.lidClosed hs
    · exact h.activity hs
  unfold Machine.sleepOnCommit
  simp only
  split
  · exact h.wake _ told
  · exact told

theorem dimExpired : Keeps P dimExpired := by
  intro s hs
  have stopped : P (s.onSdu fun u => { u with dimTimer := none }) := h.unseen hs
  unfold Machine.dimExpired
  split
  · simp only
    split
    · next active =>
      have awake : (s.onSdu fun u => { u with dimTimer := none }).sdu.sleep.asleep = false :=
        congrArg SleepState.asleep active
      rw [changeSleep, sleepHandOn_awake _ awake rfl]
      exact h.verdict _ _ _ awake rfl stopped
    · exact stopped
  · exact hs

theorem sleepExpired : Keeps P sleepExpired := by
  intro s hs
  have marked : P (s.onSdu fun u => { u with sleepTimer := none, sleepMark := true }) := h.unseen hs
  unfold Machine.sleepExpired
  split
  · simp only
    split
    case h_1 sleep | h_2 sleep =>
      split
      · exact marked
      · exact h.adviseSleep _ (congrArg SleepState.asleep sleep) marked
    all_goals exact marked
  · exact hs

theorem setHold (i x) : Keeps P (setHold i x) := fun _ hs => h.unseen hs

theorem claimHold (i c o l) : Keeps P (claimHold i c o l) := by
  intro s hs
  simp only [Machine.claimHold]
  split
  · next advised =>
    rw [Bool.and_eq_true, decide_eq_true_eq] at advised
    exact h.resumeActive (congrArg SleepState.asleep advised.1) (h.setHold _ _ hs)
  · exact h.setHold _ _ hs

theorem deferredAdvice : Keeps P deferredAdvice := by
  intro s hs
  have advised (reason) (awake : s.sdu.sleep.asleep = false) := h.adviseSleep reason awake hs
  unfold Machine.deferredAdvice
  split
  case h_1 sleep | h_2 sleep =>
    split
    · exact advised _ (congrArg SleepState.asleep sleep)
    · split
      · exact advised _ (congrArg SleepState.asleep sleep)
      · exact hs
  all_goals exact hs

theorem holdExpired (i) : Keeps P (holdExpired i) := by
  intro s hs
  unfold Machine.holdExpired
  split
  · split
    · exact h.deferredAdvice (h.place _ (h.setHold _ _ hs))
    · exact hs
  · exact hs

/-! ## The traffic path -/

theorem placeCoalesced (r) : Keeps P fun s => (placeCoalesced r s).1 := by
  intro s hs
  unfold Machine.placeCoalesced
  dsimp only
  split
  · exact hs
  · split
    · exact h.unseen hs
    · split <;> exact h.unseen hs

theorem placeDirect (r) : Keeps P fun s => (placeDirect r s).1 := by
  intro s hs
  unfold Machine.placeDirect
  dsimp only
  split
  · exact hs
  · split <;> exact h.unseen hs

theorem disableEntry (i) : Keeps P (disableEntry i) := fun _ hs =>
  h.raiseFault _ (h.place _ (h.reread.retryIfChanged _ (h.reread.recomputeEntry h.place _ _ (h.unseen hs))))

theorem countMalformed (i) : Keeps P (countMalformed i) := by
  intro s hs
  have counted : P (s.onRoute i fun e => { e with errors := min 15 (e.errors + 1) }) := h.unseen hs
  simp only [Machine.countMalformed]
  split
  · exact h.disableEntry i counted
  · exact counted

theorem reenableEntry (i) : Keeps P (reenableEntry i) := fun s hs =>
  have enabled : P (s.onRoute i RouteEntry.enabled) := h.unseen hs
  h.reread.retryIfChanged _ (h.reread.recomputeEntry h.place _ _ (h.place _ enabled))

theorem reenable (named) : Keeps P (reenable named) := by
  refine Stable.fold (fun i s hs => ?_) _
  simp only
  split
  · exact h.reenableEntry i hs
  · exact hs

theorem signal (i act) : Keeps P (signal i act) := by
  intro s hs
  have stirred (b : Bool) : P (if b = true then Machine.activity s else s) := by
    split
    · exact h.activity hs
    · exact hs
  have woken (t : State) (b : Bool) (ht : P t) : P (if b = true then Machine.wake .routeWake t else t) := by
    split
    · exact h.wake _ ht
    · exact ht
  exact woken _ _ (stirred _)

theorem loseUrgent : Keeps P loseUrgent := loseUrgentWith_keeps h.lossKept.lose h.lossKept.raiseUrgentLoss

theorem endFrame (dock) : Keeps P (endFrame dock) := by
  intro s hs
  unfold Machine.endFrame
  split
  · exact h.unseen hs
  · exact hs

theorem placeFrame (dock i f) : Keeps P (placeFrame dock i f) := by
  intro s hs
  simp only [Machine.placeFrame]
  split
  · refine h.endFrame _ (h.reread.poolEffect _ _ _ ?_)
    split
    · exact h.placeCoalesced _ hs
    · exact h.placeDirect _ hs
  · split
    · have entered : P (enterUrgent true (fwdRecord .urgent f) s) := h.unseen hs
      exact h.reread.poolEffect _ _ _ (h.endFrame _ entered)
    · split
      · exact h.unseen hs
      · exact h.reread.poolEffect _ _ _ (h.loseUrgent hs)

theorem handleMatched (dock i f) : Keeps P (handleMatched dock i f) := by
  intro s hs
  simp only [Machine.handleMatched]
  split
  · exact h.endFrame _ hs
  · split
    · exact h.endFrame _ (h.countMalformed _ hs)
    · split
      · exact h.placeFrame _ _ _ (h.signal _ _ hs)
      · exact h.endFrame _ (h.signal _ _ hs)

theorem classify (dock f) : Keeps P (classify dock f) := by
  intro s hs
  unfold Machine.classify
  split
  · exact h.handleMatched _ _ _ (h.unseen hs)
  · unfold handleDefault
    split
    · exact h.endFrame _ (h.placeDirect _ hs)
    · exact h.endFrame _ hs

theorem escalateStall : Keeps P escalateStall := by
  intro s hs
  have lost : P (loseStalled s) := by
    unfold loseStalled
    split
    · exact h.loseUrgent (h.raiseFault _ hs)
    · exact h.raiseFault _ (h.loseUrgent hs)
  unfold Machine.escalateStall
  split
  · split
    · exact h.reread.poolEffect _ _ _ (h.reread.endStall (h.unseen hs))
    · exact h.reread.poolEffect _ _ _ (h.reread.endStall lost)
  · exact hs

theorem vacateRoute (c i) : Keeps P (vacateRoute c i) := by
  intro s hs
  have ended (t : State) (ht : P t) : P (if (t.tcl.stall.map (·.entry)) = some i then endStall t else t) := by
    split
    · exact h.reread.endStall ht
    · exact ht
  refine ended _ ?_
  split
  · exact h.reread.synthesize h.place c i hs
  · exact hs

end Powered

end Sys2Proof.Machine
end

section
/-! PROOFS. The charger's invariant (O58) in two parts: what holds of the PCC's block alone, and that a charge is allowed.
The first every operation carries over; a re-evaluation of allowance leads from it to the whole. -/

namespace Sys2Proof.Machine

/-! ## Updates of the PCC in full -/

theorem Pcc.stopBurst_eq (p : Pcc) :
    p.stopBurst = { p with burstTimer := none, penDrv := p.penDrv && p.burstTimer.isNone } := by
  unfold Pcc.stopBurst
  split
  · next running => simp [Option.isNone_eq_false_iff.mpr running]
  · next stopped =>
    have none : p.burstTimer = none := by simpa using stopped
    obtain ⟨⟩ := p
    simp_all

theorem Pcc.leaveCharging_eq (p : Pcc) : p.leaveCharging = { p with
    burstTimer := none, penDrv := p.penDrv && p.burstTimer.isNone, progressTimer := none, limitDue := false } := by
  rw [Pcc.leaveCharging, Pcc.stopBurst_eq]

theorem Pcc.closeSession_eq (cause : EndCause) (p : Pcc) : p.closeSession cause = { p with
    sessionOpen := false, lastEnd := if p.sessionOpen then cause else p.lastEnd } := by
  unfold Pcc.closeSession
  split
  · rfl
  · next closed =>
    obtain ⟨⟩ := p
    simp_all

/-! ## Charging allowed (R129) -/

theorem allowed_iff (s : State) : allowed s = true ↔ mayCharge s s.pcc := by
  cases level : s.pcc.level with
  | none => simp [allowed, mayCharge, level, and_assoc]
  | some l => simp [allowed, mayCharge, level, and_assoc, imp_iff_not_or]

/-- Of the part's state allowance sees the posture and the sleep state. -/
theorem mayCharge_congr {s t : State} (posture : t.posture = s.posture) (sleep : t.sdu.sleep = s.sdu.sleep) (q : Pcc) :
    mayCharge t q ↔ mayCharge s q := by
  rw [mayCharge, mayCharge, posture, sleep]

/-- STANDBY alone restricts charging by the level, and waking and activity do not lead there. -/
theorem mayCharge_leads {s t : State} {q : Pcc} (posture : t.posture = s.posture)
    (leads : s.sdu.sleep.leadsTo t.sdu.sleep) (may : mayCharge s q) : mayCharge t q := by
  obtain ⟨mask, supply, low⟩ := may
  refine ⟨posture ▸ mask, supply, fun standby => low ?_⟩
  obtain ⟨asleep, waking⟩ := leads
  rw [standby] at asleep waking
  cases before : s.sdu.sleep <;> simp [before, SleepState.asleep] at asleep waking ⊢

/-! ## The parts of the invariant -/

/-- The bounds of the PCC's counts. -/
structure Pcc.Bounded (q : Pcc) : Prop where
  level : ∀ l, q.level = some l → l ≤ 100
  millis : q.millis ≤ 999
  cycles : q.silentCycles ≤ 7
  probes : q.silentProbes ≤ 15

/-- What the invariant says of the PCC's block, allowance apart. -/
structure Pcc.Sound (q : Pcc) : Prop extends Pcc.Bounded q where
  charging : q.state = .charging → q.sessionOpen = true ∧ q.progressTimer.isSome = true
  idle : q.state ≠ .charging → q.burstTimer = none ∧ q.progressTimer = none
  session : q.sessionOpen = true → q.state = .charging ∨ q.state = .paused
  cycle : q.cycleTimer.isSome = true ↔ q.state ≠ .off
  due : q.limitDue = true → q.state = .charging

abbrev penSound (s : State) : Prop := s.pcc.Sound

/-- A charge is allowed. -/
abbrev chargeAllowed (s : State) : Prop := s.pcc.state = .charging → mayCharge s s.pcc

theorem penInv_iff (s : State) : penInv s ↔ penSound s ∧ chargeAllowed s := by
  simp only [penInv, chargeAllowed, ← allowed_iff]
  constructor
  · rintro ⟨charging, idle, session, cycle, due, level, millis, cycles, probes⟩
    exact ⟨⟨⟨level, millis, cycles, probes⟩, fun c => ⟨(charging c).1, (charging c).2.1⟩, idle, session, cycle, due⟩,
      fun c => (charging c).2.2⟩
  · rintro ⟨⟨⟨level, millis, cycles, probes⟩, charging, idle, session, cycle, due⟩, allows⟩
    exact ⟨fun c => ⟨(charging c).1, (charging c).2, allows c⟩, idle, session, cycle, due, level, millis, cycles, probes⟩

theorem penSound_of_inv {s : State} (h : penInv s) : penSound s := ((penInv_iff s).mp h).1

/-- The PCC outside CHARGING and OFF: neither burst nor progress window runs and no millisecond is due. -/
theorem Pcc.Sound.resting {q : Pcc} (bounded : q.Bounded) (runs : q.cycleTimer.isSome = true) (burst : q.burstTimer = none)
    (window : q.progressTimer = none) (due : q.limitDue = false) (off : q.state ≠ .off) (uncharged : q.state ≠ .charging)
    (session : q.sessionOpen = true → q.state = .paused) : q.Sound where
  toBounded := bounded
  charging c := absurd c uncharged
  idle _ := ⟨burst, window⟩
  session o := .inr (session o)
  cycle := ⟨fun _ => off, fun _ => runs⟩
  due d := by simp [due] at d

/-- The PCC in CHARGING. -/
theorem Pcc.Sound.inCharging {q : Pcc} (bounded : q.Bounded) (runs : q.cycleTimer.isSome = true)
    (charges : q.state = .charging) (opened : q.sessionOpen = true) (window : q.progressTimer.isSome = true) : q.Sound where
  toBounded := bounded
  charging _ := ⟨opened, window⟩
  idle u := absurd charges u
  session _ := .inl charges
  cycle := ⟨fun _ => by simp [charges], fun _ => runs⟩
  due _ := charges

theorem Pcc.Sound.runs {q : Pcc} (h : q.Sound) (on : q.state ≠ .off) : q.cycleTimer.isSome = true := h.cycle.mpr on

/-- Outside CHARGING the invariant is that of the PCC's block. -/
theorem penInv_uncharged {s : State} (sound : penSound s) (uncharged : s.pcc.state ≠ .charging) : penInv s :=
  (penInv_iff s).mpr ⟨sound, fun c => absurd c uncharged⟩

/-! ## A re-evaluation of allowance (R130) -/

/-- The charge is paused. -/
abbrev Pcc.pause (q : Pcc) : Pcc := { q.leaveCharging with state := .paused }

/-- An open session is resumed. -/
abbrev Pcc.resume (q : Pcc) : Pcc := { q.startProgress with state := .charging }

/-- A new session is opened in CHARGING. -/
abbrev Pcc.charge (q : Pcc) : Pcc := { q.openSession with state := .charging }

/-- A re-evaluation of allowance changes nothing, pauses the charge, resumes the open session or opens a new one. -/
theorem penAllowance_cases (pl : Placer) (s : State) :
    (penAllowance pl s = s ∧ (s.pcc.state = .charging → mayCharge s s.pcc))
    ∨ (s.pcc.state = .charging ∧ ¬ mayCharge s s.pcc ∧ penAllowance pl s
        = pl (penRecord .paused .charging .none (s.onPcc Pcc.pause)) (s.onPcc Pcc.pause))
    ∨ (s.pcc.state = .paused ∧ s.pcc.sessionOpen = true ∧ mayCharge s s.pcc ∧ penAllowance pl s
        = pl (penRecord .resumed .paused .none (s.onPcc Pcc.resume)) (s.onPcc Pcc.resume))
    ∨ ((s.pcc.state = .paused ∨ s.pcc.state = .full) ∧ mayCharge s s.pcc ∧ penAllowance pl s
        = pl (penRecord .chargeStarted s.pcc.state .none (s.onPcc Pcc.charge)) (s.onPcc Pcc.charge)) := by
  have iff := allowed_iff s
  unfold penAllowance
  split
  case h_1 state =>
    split
    · next may => exact .inl ⟨rfl, fun _ => iff.mp may⟩
    · next may => exact .inr (.inl ⟨state, fun m => may (iff.mpr m), rfl⟩)
  case h_2 state =>
    split
    · exact .inl ⟨rfl, fun c => by simp [state] at c⟩
    · next may =>
      have may : mayCharge s s.pcc := iff.mp (by simpa using may)
      split
      · next opened => exact .inr (.inr (.inl ⟨state, opened, may, rfl⟩))
      · exact .inr (.inr (.inr ⟨.inl state, may, rfl⟩))
  case h_3 state =>
    split
    · split
      · next may =>
        rw [Bool.and_eq_true] at may
        exact .inr (.inr (.inr ⟨.inr state, iff.mp may.1, rfl⟩))
      · exact .inl ⟨rfl, fun c => by simp [state] at c⟩
    · exact .inl ⟨rfl, fun c => by simp [state] at c⟩
  all_goals
    next state => exact .inl ⟨rfl, fun c => by simp [state] at c⟩

theorem Pcc.Sound.pause {q : Pcc} (h : q.Sound) (charges : q.state = .charging) : q.pause.Sound := by
  rw [Pcc.pause, Pcc.leaveCharging_eq]
  exact .resting ⟨h.level, h.millis, h.cycles, h.probes⟩ (h.runs (by simp [charges])) rfl rfl rfl (by simp) (by simp)
    fun _ => rfl

theorem Pcc.Sound.resume {q : Pcc} (h : q.Sound) (paused : q.state = .paused) (opened : q.sessionOpen = true) :
    q.resume.Sound :=
  .inCharging ⟨h.level, h.millis, h.cycles, h.probes⟩ (h.runs (by simp [paused])) rfl opened rfl

theorem Pcc.Sound.charge {q : Pcc} (bounded : q.Bounded) (runs : q.cycleTimer.isSome = true) : q.charge.Sound :=
  .inCharging ⟨bounded.level, Nat.zero_le _, bounded.cycles, bounded.probes⟩ runs rfl rfl rfl

/-- A re-evaluation of allowance leads from what holds of the PCC's block to the whole invariant. -/
theorem penAllowance_inv {pl : Placer} (hp : PlacerHolds penInv pl) {s : State} (h : penSound s) :
    penInv (penAllowance pl s) := by
  rcases penAllowance_cases pl s with ⟨e, may⟩ | ⟨state, -, e⟩ | ⟨state, opened, may, e⟩ | ⟨state, may, e⟩ <;> rw [e]
  · exact (penInv_iff s).mpr ⟨h, may⟩
  · exact hp _ (penInv_uncharged (h.pause state) (by simp))
  · exact hp _ ((penInv_iff _).mpr ⟨h.resume state opened, fun _ => may⟩)
  · refine hp _ ((penInv_iff _).mpr ⟨.charge h.toBounded (h.runs ?_), fun _ => may⟩)
    rcases state with e | e <;> simp [e]

theorem penSound_powered : Powered penSound where
  sees s t pcc _ _ h := by rwa [penSound, pcc]
  sleeps _ _ _ h := h
  allowance {pl} hp s h := by
    rcases penAllowance_cases pl s with ⟨e, -⟩ | ⟨state, -, e⟩ | ⟨state, opened, -, e⟩ | ⟨state, -, e⟩ <;> rw [e]
    · exact h
    · exact hp _ (h.pause state)
    · exact hp _ (h.resume state opened)
    · exact hp _ (.charge h.toBounded (h.runs (by rcases state with e | e <;> simp [e])))

theorem penInv_powered : Powered penInv where
  sees s t pcc posture sleep h := by
    obtain ⟨sound, may⟩ := (penInv_iff s).mp h
    refine (penInv_iff t).mpr ⟨penSound_powered.sees pcc posture sleep sound, fun c => ?_⟩
    rw [pcc] at c ⊢
    exact (mayCharge_congr posture sleep _).mpr (may c)
  sleeps f s leads h := by
    obtain ⟨sound, may⟩ := (penInv_iff s).mp h
    exact (penInv_iff _).mpr ⟨sound, fun c => mayCharge_leads (s := s) rfl leads (may c)⟩
  allowance hp _ h := penAllowance_inv hp (penSound_of_inv h)

/-- Outside placing itself: a re-evaluation of allowance brings the charge in line with posture, supply and level. -/
theorem reallow_inv {s : State} (h : penSound s) : penInv (penAllowance place s) :=
  penAllowance_inv penInv_powered.place h

end Sys2Proof.Machine
end

section
/-! PROOFS. The charger's invariant (O58) through the charger's own operations, and through commits, changes of dock state
and the changes of sleep state of HOST_STATE. -/

namespace Sys2Proof.Machine

/-! ## The charge cycle (R122, R124 to R127) -/

/-- The cycle's start writes of the PCC its working state and the silent count. -/
theorem Pcc.startCycle_eq (wide : Bool) (q : Pcc) : ∃ n b d, q.startCycle wide = { q with
      silentCycles := n, probed := b, phase := .lead, cycleTimer := some q.active.period
      probeTimer := if b then some (q.active.period - 6) else none, width := burstWidth wide q
      burstTimer := if q.state = .charging ∧ 0 < burstWidth wide q then some (burstWidth wide q) else none
      penDrv := d, capture := Capture.empty } ∧ (q.silentCycles ≤ 7 → n ≤ 7) := by
  unfold Pcc.startCycle Pcc.chooseProbe
  dsimp only
  split
  · split
    · next early => exact ⟨_, _, _, rfl, fun _ => Nat.le_of_lt_succ early⟩
    · exact ⟨_, _, _, rfl, fun _ => Nat.zero_le _⟩
  · exact ⟨_, _, _, rfl, id⟩

/-- A cycle starts soundly where the block is sound but for a cycle and a burst that run. -/
theorem Pcc.Sound.startCycle {q : Pcc} (h : ({ q with cycleTimer := some 0, burstTimer := none } : Pcc).Sound)
    (wide : Bool) : (q.startCycle wide).Sound := by
  obtain ⟨n, b, d, e, bound⟩ := q.startCycle_eq wide
  rw [e]
  exact
    { level := h.level, millis := h.millis, cycles := bound h.cycles, probes := h.probes
      charging := h.charging, session := h.session, cycle := h.cycle, due := h.due
      idle := fun u => ⟨if_neg fun c => u c.1, (h.idle u).2⟩ }

theorem Pcc.Sound.quiet {q : Pcc} (h : q.Sound) (on : q.state ≠ .off) :
    ({ q with cycleTimer := some 0, burstTimer := none } : Pcc).Sound :=
  { level := h.level, millis := h.millis, cycles := h.cycles, probes := h.probes
    charging := h.charging, session := h.session, due := h.due
    idle := fun u => ⟨rfl, (h.idle u).2⟩
    cycle := ⟨fun _ => on, fun _ => rfl⟩ }

/-- A cycle's start leaves what allowance sees of the PCC. -/
theorem mayCharge_startCycle (s : State) (wide : Bool) (q : Pcc) : mayCharge s (q.startCycle wide) ↔ mayCharge s q := by
  obtain ⟨n, b, d, e, -⟩ := q.startCycle_eq wide
  rw [e]
  rfl

theorem Pcc.startCycle_state (wide : Bool) (q : Pcc) : (q.startCycle wide).state = q.state := by
  obtain ⟨n, b, d, e, -⟩ := q.startCycle_eq wide
  rw [e]

theorem runCycle_inv : Keeps penInv runCycle := by
  intro s h
  unfold runCycle
  split
  · exact h
  · next on =>
    obtain ⟨sound, may⟩ := (penInv_iff s).mp h
    refine (penInv_iff _).mpr ⟨(sound.quiet on).startCycle _, fun c => ?_⟩
    rw [State.onPcc_pcc, Pcc.startCycle_state] at c
    exact (mayCharge_startCycle s _ _).mpr (may c)

/-! ## The ends of a session (R133 to R137) -/

/-- CHARGING or PAUSED is left with the session closed, for a state in which neither burst nor window runs. -/
abbrev Pcc.ended (cause : EndCause) (st : PenState) (q : Pcc) : Pcc :=
  { (q.closeSession cause).leaveCharging with state := st }

theorem Pcc.ended_eq (cause : EndCause) (st : PenState) (q : Pcc) : q.ended cause st = { q with
    state := st, sessionOpen := false, lastEnd := if q.sessionOpen then cause else q.lastEnd
    burstTimer := none, penDrv := q.penDrv && q.burstTimer.isNone, progressTimer := none, limitDue := false } := by
  rw [Pcc.ended, Pcc.leaveCharging_eq, Pcc.closeSession_eq]

theorem Pcc.Sound.ended {q : Pcc} (h : q.Sound) (on : q.state ≠ .off) (cause : EndCause) {st : PenState} (off : st ≠ .off)
    (uncharged : st ≠ .charging) : (q.ended cause st).Sound := by
  rw [Pcc.ended_eq]
  exact .resting ⟨h.level, h.millis, h.cycles, h.probes⟩ (h.runs on) rfl rfl rfl off uncharged fun o => by cases o

theorem penFails_inv (e c) {s : State} (h : penSound s) (on : s.pcc.state ≠ .off) : penInv (penFails e c s) := by
  have failed : penInv (s.onPcc (Pcc.ended e .fault)) :=
    penInv_uncharged (h.ended on e (by simp) (by simp)) (by simp)
  exact penInv_powered.raiseFault _ (penInv_powered.place _ failed)

theorem Pcc.Sound.raiseSession {q : Pcc} (h : q.Sound) : q.raiseSession.Sound := by
  obtain ⟨⟨level, millis, cycles, probes⟩, charging, idle, session, cycle, due⟩ := h
  unfold Pcc.raiseSession
  split
  · exact ⟨⟨level, by dsimp only; omega, cycles, probes⟩, charging, idle, session, cycle, due⟩
  · exact ⟨⟨level, Nat.zero_le _, cycles, probes⟩, charging, idle, session, cycle, due⟩

theorem Pcc.Sound.countDue {q : Pcc} (h : q.Sound) : q.countDue.Sound := by
  unfold Pcc.countDue
  split
  · obtain ⟨bounded, charging, idle, session, cycle, -⟩ := h.raiseSession
    exact ⟨⟨bounded.level, bounded.millis, bounded.cycles, bounded.probes⟩, charging, idle, session, cycle,
      fun d => by cases d⟩
  · exact h

/-- The millisecond counted writes session time and its mark alone. -/
theorem Pcc.countDue_eq (q : Pcc) :
    ∃ n m, q.countDue = { q with seconds := n, millis := m, limitDue := false } := by
  unfold Pcc.countDue Pcc.raiseSession
  split
  · split <;> exact ⟨_, _, rfl⟩
  · next due =>
    have clear : q.limitDue = false := by simpa using due
    exact ⟨q.seconds, q.millis, by rw [← clear]⟩

theorem Pcc.countDue_state (q : Pcc) : q.countDue.state = q.state := by
  obtain ⟨n, m, e⟩ := q.countDue_eq
  rw [e]

theorem countDue_inv : Keeps penInv (State.onPcc Pcc.countDue) := by
  intro s h
  obtain ⟨sound, may⟩ := (penInv_iff s).mp h
  refine (penInv_iff _).mpr ⟨sound.countDue, fun c => ?_⟩
  obtain ⟨n, m, e⟩ := s.pcc.countDue_eq
  rw [State.onPcc_pcc, e] at c ⊢
  exact may c

theorem sessionLimit_inv {s : State} (h : penSound s) (charges : s.pcc.state = .charging) : penInv (sessionLimit s) := by
  rw [sessionLimit, if_pos charges]
  exact penFails_inv _ _ (s := s.onPcc Pcc.countDue) h.countDue (by rw [State.onPcc_pcc, Pcc.countDue_state]; simp [charges])

theorem sessionLimit_keeps : Keeps penInv sessionLimit := by
  intro s h
  by_cases charges : s.pcc.state = .charging
  · exact sessionLimit_inv (penSound_of_inv h) charges
  · rwa [sessionLimit, if_neg charges]

theorem checkLimit_sound : Keeps penSound checkLimit := by
  intro s h
  unfold checkLimit
  split
  · by_cases charges : s.pcc.state = .charging
    · exact penSound_of_inv (sessionLimit_inv h charges)
    · rwa [sessionLimit, if_neg charges]
  · exact h.countDue

theorem checkLimit_inv : Keeps penInv checkLimit := by
  intro s h
  unfold checkLimit
  split
  · exact sessionLimit_keeps h
  · exact countDue_inv h

theorem penFull_sound {s : State} (h : penSound s) (on : s.pcc.state ≠ .off) : penSound (penFull s) := by
  obtain ⟨bounded, charging, idle, session, cycle, due⟩ := h.ended on .full (st := .full) (by simp) (by simp)
  exact penSound_powered.place _
    ⟨⟨bounded.level, bounded.millis, Nat.zero_le _, bounded.probes⟩, charging, idle, session, cycle, due⟩

theorem penOff_inv {s : State} (h : penSound s) : penInv (penOff s) := by
  refine penInv_powered.place _ (penInv_uncharged ?_ (by simp))
  refine ⟨⟨fun l e => h.level l ?_, Nat.zero_le _, Nat.zero_le _, Nat.zero_le _⟩, fun c => ?_, fun _ => ⟨rfl, rfl⟩,
    fun o => ?_, by simp [Pcc.clearWork], fun d => ?_⟩
  · rw [← e, State.onPcc_pcc, Pcc.closeSession_eq]
    rfl
  all_goals simp [Pcc.clearWork] at *

/-! ## The decode (R128, R131, R137) -/

/-- A pen that is entering CHARGING: allowed, and sound once its session is open. -/
abbrev arriving (s : State) : Prop := s.pcc.state = .charging ∧ mayCharge s s.pcc ∧ s.pcc.charge.Sound

theorem arriving_powered : Powered arriving where
  sees s t pcc posture sleep h := by
    rw [arriving, pcc]
    exact ⟨h.1, (mayCharge_congr posture sleep _).mpr h.2.1, h.2.2⟩
  sleeps f s leads h := ⟨h.1, mayCharge_leads (s := s) rfl leads h.2.1, h.2.2⟩
  allowance {pl} _ s h := by
    rcases penAllowance_cases pl s with ⟨e, -⟩ | ⟨-, may, -⟩ | ⟨state, -⟩ | ⟨state, -⟩
    · rwa [e]
    · exact absurd h.2.1 may
    · simp [h.1] at state
    · simp [h.1] at state

theorem beginSession_arriving (o : PenState) {s : State} (h : arriving s) : penInv (beginSession place o s) :=
  penInv_powered.place _ ((penInv_iff _).mpr ⟨h.2.2, fun _ => h.2.1⟩)

theorem Pcc.Sound.heard {q : Pcc} (h : q.Sound) {l : Nat} (bound : l ≤ 100) : (q.heard l).Sound :=
  ⟨⟨fun _ e => by cases e; exact bound, h.millis, h.cycles, Nat.zero_le _⟩, h.charging, h.idle, h.session, h.cycle, h.due⟩

/-- Outside CHARGING and PAUSED nothing of a session runs. -/
theorem Pcc.Sound.sessionless {q : Pcc} (h : q.Sound) (uncharged : q.state ≠ .charging) (unpaused : q.state ≠ .paused) :
    q.sessionOpen = false ∧ q.limitDue = false ∧ q.burstTimer = none ∧ q.progressTimer = none := by
  refine ⟨?_, ?_, h.idle uncharged⟩
  · by_contra opened
    exact (h.session (by simpa using opened)).elim uncharged unpaused
  · by_contra due
    exact uncharged (h.due (by simpa using due))

theorem penDocked_sound {l : Nat} (bound : l ≤ 100) {s : State} (h : penSound s) (detected : s.pcc.state = .detected) :
    penSound (penDocked l s) := by
  have heard : (s.pcc.heard l).Sound := h.heard bound
  have runs : s.pcc.cycleTimer.isSome = true := h.runs (by simp [detected])
  obtain ⟨closed, undue, burst, window⟩ := h.sessionless (by simp [detected]) (by simp [detected])
  have bounded (st : PenState) : ({ s.pcc.heard l with state := st, silentCycles := 0 } : Pcc).Bounded :=
    ⟨heard.level, heard.millis, Nat.zero_le _, heard.probes⟩
  simp only [penDocked]
  refine penSound_powered.activity ?_
  split
  · next charges =>
    have may : mayCharge s (s.pcc.heard l) := by
      simp only [dockedState] at charges
      split at charges
      · cases charges
      · split at charges
        · next allows => exact (allowed_iff _).mp allows
        · cases charges
    have arrives : arriving ((s.onPcc (Pcc.heard l)).onPcc fun p => { p with
        state := dockedState l (s.onPcc (Pcc.heard l)), silentCycles := 0 }) :=
      ⟨charges, may, .charge (bounded _) runs⟩
    exact penSound_of_inv (beginSession_arriving _ (arriving_powered.place _ arrives))
  · next uncharged =>
    have on : dockedState l (s.onPcc (Pcc.heard l)) ≠ .off := by
      unfold dockedState
      split
      · simp
      · split <;> simp
    refine penSound_powered.place _ (.resting (bounded _) runs burst window undue on uncharged fun o => ?_)
    exact absurd o (by simp [Pcc.heard, closed])

/-- The pen is removed: the session closes and the level is gone. -/
def Pcc.removed (q : Pcc) : Pcc := { q.ended .removed .searching with level := none, silentProbes := 0 }

theorem penRemoved_sound {s : State} (h : penSound s) (on : s.pcc.state ≠ .off) : penSound (penRemoved s) := by
  obtain ⟨bounded, charging, idle, session, cycle, due⟩ := h.ended on .removed (st := .searching) (by simp) (by simp)
  have removed : penSound (s.onPcc Pcc.removed) :=
    ⟨⟨fun l e => (Option.some_ne_none l e.symm).elim, bounded.millis, bounded.cycles, Nat.zero_le _⟩, charging, idle,
      session, cycle, due⟩
  have told : penSound (activity (place (penRecord .removed s.pcc.state .none (s.onPcc Pcc.removed))
      (s.onPcc Pcc.removed))) := penSound_powered.activity (penSound_powered.place _ removed)
  unfold penRemoved
  dsimp only
  split
  · exact penSound_powered.wake _ told
  · exact told

theorem countSilent_sound {s : State} (h : penSound s) (on : s.pcc.state ≠ .off) : penSound (countSilent s) := by
  have counted : penSound (s.onPcc fun p => { p with silentProbes := min 15 (p.silentProbes + 1) }) :=
    ⟨⟨h.level, h.millis, h.cycles, Nat.min_le_left _ _⟩, h.charging, h.idle, h.session, h.cycle, h.due⟩
  simp only [countSilent]
  split
  · exact penRemoved_sound counted on
  · exact counted

/-- A valid reply gives a level of 100 at most (R128). -/
theorem Capture.reply_bound {c : Capture} {l : Nat} (e : c.reply = .valid l) : l ≤ 100 := by
  unfold Capture.reply at e
  split at e
  · cases e
  · split at e
    · cases e
    · split at e
      · split at e
        · next range =>
          cases e
          omega
        · cases e
      · cases e

theorem decodeChange_sound {r : Reply} (bound : ∀ l, r = .valid l → l ≤ 100) {s : State} (h : penSound s) :
    penSound (decodeChange r s) := by
  have replied {l : Nat} (e : r = .valid l) (on : s.pcc.state ≠ .off) :
      penSound (if l = 100 then penFull (s.onPcc (Pcc.heard l)) else s.onPcc (Pcc.heard l)) := by
    split
    · exact penFull_sound (s := s.onPcc (Pcc.heard l)) (h.heard (bound l e)) on
    · exact h.heard (bound l e)
  have moves {st : PenState} {level : Option Nat} (known : ∀ l, level = some l → l ≤ 100) (off : st ≠ .off)
      (uncharged : st ≠ .charging) (from_ : s.pcc.state = .searching ∨ s.pcc.state = .detected) :
      penSound (s.onPcc fun p => { p with level := level, state := st }) := by
    obtain ⟨closed, undue, burst, window⟩ := h.sessionless (by rcases from_ with e | e <;> simp [e])
      (by rcases from_ with e | e <;> simp [e])
    exact .resting ⟨known, h.millis, h.cycles, h.probes⟩ (h.runs (by rcases from_ with e | e <;> simp [e])) burst window
      undue off uncharged fun o => by simp [closed] at o
  have none_known (l : Nat) (e : (none : Option Nat) = some l) : l ≤ 100 := by cases e
  unfold decodeChange
  split
  case h_1 l state => exact moves (fun l' e => by cases e; exact bound _ rfl) (by simp) (by simp) (.inl state)
  case h_2 l state => exact penDocked_sound (bound l rfl) h state
  case h_3 state | h_4 state => exact moves none_known (by simp) (by simp) (.inr state)
  case h_5 state | h_6 state => exact replied rfl (by simp [state])
  case h_7 l _ | h_8 l _ => exact h.heard (bound l rfl)
  case h_9 state | h_10 state | h_11 state | h_12 state => exact countSilent_sound h (by simp [state])
  all_goals exact h

theorem decode_inv {s : State} (h : penSound s) : penInv (decode s) :=
  reallow_inv (decodeChange_sound (fun _ e => Capture.reply_bound e) h)

theorem applyStaged_inv : Keeps penInv applyStaged := by
  intro s h
  unfold applyStaged
  split
  · exact h
  · next set _ =>
    have active : penSound (s.onPcc fun p => { p with active := set, staged := none }) := by
      have sound := penSound_of_inv h
      exact ⟨⟨sound.level, sound.millis, sound.cycles, sound.probes⟩, sound.charging, sound.idle, sound.session,
        sound.cycle, sound.due⟩
    simp only
    split
    · exact penOff_inv active
    · split
      · exact reallow_inv (checkLimit_sound active)
      · exact checkLimit_inv (reallow_inv active)

theorem cycleEnd_inv : Keeps penInv cycleEnd := by
  intro s h
  unfold cycleEnd
  split
  · refine runCycle_inv (applyStaged_inv ?_)
    split
    · exact decode_inv (penSound_of_inv h)
    · exact h
  · exact h

theorem progressExpired_inv : Keeps penInv progressExpired := by
  intro s h
  obtain ⟨sound, may⟩ := (penInv_iff s).mp h
  unfold progressExpired
  split
  · next runs =>
    have charges : s.pcc.state = .charging := by
      by_contra uncharged
      simp [(sound.idle uncharged).2] at runs
    split
    · exact (penInv_iff _).mpr ⟨.inCharging ⟨sound.level, sound.millis, sound.cycles, sound.probes⟩
        (sound.runs (by simp [charges])) charges (sound.charging charges).1 rfl, may⟩
    · exact penFails_inv _ _ sound (by simp [charges])
  · exact h

/-! ## Requests of the charger (R121, R123) -/

/-- The settings of the host stand outside what is sound of the PCC's block. -/
theorem Pcc.Sound.settings {q : Pcc} (h : q.Sound) (x : PenSet) (y : Option PenSet) (c : Bool) (u : Supply) :
    ({ q with active := x, staged := y, collision := c, supply := u } : Pcc).Sound :=
  { level := h.level, millis := h.millis, cycles := h.cycles, probes := h.probes
    charging := h.charging, idle := h.idle, session := h.session, cycle := h.cycle, due := h.due }

theorem placeSet_inv (x) : Keeps penInv (placeSet x) := by
  intro s h
  obtain ⟨sound, may⟩ := (penInv_iff s).mp h
  unfold placeSet
  split
  · next off =>
    obtain ⟨closed, undue, -, window⟩ := sound.sessionless (by simp [off]) (by simp [off])
    simp only
    split
    · have started : ({ s.pcc with active := x, collision := false, state := .searching, cycleTimer := some 0
                                   burstTimer := none } : Pcc).Sound :=
        .resting ⟨sound.level, sound.millis, sound.cycles, sound.probes⟩ rfl rfl window undue (by simp) (by simp)
          fun o => absurd o (by simp [closed])
      refine penInv_uncharged (started.startCycle (q := { s.pcc with
        active := x, collision := false, state := .searching }) _) ?_
      exact fun c => by cases (Pcc.startCycle_state _ _).symm.trans c
    · exact penInv_uncharged (sound.settings x _ false _) fun c => by simp [off] at c
  · exact (penInv_iff _).mpr ⟨sound.settings _ (some x) false _, may⟩

theorem configPen_inv (tag raw) : Keeps penInv (configPen tag raw) := by
  intro s h
  obtain ⟨sound, may⟩ := (penInv_iff s).mp h
  unfold configPen
  split
  · exact penInv_powered.unseen h
  · split
    · exact penInv_powered.unseen (s := s.onPcc fun q => { q with collision := true })
        ((penInv_iff _).mpr ⟨sound.settings _ _ true _, may⟩)
    · exact penInv_powered.unseen (placeSet_inv _ h)

theorem setSupply_inv (tag arg) : Keeps penInv (setSupply tag arg) := by
  intro s h
  unfold setSupply
  split
  · next c _ =>
    exact penInv_powered.unseen (reallow_inv (s := s.onPcc fun p => { p with supply := c })
      ((penSound_of_inv h).settings _ _ _ c))
  · exact penInv_powered.unseen h

/-! ## The events within a cycle (R126, R127) -/

theorem stopBurst_inv : Keeps penInv (State.onPcc Pcc.stopBurst) := by
  intro s h
  obtain ⟨sound, may⟩ := (penInv_iff s).mp h
  refine (penInv_iff _).mpr ?_
  simp only [penSound, chargeAllowed, State.onPcc_pcc, Pcc.stopBurst_eq]
  exact ⟨{ level := sound.level, millis := sound.millis, cycles := sound.cycles, probes := sound.probes
           charging := sound.charging, session := sound.session, cycle := sound.cycle, due := sound.due
           idle := fun u => ⟨rfl, (sound.idle u).2⟩ }, may⟩

/-- An update of the PCC that writes the probe's phase and timer, the two pins and the capture alone. -/
abbrev Pcc.Probes (f : Pcc → Pcc) : Prop := ∀ q, ∃ ph t d r c, f q = { q with
  phase := ph, probeTimer := t, penDrv := d, penRx := r, capture := c }

theorem probes_inv {f : Pcc → Pcc} (hf : Pcc.Probes f) : Keeps penInv (State.onPcc f) := by
  intro s h
  obtain ⟨sound, may⟩ := (penInv_iff s).mp h
  obtain ⟨_, _, _, _, _, e⟩ := hf s.pcc
  refine (penInv_iff _).mpr ?_
  simp only [penSound, chargeAllowed, State.onPcc_pcc, e]
  exact ⟨{ level := sound.level, millis := sound.millis, cycles := sound.cycles, probes := sound.probes
           charging := sound.charging, idle := sound.idle, session := sound.session, cycle := sound.cycle
           due := sound.due }, may⟩

/-! ## Commits and changes of dock state -/

/-- The PCC's reading of a commit brings the charge in line with the posture written (R35, R130). -/
theorem commitPosture_inv (p c r) : Keeps penInv (commitPosture p c r) := by
  intro s h
  have weak := penSound_powered
  have whole := penInv_powered
  have sound : penSound s := penSound_of_inv h
  have written : penSound (writeCommit p c r s) := sound
  exact recheckBlocked_keeps (fun _ _ h => whole.unseen h) (ReaderOrder.run_leads_second (weak.recompute _)
    (whole.recompute _) (fun _ => reallow_inv) (weak.sleepOnCommit _ _) (whole.sleepOnCommit _ _) _
    (weak.place _ written))

theorem penInv_posed : Posed penInv :=
  ⟨fun _ same s h => penInv_powered.unseen h (posture := congrArg PostureRecord.posture (same s.pse)), commitPosture_inv⟩

/-- A predicate of the charger through a change of dock state, by what the transition hands to the SDU. -/
theorem changeDock_inv {new ev cause sdu} (hu : Keeps penInv sdu) : Keeps penInv (changeDock new ev cause sdu) := by
  intro s h
  have posture := penInv_posed.postureOnDock s.dlc.state
  have recompute := penInv_powered.recompute .dock
  have entered : penInv (s.onDlc fun d => Dlc.enterState new d.leaveState) := penInv_powered.unseen h
  refine ReaderOrder.run_leads posture recompute recompute hu hu _ (penInv_powered.unseen ?_)
  cases ev
  · exact entered
  · exact penInv_powered.place _ entered

theorem wakeActivity_inv (k) : Keeps penInv fun s => activity (wake k s) :=
  fun _ h => penInv_powered.activity (penInv_powered.wake k h)

theorem nothing_inv : Keeps penInv nothing := fun _ h => h

/-! ## HOST_STATE (R149 to R152) -/

theorem noticeOn_unseen {P : State → Prop} (h : Powered P) (old new) : Keeps P (noticeOn old new) := by
  intro s hs
  unfold noticeOn
  split
  · exact h.unseen hs
  · exact hs

/-- The reading of a change between awake and asleep states brings the charge in line with the sleep state. -/
theorem readSleep_inv {old new : SleepState} (asleep : (old.asleep || new.asleep) = true) {s : State} (h : penSound s) :
    penInv (readSleep old new s) :=
  readSleep_leads (penSound_powered.recompute .sleep) (penInv_powered.recompute .sleep) (fun _ => reallow_inv) asleep h

theorem hostStandby_inv : Keeps penInv hostStandby := by
  intro s h
  have sound := penSound_of_inv h
  by_cases awake : s.sdu.sleep.asleep = false
  · rw [hostStandby_awake awake]
    have read := readSleep_inv (old := s.sdu.sleep) (new := .standby) (by simp [SleepState.asleep])
      (s := s.onSdu Sdu.inStandby) sound
    exact noticeOn_unseen penInv_powered _ _ (penInv_powered.unseen read)
  · cases sleep : s.sdu.sleep
    case waking =>
      rw [hostStandby_waking sleep]
      exact noticeOn_unseen penInv_powered _ _ (readSleep_inv rfl (s := s.onSdu Sdu.ungathered) sound)
    case standby =>
      rw [hostStandby, sleep]
      exact h
    all_goals simp [sleep, SleepState.asleep] at awake

theorem hostRunning_inv : Keeps penInv hostRunning := by
  intro s h
  have sound := penSound_of_inv h
  by_cases asleep : s.sdu.sleep.asleep = true
  · rw [hostRunning_asleep asleep]
    have read := readSleep_inv (old := s.sdu.sleep) (new := .active) (by simp [asleep])
      (s := s.onSdu (Sdu.running s.params)) sound
    exact noticeOn_unseen penInv_powered _ _ (penInv_powered.unseen read)
  · unfold hostRunning
    split
    case h_4 sleep | h_5 sleep => simp [sleep, SleepState.asleep] at asleep
    all_goals exact penInv_powered.activity h

end Sys2Proof.Machine
end

section
/-! PROOFS. The charger's invariant (O58) through the dock state machine and the link, the Posture Engine, the requests, the
resets, and every command and step. -/

namespace Sys2Proof.Machine

/-- Updates of a block that the invariant does not see. -/
theorem penInv_onDlc (f) : Keeps penInv (State.onDlc f) := fun _ h => penInv_powered.unseen h

theorem penInv_onHlc (f) : Keeps penInv (State.onHlc f) := fun _ h => penInv_powered.unseen h

theorem penInv_respond (ty tag st p) : Keeps penInv (respond ty tag st p) := penInv_onHlc _

/-! ## The dock state machine -/

theorem silentDock_inv {new ev cause} : Keeps penInv (changeDock new ev cause nothing) := changeDock_inv nothing_inv

theorem acceptHello_inv (i) : Keeps penInv (acceptHello i) := by
  intro s h
  have identified : penInv (s.onDlc fun d => { d with identity := i }) := penInv_onDlc _ h
  unfold acceptHello
  simp only
  split
  · exact changeDock_inv (wakeActivity_inv _) identified
  · exact changeDock_inv (wakeActivity_inv _) (penInv_posed.invalidateBase identified)

theorem latchRequested_inv : Keeps penInv latchRequested :=
  fun _ h => keeps_ite (changeDock_inv (penInv_powered.wake _) h) h

theorem restartDock_inv : Keeps penInv restartDock := by
  intro s h
  unfold restartDock
  split
  case h_1 | h_2 | h_3 | h_4 => exact silentDock_inv h
  all_goals exact h

theorem loseBase_inv : Keeps penInv loseBase := by
  intro s h
  unfold loseBase
  split
  case h_1 => exact changeDock_inv penInv_powered.activity h
  case h_2 | h_3 | h_4 => exact changeDock_inv (wakeActivity_inv _) h
  case h_8 => exact h
  all_goals exact silentDock_inv h

theorem senseMillisecond_inv (present) : Keeps penInv (senseMillisecond present) := by
  intro s h
  have timed (t : Timer) : penInv (s.onDlc fun d => { d with senseTimer := t }) := penInv_onDlc _ h
  unfold senseMillisecond
  split
  · exact keeps_ite (silentDock_inv (timed none)) (timed none)
  · split
    · exact h
    · exact keeps_ite (silentDock_inv (timed _)) (timed _)

theorem senseComplete_inv : Keeps penInv senseComplete :=
  fun _ h => by
    unfold senseComplete
    split
    · exact silentDock_inv (penInv_onDlc _ h)
    · exact h

theorem senseLost_inv : Keeps penInv senseLost := by
  intro s h
  unfold senseLost
  split
  · exact loseBase_inv (penInv_onDlc _ h)
  · exact h

theorem acceptPress_inv : Keeps penInv acceptPress := fun _ h => latchRequested_inv (penInv_onDlc _ h)

theorem buttonMillisecond_inv (pressed) : Keeps penInv (buttonMillisecond pressed) := by
  intro s h
  unfold buttonMillisecond
  split
  · exact penInv_onDlc _ h
  · split
    · exact penInv_onDlc _ h
    · split
      · exact penInv_onDlc _ h
      · split
        · exact acceptPress_inv h
        · exact penInv_onDlc _ h

theorem helloExpired_inv : Keeps penInv helloExpired := by
  intro s h
  unfold helloExpired
  split
  · split
    · exact penInv_onDlc _ h
    · exact penInv_powered.raiseFault _ (silentDock_inv h)
  · exact h

/-! ## The Dock Link -/

theorem linkError_inv : Keeps penInv linkError := by
  intro s h
  have counted := penInv_onDlc Dlc.countError h
  unfold linkError
  split
  · simp only
    split
    · exact silentDock_inv (penInv_powered.raiseFault _ (penInv_onDlc _ counted))
    · exact counted
  · exact h

theorem managementClass_inv (c p) : Keeps penInv (managementClass c p) := by
  intro s h
  unfold managementClass
  split
  · split
    · exact acceptHello_inv _ h
    · exact linkError_inv h
  · split
    · exact silentDock_inv h
    · exact h

theorem management_inv (c b p) : Keeps penInv (management c b p) := by
  intro s h
  have restarted : penInv (nodeZeroRestart s) :=
    nodeZeroRestart_leads restartDock_inv restartDock_inv (fun t ht => by
      rw [reenableDock_eq]
      exact penInv_powered.reenable _ ht) h
  refine managementClass_inv _ _ ?_
  split
  · exact restarted
  · exact h

theorem frameArrives_inv (n c b p) : Keeps penInv (frameArrives n c b p) := by
  intro s h
  have buffered (f : Frame) : penInv (bufferFrame f s) := by
    unfold bufferFrame
    split
    · exact penInv_onDlc _ h
    · exact penInv_powered.raiseFault _ h
  unfold frameArrives
  split
  · exact h
  · split
    · exact linkError_inv h
    · split
      · split
        · exact h
        · exact management_inv _ _ _ h
      · split
        · exact buffered _
        · exact h

theorem setRx_inv (r) : Keeps penInv (setRx r) := penInv_onDlc _

theorem dataCharacter_inv (b) : Keeps penInv (dataCharacter b) := by
  intro s h
  have rx (r) := setRx_inv r h
  unfold dataCharacter
  split
  · exact h
  · split
    · exact linkError_inv (rx _)
    · split <;> exact rx _
  · split <;> exact rx _
  · split
    · exact frameArrives_inv _ _ _ _ (rx _)
    · exact linkError_inv (rx _)

theorem receive_inv (data mark stop) : Keeps penInv (receive data mark stop) := by
  intro s h
  have rx (r) := setRx_inv r h
  unfold receive
  split
  · exact h
  · split
    · split
      · exact linkError_inv (rx _)
      · exact h
    · split
      · exact keeps_ite (linkError_inv (rx _)) (rx _)
      · exact dataCharacter_inv _ h

/-! ## The traffic path and the Posture Engine -/

theorem takeHead_inv : Keeps penInv takeHead := by
  intro s h
  unfold takeHead
  split
  · refine penInv_powered.classify _ _ (penInv_posed.tap _ ?_)
    split
    · exact penInv_powered.reenable _ h
    · exact h
  · exact h

/-- An update of the PSE that keeps the Posture Record, and the record that it places. -/
theorem rotExpire_inv (quiet) : Keeps penInv (rotExpire quiet) := by
  intro s h
  unfold rotExpire
  split
  · split
    · simp only
      split
      · exact penInv_posed.rest h
      · exact penInv_powered.place _ (penInv_posed.rest h)
    · exact penInv_posed.rest h
  all_goals exact h

theorem compareRho_inv (quiet rho) : Keeps penInv (compareRho quiet rho) := by
  intro s h
  unfold compareRho
  split
  · exact penInv_posed.rest h
  · split
    · exact h
    · simp only
      split
      · exact rotExpire_inv _ (penInv_posed.rest h)
      · exact penInv_posed.rest h

theorem orientStep_inv : Keeps penInv orientStep := by
  intro s h
  simp only [orientStep]
  split
  · split
    · exact penInv_posed.rest h
    · exact penInv_powered.place _ (penInv_posed.rest h)
  · split
    · exact penInv_powered.place _ (compareRho_inv _ _ (penInv_posed.rest h))
    · exact compareRho_inv _ _ (penInv_posed.rest h)

theorem lidFailure_inv : Keeps penInv lidFailure := by
  intro s h
  simp only [lidFailure]
  split
  · exact penInv_powered.raiseFault _ (penInv_posed.rest h)
  · exact penInv_posed.rest h

theorem lidArrival_inv (v) : Keeps penInv (lidArrival v) := fun s h =>
  have read : penInv (s.onPse fun p => { p with lid := v, failures := 0, readBusy := none }) := penInv_posed.rest h
  penInv_powered.classify _ _ (penInv_posed.hingeStepOf (orientStep_inv read))

theorem acceptHall_inv (i l) : Keeps penInv (acceptHall i l) := fun _ h =>
  penInv_powered.classify _ _ (penInv_posed.evaluate (penInv_posed.setHall _ _ h))

theorem settleHall_inv (i l) : Keeps penInv (settleHall i l) := fun _ h => keeps_ite (acceptHall_inv _ _ h) h

theorem hallMillisecond_inv (a b) : Keeps penInv (hallMillisecond a b) := by
  intro s h
  have counted : penInv (countHall .fold b (countHall .lid a s)) :=
    penInv_posed.setHall _ _ (penInv_posed.setHall _ _ h)
  unfold hallMillisecond
  simp only
  split
  · exact settleHall_inv _ _ (settleHall_inv _ _ counted)
  · exact settleHall_inv _ _ (settleHall_inv _ _ counted)

theorem staleExpired_inv {s} (h : penInv s) : penInv (if s.pse.staleTimer.isSome then
    (let s1 := s.onPse fun p => { p with staleTimer := none, hinge := .unknown }
     if s.pse.hinge = .unknown then s1 else evaluate s1) else s) := by
  split
  · simp only
    split
    · exact penInv_posed.rest h
    · exact penInv_posed.evaluate (penInv_posed.rest h)
  · exact h

/-! ## Requests -/

theorem configSet_inv (tag number value) : Keeps penInv (configSet tag number value) := by
  intro s h
  have stored (n v) : penInv (storeParam n v s) := by
    have written : penInv (s.onParams fun p => p.set n v) := penInv_powered.unseen h
    exact keeps_ite (penInv_posed.recheckBlocked written) written
  unfold configSet
  simp only
  split
  · exact penInv_respond _ _ _ _ h
  · split
    · exact penInv_respond _ _ _ _ h
    · split
      · exact penInv_respond _ _ _ _ h
      · exact penInv_respond _ _ _ _ (stored _ _)

theorem configGet_inv (tag number) : Keeps penInv (configGet tag number) := by
  intro s h
  unfold configGet
  split <;> exact penInv_respond _ _ _ _ h

theorem loadRoute_inv (tag index fields) : Keeps penInv (loadRoute tag index fields) := by
  intro s h
  unfold loadRoute
  split
  · exact penInv_respond _ _ _ _ h
  · split
    · split
      · exact penInv_respond _ _ _ _ h
      · exact penInv_respond _ _ _ _ (penInv_powered.unseen (penInv_powered.vacateRoute _ _ h))
    · exact penInv_respond _ _ _ _ h

theorem clearRoute_inv (tag index) : Keeps penInv (clearRoute tag index) := by
  intro s h
  unfold clearRoute
  split
  · exact penInv_respond _ _ _ _ h
  · split
    · exact penInv_respond _ _ _ _ (penInv_powered.unseen (penInv_powered.vacateRoute _ _ h))
    · exact penInv_respond _ _ _ _ h

theorem readRoute_inv (tag index) : Keeps penInv (readRoute tag index) := by
  intro s h
  unfold readRoute
  split <;> exact penInv_respond _ _ _ _ h

theorem loadPosture_inv (tag row fields) : Keeps penInv (loadPosture tag row fields) := by
  intro s h
  unfold loadPosture
  split
  · exact penInv_respond _ _ _ _ h
  · split
    · exact penInv_respond _ _ _ _ (penInv_posed.rest h)
    · exact penInv_respond _ _ _ _ h

theorem readPosture_inv (tag row) : Keeps penInv (readPosture tag row) := by
  intro s h
  unfold readPosture
  split <;> exact penInv_respond _ _ _ _ h

theorem orientLock_inv (tag arg) : Keeps penInv (orientLock tag arg) := by
  intro s h
  unfold orientLock
  split
  · exact penInv_respond _ _ _ _ (penInv_posed.setLock _ h)
  · exact penInv_respond _ _ _ _ h

theorem sendDock_inv (tag node cls len payload) : Keeps penInv (sendDock tag node cls len payload) := by
  intro s h
  unfold sendDock
  split
  · exact penInv_respond _ _ _ _ h
  · split
    · exact penInv_respond _ _ _ _ h
    · split
      · exact penInv_respond _ _ _ _ h
      · exact penInv_respond _ _ _ _ (penInv_onDlc _ h)

theorem answerDetach_inv (tag arg) : Keeps penInv (answerDetach tag arg) := by
  intro s h
  unfold answerDetach
  split
  · exact penInv_respond _ _ _ _ h
  · split
    · exact penInv_respond _ _ _ _ h
    · refine penInv_respond _ _ _ _ ?_
      split
      · exact silentDock_inv h
      · exact silentDock_inv h

theorem retryDock_inv (tag) : Keeps penInv (retryDock tag) := by
  intro s h
  unfold retryDock
  split
  · exact penInv_respond _ _ _ _ (silentDock_inv h)
  · exact penInv_respond _ _ _ _ h

theorem setHostState_inv (tag arg) : Keeps penInv (setHostState tag arg) := by
  intro s h
  unfold setHostState
  split
  · exact penInv_respond _ _ _ _ (hostStandby_inv h)
  · split
    · exact penInv_respond _ _ _ _ (hostRunning_inv h)
    · exact penInv_respond _ _ _ _ h

theorem holdClaim_inv (tag slot cls owner lifetime) : Keeps penInv (holdClaim tag slot cls owner lifetime) := by
  intro s h
  unfold holdClaim
  split
  · split
    · exact penInv_respond _ _ _ _ h
    · split
      · exact penInv_respond _ _ _ _ h
      · exact penInv_respond _ _ _ _ (penInv_powered.claimHold _ _ _ _ h)
  · exact penInv_respond _ _ _ _ h

theorem holdRelease_inv (tag slot owner) : Keeps penInv (holdRelease tag slot owner) := by
  intro s h
  unfold holdRelease
  split
  · split
    · exact penInv_respond _ _ _ _ h
    · split
      · exact penInv_respond _ _ _ _ h
      · split
        · exact penInv_respond _ _ _ _ h
        · exact penInv_respond _ _ _ _ (penInv_powered.deferredAdvice (penInv_powered.setHold _ _ h))
  · exact penInv_respond _ _ _ _ h

theorem drainQueue_inv (tag count lane) : Keeps penInv (drainQueue tag count lane) := by
  intro s h
  unfold drainQueue
  split
  · exact penInv_respond _ _ _ _ h
  · split
    · refine penInv_respond _ _ _ _ ?_
      split
      · exact penInv_powered.unseen h
      · exact penInv_powered.reread.retryStall (penInv_powered.unseen h)
    · exact penInv_respond _ _ _ _ h

/-! ## Resets and the passing of a millisecond -/

/-- The PCC in OFF, its working state cleared. -/
theorem Pcc.Sound.switchedOff {q : Pcc} (off : q.state = .off) (bounded : q.Bounded) (cycle : q.cycleTimer = none)
    (burst : q.burstTimer = none) (window : q.progressTimer = none) (closed : q.sessionOpen = false)
    (undue : q.limitDue = false) : q.Sound where
  toBounded := bounded
  charging c := by simp [off] at c
  idle _ := ⟨burst, window⟩
  session o := by simp [closed] at o
  cycle := by simp [off, cycle]
  due d := by simp [undue] at d

theorem coldState_inv (s : State) : penInv (coldState s) := by
  refine penInv_powered.unseen (s := State.reset) (penInv_uncharged ?_ (by decide))
  exact .switchedOff rfl ⟨fun _ e => (by cases e), Nat.zero_le _, Nat.zero_le _, Nat.zero_le _⟩ rfl rfl rfl rfl rfl

/-- A warm reset leaves the charger OFF or, with a first cycle, in SEARCHING (R141). -/
theorem warmReset_inv (c : WarmCause) (s : State) : penInv (warmReset c s) := by
  have bounded : s.pcc.warm.Bounded := ⟨fun _ e => (by cases e), Nat.zero_le _, Nat.zero_le _, Nat.zero_le _⟩
  unfold warmReset runCycle
  split
  · next off =>
    have off : s.pcc.warm.state = .off := off
    exact penInv_uncharged (.switchedOff off bounded rfl rfl rfl rfl rfl) fun charges => by cases off.symm.trans charges
  · next on =>
    have on : s.pcc.warm.state ≠ .off := on
    have uncharged : s.pcc.warm.state ≠ .charging := by
      simp only [Pcc.warm]
      split <;> simp
    have started : ({ s.pcc.warm with cycleTimer := some 0, burstTimer := none } : Pcc).Sound :=
      .resting ⟨bounded.level, bounded.millis, bounded.cycles, bounded.probes⟩ rfl rfl rfl rfl on uncharged fun o => (by cases o)
    exact penInv_uncharged (started.startCycle _) fun charges =>
      uncharged ((Pcc.startCycle_state _ _).symm.trans charges)

/-- A millisecond of session time, and the one that falls due in CHARGING alone (R132, R135). -/
theorem Pcc.sessionTick_eq (q : Pcc) : ∃ n m d, q.sessionTick = { q with seconds := n, millis := m, limitDue := d }
    ∧ (q.millis ≤ 999 → m ≤ 999) ∧ (d = true → q.limitDue = true ∨ q.state = .charging) := by
  unfold Pcc.sessionTick
  split
  · next charges =>
    split
    · exact ⟨_, _, _, rfl, id, fun _ => .inr charges⟩
    · unfold Pcc.raiseSession
      split
      · exact ⟨_, _, _, rfl, fun _ => by omega, .inl⟩
      · exact ⟨_, _, _, rfl, fun _ => Nat.zero_le _, .inl⟩
  · exact ⟨_, _, _, rfl, id, .inl⟩

theorem tick_inv : Keeps penInv tick := by
  intro s h
  obtain ⟨sound, may⟩ := (penInv_iff s).mp h
  obtain ⟨n, m, d, e, millis, due⟩ := s.pcc.sessionTick_eq
  refine (penInv_iff _).mpr ?_
  simp only [penSound, chargeAllowed, tick, Pcc.tick, e]
  exact ⟨{ level := sound.level, millis := millis sound.millis, cycles := sound.cycles, probes := sound.probes
           charging := fun c => ⟨(sound.charging c).1, (Timer.after_isSome _).trans (sound.charging c).2⟩
           idle := fun u => ⟨congrArg Timer.after (sound.idle u).1, congrArg Timer.after (sound.idle u).2⟩
           session := sound.session
           cycle := (Timer.after_isSome _).symm ▸ sound.cycle
           due := fun fell => (due fell).elim sound.due id }, may⟩

/-! ## Every command and every step -/

theorem runRequest_inv (c : Instr) : Keeps penInv (runRequest c) := by
  intro s h
  cases c
  case identify => exact penInv_respond _ _ _ _ h
  case status => exact penInv_respond _ _ _ _ h
  case configSet => exact configSet_inv _ _ _ h
  case configGet => exact configGet_inv _ _ h
  case freeze => exact penInv_respond _ _ _ _ (penInv_onHlc _ h)
  case reset => exact penInv_respond _ _ _ _ (warmReset_inv _ s)
  case faultClear => exact penInv_respond _ _ _ _ (penInv_onHlc _ h)
  case routeLoad => exact loadRoute_inv _ _ _ h
  case routeClear => exact clearRoute_inv _ _ h
  case routeRead => exact readRoute_inv _ _ h
  case postureLoad => exact loadPosture_inv _ _ _ h
  case postureRead => exact readPosture_inv _ _ h
  case orientLock => exact orientLock_inv _ _ h
  case dockSend => exact sendDock_inv _ _ _ _ _ h
  case detachAnswer => exact answerDetach_inv _ _ h
  case dockRetry => exact retryDock_inv _ h
  case penConfig => exact configPen_inv _ _ h
  case supply => exact setSupply_inv _ _ h
  case hostState => exact setHostState_inv _ _ h
  case holdClaim => exact holdClaim_inv _ _ _ _ _ h
  case holdRelease => exact holdRelease_inv _ _ _ h
  case drain => exact drainQueue_inv _ _ _ h
  all_goals exact h

theorem transact_inv (waited mosi) : Keeps penInv (transact waited mosi) := by
  intro s h
  have taken (r) : Keeps penInv (takeRequest r) := by
    intro t ht
    unfold takeRequest
    split
    · exact ht
    · exact penInv_powered.raiseFault _ (penInv_respond _ _ _ _ ht)
    · split
      · exact runRequest_inv _ ht
      · exact penInv_respond _ _ _ _ ht
  have clocked : penInv (s.onHlc fun h => (h.select waited).clock mosi.bits) := penInv_onHlc _ h
  unfold transact
  simp only
  split
  · unfold endTransfer
    simp only
    split
    · split
      · exact taken _ (penInv_onHlc _ (penInv_onHlc _ clocked))
      · exact penInv_onHlc _ (penInv_onHlc _ clocked)
    all_goals exact penInv_onHlc _ clocked
  · exact clocked

/-- A command answers with a next state that meets the charger's invariant. -/
abbrev PenKept (c : Instr) (s : State) : Prop := ∃ t, exec c s = .next t ∧ penInv t

theorem penKept_done {s : State} (h : penInv s) : ∃ t, done s = .next t ∧ penInv t := ⟨_, rfl, penInv_powered.unseen h⟩

/-- Every command keeps the charger's invariant. -/
theorem penKept (c : Instr) {s : State} (h : penInv s) : PenKept c s := by
  have changes {new ev cause} : penInv (changeDock new ev cause nothing s) := silentDock_inv h
  have probes {f : Pcc → Pcc} (hf : Pcc.Probes f) : penInv (s.onPcc f) := probes_inv hf h
  cases c
  case hostTransaction => exact penKept_done (transact_inv _ _ h)
  case coldReset => exact penKept_done (coldState_inv s)
  case warmResetPin => exact penKept_done (warmReset_inv _ s)
  case lidReadTimerExpiry => exact penKept_done (keeps_ite (penInv_posed.rest h) h)
  case lidSampleArrival => exact penKept_done (keeps_ite (lidArrival_inv _ h) h)
  case lidReadFailure => exact penKept_done (keeps_ite (lidFailure_inv h) h)
  case rotSettleExpiry => exact penKept_done (keeps_ite (rotExpire_inv _ h) h)
  case pairingTimerExpiry => exact penKept_done (penInv_posed.rest h)
  case staleTimerExpiry => exact penKept_done (staleExpired_inv h)
  case hallChange => exact penKept_done (by split; exacts [h, acceptHall_inv _ _ h])
  case settleTimerExpiry =>
    exact penKept_done (by split; exacts [commitPosture_inv _ _ _ (penInv_posed.rest h), h])
  case dockFrameTaken => exact penKept_done (takeHead_inv h)
  case stallTimerExpiry => exact penKept_done (penInv_powered.escalateStall h)
  case dockCharacter => exact penKept_done (by split; exacts [h, receive_inv _ _ _ h])
  case dockFrameArrival =>
    have hunting := setRx_inv .hunt h
    exact penKept_done (by split; exacts [linkError_inv hunting, frameArrives_inv _ _ _ _ hunting])
  case errorWindowExpiry => exact penKept_done (keeps_ite (penInv_onDlc _ h) h)
  case transmissionStart => exact penKept_done (keeps_ite (penInv_onDlc _ h) h)
  case transmissionComplete => exact penKept_done (penInv_onDlc _ h)
  case dockSenseLevel => exact penKept_done (senseMillisecond_inv _ h)
  case senseDebounceComplete => exact penKept_done (senseComplete_inv h)
  case senseLoss => exact penKept_done (senseLost_inv h)
  case latchRequest => exact penKept_done (acceptPress_inv h)
  case helloTimerExpiry => exact penKept_done (helloExpired_inv h)
  case grantTimerExpiry => exact penKept_done (by split; exacts [by split <;> exact changes, h])
  case quiesceTimerExpiry => exact penKept_done (keeps_ite changes h)
  case releaseWindowExpiry => exact penKept_done (keeps_ite changes h)
  case latchDelayExpiry => exact penKept_done (keeps_ite (penInv_onDlc _ h) h)
  case latchPeriodExpiry => exact penKept_done (by split; exacts [by split <;> exact penInv_onDlc _ h, h])
  case latchOnExpiry => exact penKept_done (keeps_ite (penInv_onDlc _ h) h)
  case penCycleEnd => exact penKept_done (cycleEnd_inv h)
  case burstTimerExpiry => exact penKept_done (stopBurst_inv h)
  case probeStart => exact penKept_done (keeps_ite (probes fun _ => ⟨_, _, _, _, _, rfl⟩) h)
  case probeEnd => exact penKept_done (keeps_ite (probes fun _ => ⟨_, _, _, _, _, rfl⟩) h)
  case penRxEdge =>
    refine penKept_done (probes fun q => ?_)
    split
    · exact ⟨_, _, _, _, _, rfl⟩
    · exact ⟨_, _, _, _, _, rfl⟩
  case captureOverflow => exact penKept_done (keeps_ite (probes fun _ => ⟨_, _, _, _, _, rfl⟩) h)
  case progressWindowExpiry => exact penKept_done (progressExpired_inv h)
  case sessionLimit => exact penKept_done (sessionLimit_keeps h)
  case dimTimerExpiry => exact penKept_done (penInv_powered.dimExpired h)
  case sleepTimerExpiry => exact penKept_done (penInv_powered.sleepExpired h)
  case gatherTimerExpiry =>
    exact penKept_done (keeps_ite (f := gatherEnd place) (penInv_powered.place _ (penInv_powered.unseen h)) h)
  case holdExpiry => exact penKept_done (penInv_powered.holdExpired _ h)
  case flushTimerExpiry => exact penKept_done (keeps_ite (f := flushStage) (penInv_powered.unseen h) h)
  case hallMillisecondLevel => exact penKept_done (hallMillisecond_inv _ _ h)
  case latchButtonMillisecondLevel => exact penKept_done (buttonMillisecond_inv _ h)
  -- the requests
  all_goals
    rw [PenKept, exec_request _ rfl]
    exact penKept_done (runRequest_inv _ h)

/-- Settles O58: every command keeps the charger's invariant, and so does a millisecond. -/
theorem penInvariantKept : Obligations.PenInvariantKept := by
  intro s t _ _ h _ e
  have kept (c : Instr) (s' : State) (e' : exec c s' = .next t) (h' : penInv s') : penInv t := by
    obtain ⟨t', stepped, ht⟩ := penKept c h'
    cases stepped.symm.trans e'
    exact ht
  unfold step at e
  split at e
  · exact kept _ _ e (penInv_powered.unseen h)
  · split at e
    · exact kept _ _ e h
    · cases e
      exact tick_inv h

end Sys2Proof.Machine
end

section
/-! PROOFS. The invariants after power-on (O60), and PEN_CONFIG (O46): the set that its fields spell, brought into range, and
the charger's first cycle. -/

namespace Sys2Proof.Machine

/-! ## Power-on (O60) -/

theorem queueInv_reset : queueInv State.reset := by
  refine ⟨by decide, by decide, by decide, by decide, by decide, by decide, rfl, rfl, List.nodup_nil, fun h => ?_,
    fun h => ?_, fun h => ?_, by decide⟩
  · exact absurd rfl h
  · cases h
  · cases h

theorem dockInv_reset : dockInv State.reset := by
  refine ⟨by decide, by decide, by decide, by decide, fun _ => ⟨rfl, rfl, rfl, rfl, rfl⟩, Nat.zero_le _, by decide,
    fun _ => rfl, by decide, fun _ => ⟨rfl, rfl⟩, fun _ => ⟨rfl, rfl, rfl, rfl⟩, by decide, by decide, by decide, by decide⟩

/-- Settles O60. -/
theorem resetMeetsInvariants : Obligations.ResetMeetsInvariants :=
  ⟨queueInv_reset, dockInv_reset, coldState_inv State.reset, coldState_traffic State.reset⟩

/-! ## The set of PEN_CONFIG (R119, R120) -/

theorem flagOfCode_eq {b : Byte} (flag : b.toNat ≤ 1) : flagOfCode b = some (decide (b = 1)) := by
  rcases (by omega : b.toNat = 0 ∨ b.toNat = 1) with e | e
  · rw [BitVec.eq_of_toNat_eq (y := 0) e]
    rfl
  · rw [BitVec.eq_of_toNat_eq (y := 1) e]
    rfl

/-- A set in range: PERIOD first, and BURST by it. -/
theorem PenSet.clamped_eq (x : PenSet) : x.clamped = { x with
    period := max 50 (min 500 x.period), burst := min (max 50 (min 500 x.period) - 7) x.burst
    taper := max 50 (min 99 x.taper), resume := max 50 (min 99 x.resume), keep := min 100 x.keep
    absent := max 1 (min 15 x.absent), progress := max 1 (min 60 x.progress)
    session := max 10 (min 240 x.session) } := by
  simp only [PenSet.clamped, clampNat_eq (show 50 ≤ 500 by decide), clampNat_eq (show 50 ≤ 99 by decide),
    clampNat_eq (Nat.zero_le _), clampNat_eq (show 1 ≤ 15 by decide), clampNat_eq (show 1 ≤ 60 by decide),
    clampNat_eq (show 10 ≤ 240 by decide), Nat.zero_max]

/-- The fields of PEN_CONFIG with good codes spell a set (R120). -/
theorem penSetOf_eq {enable wake : Byte} (on : enable.toNat ≤ 1) (wakes : wake.toNat ≤ 1) (period burst : Half)
    (taper resume keep absent progress session postures : Byte) :
    penSetOf enable period burst taper resume keep absent progress session postures wake = some {
      enable := decide (enable = 1), period := period.toNat, burst := burst.toNat, taper := taper.toNat
      resume := resume.toNat, keep := keep.toNat, absent := absent.toNat, progress := progress.toNat
      session := session.toNat, postures := postures, wake := decide (wake = 1) } := by
  simp [penSetOf, flagOfCode_eq on, flagOfCode_eq wakes]

/-! ## The start of a cycle (R124 to R127) -/

/-- A cycle's start in full: in FULL silent but for every eighth, elsewhere probed, in CHARGING with a burst. -/
theorem Pcc.startCycle_full (wide : Bool) (q : Pcc) : q.startCycle wide = { q with
      phase := .lead, cycleTimer := some q.active.period
      probed := decide ¬ (q.state = .full ∧ q.silentCycles < 7)
      silentCycles := if q.state = .full then (if q.silentCycles < 7 then q.silentCycles + 1 else 0) else q.silentCycles
      probeTimer := if q.state = .full ∧ q.silentCycles < 7 then none else some (q.active.period - 6)
      width := burstWidth wide q
      burstTimer := if q.state = .charging ∧ 0 < burstWidth wide q then some (burstWidth wide q) else none
      penDrv := decide (q.state = .charging ∧ 0 < burstWidth wide q), capture := Capture.empty } := by
  have early : (q.silentCycles + 1 < Config.fullProbeCycle) = (q.silentCycles < 7) :=
    propext Nat.succ_lt_succ_iff
  unfold Pcc.startCycle Pcc.chooseProbe
  by_cases full : q.state = .full
  · by_cases silent : q.silentCycles < 7
    · simp [full, silent, early]
    · simp [full, silent, early]
  · simp [full]

/-- The width of a burst under the full BURST or its half, by the level (R125). -/
theorem burstWidth_eq (full : Prop) [Decidable full] (q : Pcc) :
    burstWidth (decide full) q = match q.level with
      | some l =>
        if q.active.taper ≤ l then (if full then q.active.burst else q.active.burst / 2) / 2
        else if full then q.active.burst else q.active.burst / 2
      | none => if full then q.active.burst else q.active.burst / 2 := by
  unfold burstWidth
  cases q.level <;> simp only [decide_eq_true_eq]

theorem wideBurst_eq (s : State) (q : Pcc) :
    wideBurst { s with pcc := q } = decide (q.supply = .external ∨ s.dlc.state = .attached) := by
  simp [wideBurst]

/-- A set accepted in OFF with ENABLE on begins SEARCHING with its first cycle (R121). -/
theorem placeSet_starts {s : State} {x : PenSet} (off : s.pcc.state = .off) (on : x.enable = true) :
    placeSet x s = { s with pcc := { s.pcc with
      active := x, collision := false, state := .searching, phase := .lead, cycleTimer := some x.period
      probed := true, probeTimer := some (x.period - 6), burstTimer := none, penDrv := false
      capture := Capture.empty
      width := burstWidth (decide (s.pcc.supply = .external ∨ s.dlc.state = .attached)) { s.pcc with active := x } } } := by
  have started := Pcc.startCycle_full (decide (s.pcc.supply = .external ∨ s.dlc.state = .attached))
    { s.pcc with active := x, collision := false, state := .searching }
  simp only [reduceCtorEq, false_and, if_false, decide_false, not_false_eq_true, decide_true] at started
  simp only [placeSet, if_pos off, if_pos on, runCycle, State.onPcc, reduceCtorEq, if_false, wideBurst_eq, started]
  rfl

/-- Settles O46: the three places of a set in range, staged, active in OFF, active with a first cycle. -/
theorem penConfigPlacesSet : Obligations.PenConfigPlacesSet := by
  intro s tag enable period burst taper resume keep absent progress session postures wake good wakes unstaged full set
    asSent widest after
  let raw : PenSet := {
    enable := decide (enable = 1), period := period.toNat, burst := burst.toNat, taper := taper.toNat
    resume := resume.toNat, keep := keep.toNat, absent := absent.toNat, progress := progress.toNat
    session := session.toNat, postures := postures, wake := decide (wake = 1) }
  have clamped : raw.clamped = set := raw.clamped_eq
  have same : set = raw ↔ asSent := by simp [set, raw, asSent]
  have answers : exec (.penConfig tag enable period burst taper resume keep absent progress session postures wake) s
      = .next (answered 0xA8 tag (if asSent then .ok else .okClamped) [] (placeSet set s)) := by
    show done (configPen tag (penSetOf _ _ _ _ _ _ _ _ _ _ _) s) = _
    simp only [penSetOf_eq good wakes, configPen, unstaged, Option.isSome_none, Bool.false_eq_true, if_false, done_respond]
    show Host.Outcome.next (answered 0xA8 tag (if raw.clamped = raw then .ok else .okClamped) [] (placeSet raw.clamped s)) = _
    simp only [clamped, same]
  rw [answers]
  by_cases off : s.pcc.state = .off
  · rw [if_neg (not_not_intro off)]
    by_cases on : set.enable = true
    · have width := burstWidth_eq (s.pcc.supply = .external ∨ s.dlc.state = .attached) { s.pcc with active := set }
      have starts := placeSet_starts off on
      rw [width] at starts
      rw [if_neg (c := set.enable = false) (by simp [on])]
      exact congrArg (fun t => Host.Outcome.next (answered 0xA8 tag (if asSent then .ok else .okClamped) [] t)) starts
    · have disabled : set.enable = false := by simpa using on
      rw [if_pos disabled, placeSet, if_pos off, if_neg on]
      rfl
  · rw [if_pos off, placeSet, if_neg off]
    rfl

end Sys2Proof.Machine
end

section
/-! PROOFS. SUPPLY and the ends of a session (O47, O51): a re-evaluation of allowance case by case, a command that places one
record and then writes beside it, and the failure of a charge. -/

namespace Sys2Proof.Machine

/-! ## A re-evaluation of allowance, case by case (R130) -/

/-- The charger rests where allowance says nothing of its state, or leaves it as it is. -/
abbrev allowanceRests (s : State) : Prop := s.pcc.state ∈ [.off, .searching, .detected] ∨ chargeRests s s.pcc

theorem penAllowance_rest (pl : Placer) {s : State} (rests : allowanceRests s) : penAllowance pl s = s := by
  have iff := allowed_iff s
  rcases rests with idle | fault | ⟨state, may⟩ | ⟨state, no⟩ | ⟨state, holds⟩
  · simp only [List.mem_cons, List.not_mem_nil, or_false] at idle
    rcases idle with e | e | e <;> simp [penAllowance, e]
  · simp [penAllowance, fault]
  · simp [penAllowance, state, iff.mpr may]
  · have refused : allowed s = false := Bool.eq_false_iff.mpr fun a => no (iff.mp a)
    simp [penAllowance, state, refused]
  · cases level : s.pcc.level with
    | none => simp [penAllowance, state, level]
    | some l =>
      have none : ¬ (allowed s && decide (l ≤ s.pcc.active.resume)) = true := by
        rw [Bool.and_eq_true, decide_eq_true_eq, iff]
        rintro ⟨may, low⟩
        exact holds.elim (fun no => no may) fun high => absurd (high l level) (Nat.not_lt.mpr low)
      simp only [penAllowance, state, level, none, Bool.false_eq_true, if_false]

theorem penAllowance_pauses (pl : Placer) {s : State} (charges : s.pcc.state = .charging) (no : ¬ mayCharge s s.pcc) :
    penAllowance pl s = pl (penRecord .paused .charging .none (s.onPcc Pcc.pause)) (s.onPcc Pcc.pause) := by
  have refused : ¬ allowed s = true := fun a => no ((allowed_iff s).mp a)
  simp only [penAllowance, charges, refused, Bool.false_eq_true, if_false]

theorem penAllowance_resumes (pl : Placer) {s : State} (paused : s.pcc.state = .paused) (opened : s.pcc.sessionOpen = true)
    (may : mayCharge s s.pcc) :
    penAllowance pl s = pl (penRecord .resumed .paused .none (s.onPcc Pcc.resume)) (s.onPcc Pcc.resume) := by
  simp only [penAllowance, paused, (allowed_iff s).mpr may, opened, Bool.not_true, Bool.false_eq_true, if_false, if_true]

theorem penAllowance_recharges (pl : Placer) {s : State} {l : Nat} (full : s.pcc.state = .full) (level : s.pcc.level = some l)
    (low : l ≤ s.pcc.active.resume) (may : mayCharge s s.pcc) :
    penAllowance pl s = pl (penRecord .chargeStarted .full .none (s.onPcc Pcc.charge)) (s.onPcc Pcc.charge) := by
  simp only [penAllowance, startCharging, beginSession, full, level, (allowed_iff s).mpr may, low, decide_true,
    Bool.and_self, if_true]

/-! ## A record, and writes beside it -/

theorem place_lodge {r : Record} {s : State} (room : hasRoom 1 s) : place r s = lodge [r] s := by
  rw [place_enter room, ← lodge_enter, lodge_nil]

theorem hasRoom_one {s : State} : hasRoom 1 s ↔ s.rqu.urgent.length < 32 := Nat.lt_iff_add_one_le.symm

/-- A command that places a record and then writes beside the queue what the record has no part in. -/
theorem placesLast_then {g : State → State} {r : Record} {s : State} (enters : g (lodge [r] s) = lodge [r] (g s))
    (rqu : ∀ t, (g t).rqu = t.rqu) (beyond : ∀ t, Beyond s t → Beyond (g s) (g t)) :
    placesLast r (g s) (drivePins (g (place r s))) := by
  have placed := place_placesLast r s
  unfold placesLast at placed ⊢
  rw [rqu]
  split
  · next room => rw [place_lodge (hasRoom_one.mpr room), enters]
  · next full =>
    rw [if_neg full] at placed
    exact ⟨(beyond _ ((beyond_stable s).place r (Beyond.refl s))).pins,
      (congrArg Rqu.urgent (rqu _)).trans placed.2.1, (congrArg Rqu.urgentGap (rqu _)).symm ▸ placed.2.2⟩

/-- A request answered behind the placement of its record. -/
theorem placesLast_respond (ty tag : Byte) (status : Status) (payload : List Byte) (r : Record) (s : State) :
    placesLast r (respond ty tag status payload s) (answered (responseType ty) tag status payload (place r s)) :=
  placesLast_then (g := respond ty tag status payload) rfl (fun _ => rfl) fun _ b => b.respond ty tag status payload

/-! ## SUPPLY (R123) -/

/-- SUPPLY with a good code sets the class and re-evaluates allowance. -/
theorem exec_supply {arg : Byte} {c : Supply} (good : supplyOf arg = some c) (tag : Byte) (s : State) :
    exec (.supply tag arg) s
      = .next (answered 0xA9 tag .ok [] (penAllowance place (s.onPcc fun p => { p with supply := c }))) := by
  show done (setSupply tag arg s) = _
  rw [setSupply, good]
  rfl

theorem Pcc.pause_eq (q : Pcc) : q.pause = { q with
    state := .paused, burstTimer := none, penDrv := q.penDrv && q.burstTimer.isNone, progressTimer := none
    limitDue := false } := by
  rw [Pcc.pause, Pcc.leaveCharging_eq]

/-- Settles O47: the class is set first, and allowance then rests, pauses or resumes. -/
theorem supplyReevaluatesAllowance : Obligations.SupplyReevaluatesAllowance := by
  intro s tag arg c code ok may
  have good : supplyOf arg = some c := by
    rcases code with ⟨rfl, rfl⟩ | ⟨rfl, rfl⟩ | ⟨rfl, rfl⟩ <;> rfl
  let t := s.onPcc fun p => { p with supply := c }
  rw [exec_supply good]
  refine ⟨fun rests => ?_, fun charges no => ⟨_, rfl, ?_⟩, fun paused opened allows => ⟨_, rfl, ?_⟩⟩
  · rw [penAllowance_rest]
    · rfl
    rcases rests with idle | charging | ⟨held, no⟩
    · simp only [List.mem_cons, List.not_mem_nil, or_false] at idle
      rcases idle with e | e | e | e
      · exact .inl (by simp [e])
      · exact .inl (by simp [e])
      · exact .inl (by simp [e])
      · exact .inr (.inl e)
    · exact .inr (.inr (.inl charging))
    · simp only [List.mem_cons, List.not_mem_nil, or_false] at held
      rcases held with e | e
      · exact .inr (.inr (.inr (.inl ⟨e, no⟩)))
      · exact .inr (.inr (.inr (.inr ⟨e, .inl no⟩)))
  · have last := placesLast_respond 0x29 tag .ok [] (penRecord .paused .charging .none (t.onPcc Pcc.pause))
      (t.onPcc Pcc.pause)
    rw [penAllowance_pauses place (s := t) charges no]
    simp only [penRecord, State.onPcc, Pcc.pause_eq] at last ⊢
    exact last
  · rw [penAllowance_resumes place (s := t) paused opened allows]
    exact placesLast_respond 0x29 tag .ok [] (penRecord .resumed .paused .none (t.onPcc Pcc.resume)) (t.onPcc Pcc.resume)

/-! ## A charge that fails (R134, R135) -/

/-- The PCC in a state of which allowance says nothing stays as it is. -/
theorem pccIs_powered {q : Pcc} (idle : q.state ∈ [.off, .searching, .detected, .fault]) :
    Powered fun s => s.pcc = q where
  sees _ _ pcc _ _ h := pcc.trans h
  sleeps _ _ _ h := h
  allowance {pl} _ s h := by
    show (penAllowance pl s).pcc = q
    rw [penAllowance_rest]
    · exact h
    · rw [← h] at idle
      simp only [List.mem_cons, List.not_mem_nil, or_false] at idle
      rcases idle with e | e | e | e
      · exact .inl (by simp [e])
      · exact .inl (by simp [e])
      · exact .inl (by simp [e])
      · exact .inr (.inl e)

/-- What a failed charge leaves. -/
theorem penFails_pcc (e : EndCause) (c : PenCause) (s : State) : (penFails e c s).pcc = s.pcc.ended e .fault := by
  have kept := pccIs_powered (q := s.pcc.ended e .fault) (by simp)
  exact kept.raiseFault .penFault (kept.place _ rfl)

/-- A failed charge raises PEN_FAULT once. -/
theorem penFails_fault (e : EndCause) (c : PenCause) (s : State) :
    (penFails e c s).hlc.faults[4] = ⟨true, min 255 (s.hlc.faults[4].count + 1)⟩ := by
  have kept := faultIs_lossKept (k := .penFault) (by decide)
  have placed : ∀ r, (place r (s.onPcc (Pcc.ended e .fault))).hlc.faults[4] = s.hlc.faults[4] :=
    fun r => (kept s.hlc.faults[4]).place r rfl
  have raised : ∀ t : State, (raiseFault .penFault t).hlc.faults[4] = ⟨true, min 255 (t.hlc.faults[4].count + 1)⟩ :=
    fun t => (kept _).raiseFault (noteFault_entry .penFault t)
  rw [← placed]
  exact raised _

theorem noteFault_beyond (s : State) (k : FaultKind) : Keeps (Beyond s) (noteFault k) :=
  fun _ b => ⟨b.time, b.params, b.link, b.pse, b.dock, b.choices, b.pending⟩

theorem penFails_beyond (e : EndCause) (c : PenCause) (s : State) : Beyond s (penFails e c s) := by
  have stable := beyond_stable s
  have placed : ∀ r, Beyond s (place r (s.onPcc (Pcc.ended e .fault))) :=
    fun r => stable.place r (stable.pcc _ (Beyond.refl s))
  exact raiseFault_of_noted stable (noteFault_beyond s .penFault (placed _))

/-- The PEN record FAULT is the first record of a failed charge. -/
theorem penFails_firstPlaced (e : EndCause) (c : PenCause) (s : State) :
    firstPlaced (penRecord .fault s.pcc.state c (s.onPcc (Pcc.ended e .fault))) s (penFails e c s) := by
  refine firstPlaced_of_prefix fun room => ?_
  have stable := lanePrefix_stable (s.rqu.urgent
    ++ stampAll s.time s.rqu.urgentGap [penRecord .fault s.pcc.state c (s.onPcc (Pcc.ended e .fault))])
  exact raiseFault_of_noted stable (s := place _ (s.onPcc _))
    (place_urgent (s := s.onPcc (Pcc.ended e .fault)) room ▸ List.prefix_rfl)

/-! ## The progress window and session time -/

theorem progressMade_iff (q : Pcc) :
    progressMade q = true ↔ ∃ l, q.level = some l ∧ ∀ b, q.baseline = some b → b < l := by
  unfold progressMade
  cases q.level <;> cases q.baseline <;> simp

/-- With nothing queued and nothing due, a step is one millisecond. -/
theorem step_tick {s : State} (empty : s.pending = []) (idle : due s = none) : step s = .next (tick s) := by
  simp only [step, empty, idle]

theorem Pcc.limitWithin_iff (ms : Nat) (q : Pcc) :
    q.limitWithin ms = true ↔ q.active.session * 60000 ≤ q.seconds * 1000 + q.millis + ms := decide_eq_true_iff

/-- The millisecond that is still to be counted, if any: the session time that stands where it is counted. -/
theorem Pcc.countDue_counted (q : Pcc) :
    q.countDue = { (if q.limitDue then q.raiseSession else q) with limitDue := false } := by
  unfold Pcc.countDue
  split
  · rfl
  · next due =>
    have clear : q.limitDue = false := by simpa using due
    rw [← clear]

/-- Settles O51: both ends are one failure of the charge, the second with the due millisecond counted, and a millisecond
writes session time in CHARGING alone. -/
theorem progressAndLimitEndSessions : Obligations.ProgressAndLimitEndSessions := by
  intro s n p progress later fails
  have failed (e : EndCause) (c : PenCause) (u : Pcc) (d : Bool) :
      fails u e c.code (drivePins (penFails e c { s with pcc := { u with limitDue := d } })) := by
    have pcc := penFails_pcc e c { s with pcc := { u with limitDue := d } }
    have beyond := penFails_beyond e c { s with pcc := { u with limitDue := d } }
    have first := penFails_firstPlaced e c { s with pcc := { u with limitDue := d } }
    rw [Pcc.ended_eq] at pcc
    simp only [penRecord, State.onPcc, Pcc.ended_eq] at first
    exact ⟨pcc, ⟨beyond.time, beyond.params, beyond.link, beyond.pse, beyond.dock, beyond.choices, beyond.pending⟩,
      penFails_fault e c _, first⟩
  refine ⟨fun runs made => ?_, fun runs none => ⟨_, rfl, ?_⟩, fun charges => ⟨_, rfl, ?_⟩, fun empty idle => ?_⟩
  · show done (progressExpired s) = _
    simp only [progressExpired, show s.pcc.progressTimer = some n from runs, (progressMade_iff s.pcc).mpr made,
      Option.isSome_some, if_true]
    rfl
  · have unmade : ¬ progressMade s.pcc = true := fun m => none ((progressMade_iff s.pcc).mp m)
    simp only [progressExpired, show s.pcc.progressTimer = some n from runs, unmade, Option.isSome_some, if_true,
      Bool.false_eq_true, if_false]
    exact failed .noProgress .noProgress p p.limitDue
  · have counted := failed .sessionLimit .sessionLimit (if p.limitDue then p.raiseSession else p) false
    rw [sessionLimit, if_pos charges, State.onPcc, Pcc.countDue_counted]
    exact counted
  · refine ⟨tick s, step_tick empty idle, ?_⟩
    show s.pcc.sessionTick.state = _ ∧ (_ → _ → s.pcc.sessionTick.seconds = _ ∧ s.pcc.sessionTick.millis = _
      ∧ s.pcc.sessionTick.limitDue = _) ∧ (_ → _ → s.pcc.sessionTick.limitDue = _ ∧ s.pcc.sessionTick.seconds = _
      ∧ s.pcc.sessionTick.millis = _) ∧ (_ → s.pcc.sessionTick.limitDue = _ ∧ s.pcc.sessionTick.seconds = _
      ∧ s.pcc.sessionTick.millis = _)
    by_cases charges : s.pcc.state = .charging
    · by_cases reached : s.pcc.active.session * 60000 ≤ s.pcc.seconds * 1000 + s.pcc.millis + 1
      · have ticked : s.pcc.sessionTick = { s.pcc with limitDue := true } := by
          rw [Pcc.sessionTick, if_pos charges, if_pos ((Pcc.limitWithin_iff 1 _).mpr reached)]
        rw [ticked]
        exact ⟨rfl, fun _ short => absurd reached (Nat.not_le.mpr short), fun _ _ => ⟨rfl, rfl, rfl⟩,
          fun no => absurd charges no⟩
      · have ticked : s.pcc.sessionTick = later := by
          rw [Pcc.sessionTick, if_pos charges, if_neg fun w => reached ((Pcc.limitWithin_iff 1 _).mp w)]
          rfl
        have kept : later.state = p.state ∧ later.limitDue = p.limitDue := by
          simp only [later]
          split <;> exact ⟨rfl, rfl⟩
        rw [ticked]
        exact ⟨kept.1, fun _ _ => ⟨rfl, rfl, kept.2⟩, fun _ limit => absurd limit reached, fun no => absurd charges no⟩
    · have ticked : s.pcc.sessionTick = s.pcc := if_neg charges
      rw [ticked]
      exact ⟨rfl, fun c => absurd c charges, fun c => absurd c charges, fun _ => ⟨rfl, rfl, rfl⟩⟩

end Sys2Proof.Machine
end

section
/-! PROOFS. The charge cycle (O48): its end that brings nothing, the set that becomes active at it, and the pulses, bursts
and edges within it. -/

namespace Sys2Proof.Machine

/-! ## The decode of a capture (R128) -/

theorem Capture.reply_silent {c : Capture} (silent : c.rise = none) : c.reply = .noReply := by
  simp [Capture.reply, silent]

theorem Capture.reply_invalid {c : Capture} (bad : c.invalid) : c.reply = .invalid := by
  obtain ⟨risen, overflow | count | ⟨k, count, outside⟩⟩ := bad
  · simp [Capture.reply, Option.isNone_eq_false_iff.mpr risen, overflow]
  · simp [Capture.reply, Option.isNone_eq_false_iff.mpr risen, count]
  · have none : ¬ (20 ≤ k ∧ k ≤ 120) := by omega
    simp [Capture.reply, Option.isNone_eq_false_iff.mpr risen, count, none]

theorem Capture.reply_valid {c : Capture} {k : Nat} (good : c.valid k) : c.reply = .valid (k - 20) := by
  obtain ⟨risen, clear, count, low, high⟩ := good
  simp [Capture.reply, Option.isNone_eq_false_iff.mpr risen, clear, count, low, high]

/-! ## The end of a cycle, step by step (R124) -/

theorem cycleEnd_runs {s : State} {n : Nat} (runs : s.pcc.cycleTimer = some n) :
    cycleEnd s = runCycle (applyStaged (if s.pcc.probed then decode s else s)) := by
  rw [cycleEnd, runs]
  rfl

theorem cycleEnd_beyond (s : State) : Beyond s (drivePins (cycleEnd s)) :=
  ((beyond_stable s).cycleEnd (noteFault_beyond s .penFault) (Beyond.refl s)).pins

/-- An invalid reply changes nothing outside DETECTED. -/
theorem decodeChange_invalid {s : State} (other : s.pcc.state ≠ .detected) : decodeChange .invalid s = s := by
  unfold decodeChange
  cases state : s.pcc.state with
  | detected => exact absurd state other
  | _ => rfl

/-- An end that changes nothing: there is no decode, or it leaves the state as it is. -/
theorem decode_quiet {s : State} (quiet : endsQuietly s) : (if s.pcc.probed then decode s else s) = s := by
  rcases quiet with silent | ⟨searching, reply⟩ | ⟨bad, rests⟩
  · rw [silent]
    rfl
  · have brings : decodeChange s.pcc.capture.reply s = s := by
      rcases reply with none | bad
      · simp [Capture.reply_silent none, decodeChange, searching]
      · simp [Capture.reply_invalid bad, decodeChange, searching]
    rw [decode, brings, penAllowance_rest place (.inl (by simp [searching])), ite_self]
  · have other : s.pcc.state ≠ .detected := by
      intro e
      simp [chargeRests, e] at rests
    rw [decode, Capture.reply_invalid bad, decodeChange_invalid other, penAllowance_rest place (.inr rests), ite_self]

theorem cycleEnd_quiet {s : State} {n : Nat} (runs : s.pcc.cycleTimer = some n) (quiet : endsQuietly s) :
    cycleEnd s = runCycle (applyStaged s) := by
  rw [cycleEnd_runs runs, decode_quiet quiet]

/-! ## The start of a cycle in a part that stands otherwise as `s` -/

/-- The charger that stands as `q`, a cycle further. -/
abbrev nextCycle (s : State) (q : Pcc) : Pcc := q.startCycle (decide (q.supply = .external ∨ s.dlc.state = .attached))

theorem runCycle_on {s : State} {q : Pcc} (on : q.state ≠ .off) :
    runCycle { s with pcc := q } = { s with pcc := nextCycle s q } := by
  rw [runCycle, if_neg on, wideBurst_eq]
  rfl

theorem runCycle_off {s : State} (off : s.pcc.state = .off) : runCycle s = s := if_pos off

theorem lodge_runCycle (rs : List Record) (s : State) : runCycle (lodge rs s) = lodge rs (runCycle s) := by
  by_cases off : s.pcc.state = .off
  · rw [runCycle_off off, runCycle_off (s := lodge rs s) off]
  · rw [runCycle, if_neg (c := (lodge rs s).pcc.state = .off) off, runCycle, if_neg off]
    rfl

theorem Beyond.runCycle {s t : State} (b : Beyond s t) : Beyond (runCycle s) (runCycle t) := by
  obtain ⟨p, hp, -⟩ := runCycle_eq s
  obtain ⟨q, hq, -⟩ := runCycle_eq t
  rw [hp, hq]
  exact ⟨b.time, b.params, b.link, b.pse, b.dock, b.choices, b.pending⟩

theorem runCycle_rqu (s : State) : (runCycle s).rqu = s.rqu := by
  obtain ⟨q, e, -⟩ := runCycle_eq s
  rw [e]

/-- A record, and the next cycle behind it. -/
theorem placesLast_runCycle (r : Record) (s : State) : placesLast r (runCycle s) (drivePins (runCycle (place r s))) :=
  placesLast_then (lodge_runCycle [r] s) runCycle_rqu fun _ b => b.runCycle

/-! ## A set that becomes active (R122, R135) -/

/-- The set becomes active. -/
abbrev Pcc.taking (x : PenSet) (q : Pcc) : Pcc := { q with active := x, staged := none }

theorem applyStaged_none {s : State} (unstaged : s.pcc.staged = none) : applyStaged s = s := by
  rw [applyStaged, unstaged]

theorem applyStaged_disabled {s : State} {x : PenSet} (staged : s.pcc.staged = some x) (disabled : x.enable = false) :
    applyStaged s = penOff (s.onPcc (Pcc.taking x)) := by
  rw [applyStaged, staged]
  simp only [disabled, Bool.not_false, if_true]

theorem applyStaged_enabled {s : State} {x : PenSet} (staged : s.pcc.staged = some x) (enabled : x.enable = true) :
    applyStaged s = if s.choices.limitFirst then penAllowance place (checkLimit (s.onPcc (Pcc.taking x)))
      else checkLimit (penAllowance place (s.onPcc (Pcc.taking x))) := by
  rw [applyStaged, staged]
  simp only [enabled, Bool.not_true, Bool.false_eq_true, if_false]

/-- No millisecond is due and session time stands below the limit. -/
abbrev belowLimit (s : State) : Prop := s.pcc.limitDue = false ∧ s.pcc.limitWithin 0 = false

theorem belowLimit_powered : Powered belowLimit where
  sees s t pcc _ _ h := by rwa [belowLimit, pcc]
  sleeps _ _ _ h := h
  allowance {pl} hp s h := by
    obtain ⟨due, below⟩ := h
    rcases penAllowance_cases pl s with ⟨e, -⟩ | ⟨-, -, e⟩ | ⟨-, -, -, e⟩ | ⟨-, -, e⟩ <;> rw [e]
    · exact ⟨due, below⟩
    · refine hp _ ?_
      simp only [belowLimit, State.onPcc, Pcc.pause_eq]
      exact ⟨trivial, below⟩
    · exact hp _ ⟨due, below⟩
    · refine hp _ ⟨due, ?_⟩
      simp only [Pcc.limitWithin, decide_eq_false_iff_not] at below ⊢
      intro reached
      exact below (reached.trans (by simp [Pcc.openSession, Pcc.startProgress]))

theorem countDue_undue {q : Pcc} (undue : q.limitDue = false) : q.countDue = q := by
  simp [Pcc.countDue, undue]

theorem checkLimit_below {s : State} (below : belowLimit s) : checkLimit s = s := by
  obtain ⟨undue, unspent⟩ := below
  have reached : limitReached s = false := by rw [limitReached, undue]; exact unspent
  rw [checkLimit, reached, State.onPcc, countDue_undue undue]
  rfl

theorem checkLimit_idle {s : State} (undue : s.pcc.limitDue = false) (idle : s.pcc.state ≠ .charging) :
    checkLimit s = s := by
  rw [checkLimit, sessionLimit, if_neg idle, State.onPcc, countDue_undue undue]
  exact ite_self _

theorem checkLimit_spent {s : State} (undue : s.pcc.limitDue = false) (charges : s.pcc.state = .charging)
    (spent : s.pcc.limitWithin 0 = true) : checkLimit s = penFails .sessionLimit .sessionLimit s := by
  have reached : limitReached s = true := by rw [limitReached, undue]; exact spent
  rw [checkLimit, if_pos reached, sessionLimit, if_pos charges, State.onPcc, countDue_undue undue]

/-- Below the limit the set's allowance alone is judged. -/
theorem applyStaged_below {s : State} {x : PenSet} (staged : s.pcc.staged = some x) (enabled : x.enable = true)
    (below : belowLimit (s.onPcc (Pcc.taking x))) : applyStaged s = penAllowance place (s.onPcc (Pcc.taking x)) := by
  have after : belowLimit (penAllowance place (s.onPcc (Pcc.taking x))) :=
    belowLimit_powered.allowance belowLimit_powered.place below
  rw [applyStaged_enabled staged enabled, checkLimit_below below, checkLimit_below after, ite_self]

/-- Where allowance leaves the state and the limit is not reached in CHARGING, the set becomes active and no more. -/
theorem applyStaged_rests {s : State} {x : PenSet} (staged : s.pcc.staged = some x) (enabled : x.enable = true)
    (undue : s.pcc.limitDue = false) (idle : s.pcc.state ≠ .charging) (rests : allowanceRests (s.onPcc (Pcc.taking x))) :
    applyStaged s = s.onPcc (Pcc.taking x) := by
  have unlimited : checkLimit (s.onPcc (Pcc.taking x)) = s.onPcc (Pcc.taking x) := checkLimit_idle undue idle
  rw [applyStaged_enabled staged enabled, penAllowance_rest place rests, unlimited, penAllowance_rest place rests,
    ite_self]

/-- A set under which the charge stays allowed and its time is spent fails the charge. -/
theorem applyStaged_spent {s : State} {x : PenSet} (staged : s.pcc.staged = some x) (enabled : x.enable = true)
    (undue : s.pcc.limitDue = false) (charges : s.pcc.state = .charging)
    (may : mayCharge s (Pcc.taking x s.pcc)) (spent : (Pcc.taking x s.pcc).limitWithin 0 = true) :
    applyStaged s = penFails .sessionLimit .sessionLimit (s.onPcc (Pcc.taking x)) := by
  have fails : checkLimit (s.onPcc (Pcc.taking x)) = penFails .sessionLimit .sessionLimit (s.onPcc (Pcc.taking x)) :=
    checkLimit_spent undue charges spent
  have rests : allowanceRests (s.onPcc (Pcc.taking x)) := .inr (.inr (.inl ⟨charges, may⟩))
  have fault : (penFails .sessionLimit .sessionLimit (s.onPcc (Pcc.taking x))).pcc.state = .fault := by
    rw [penFails_pcc]
  rw [applyStaged_enabled staged enabled, penAllowance_rest place rests, fails,
    penAllowance_rest place (.inr (.inl fault)), ite_self]

/-! ## What every end of a cycle keeps -/

/-- The sets, the collision mark and the supply class. -/
abbrev Pcc.settings (q : Pcc) : PenSet × Option PenSet × Bool × Supply := (q.active, q.staged, q.collision, q.supply)

/-- The charger runs with these settings. -/
abbrev runsUnder (c : PenSet × Option PenSet × Bool × Supply) (s : State) : Prop :=
  s.pcc.settings = c ∧ s.pcc.state ≠ .off

/-- A write of the PCC that keeps the settings and leaves it running. -/
theorem runsUnder_onPcc {c} {f : Pcc → Pcc} {s : State} (h : runsUnder c s) (settings : (f s.pcc).settings = s.pcc.settings)
    (on : (f s.pcc).state ≠ .off) : runsUnder c (s.onPcc f) := ⟨settings.trans h.1, on⟩

theorem runsUnder_powered (c) : Powered (runsUnder c) where
  sees s t pcc _ _ h := by rwa [runsUnder, pcc]
  sleeps _ _ _ h := h
  allowance {pl} hp s h := by
    rcases penAllowance_cases pl s with ⟨e, -⟩ | ⟨-, -, e⟩ | ⟨-, -, -, e⟩ | ⟨-, -, e⟩ <;> rw [e]
    · exact h
    · refine hp _ (runsUnder_onPcc h ?_ (by simp))
      rw [Pcc.pause_eq]
    · exact hp _ (runsUnder_onPcc h rfl (by simp))
    · exact hp _ (runsUnder_onPcc h rfl (by simp))

theorem Pcc.ended_settings (e : EndCause) (st : PenState) (q : Pcc) : (q.ended e st).settings = q.settings := by
  rw [Pcc.ended_eq]

theorem runsUnder_penFails (c e k) : Keeps (runsUnder c) (penFails e k) := by
  intro s h
  have failed : runsUnder c (s.onPcc (Pcc.ended e .fault)) := runsUnder_onPcc h (Pcc.ended_settings _ _ _) (by simp)
  exact (runsUnder_powered c).raiseFault _ ((runsUnder_powered c).place _ failed)

theorem Pcc.countDue_settings (q : Pcc) : q.countDue.settings = q.settings := by
  obtain ⟨n, m, e⟩ := q.countDue_eq
  rw [e]

theorem runsUnder_countDue (c) : Keeps (runsUnder c) (State.onPcc Pcc.countDue) := fun s h =>
  runsUnder_onPcc h s.pcc.countDue_settings (s.pcc.countDue_state ▸ h.2)

theorem runsUnder_checkLimit (c) : Keeps (runsUnder c) checkLimit := by
  intro s h
  unfold checkLimit sessionLimit
  split
  · split
    · exact runsUnder_penFails c _ _ (runsUnder_countDue c h)
    · exact h
  · exact runsUnder_countDue c h

theorem runsUnder_penDocked (c l) : Keeps (runsUnder c) (penDocked l) := by
  intro s h
  have powered := runsUnder_powered c
  have on : dockedState l (s.onPcc (Pcc.heard l)) ≠ .off := by
    unfold dockedState
    split
    · simp
    · split <;> simp
  have docks : runsUnder c ((s.onPcc (Pcc.heard l)).onPcc fun p => { p with
      state := dockedState l (s.onPcc (Pcc.heard l)), silentCycles := 0 }) := ⟨h.1, on⟩
  simp only [penDocked]
  refine powered.activity ?_
  split
  · exact powered.place _ (runsUnder_onPcc (powered.place _ docks) rfl (by simp))
  · exact powered.place _ docks

theorem runsUnder_countSilent (c) : Keeps (runsUnder c) countSilent := by
  intro s h
  have powered := runsUnder_powered c
  have removed : runsUnder c (s.onPcc fun p => ({ p with silentProbes := min 15 (p.silentProbes + 1) } : Pcc).removed) :=
    runsUnder_onPcc h (Pcc.ended_settings .removed .searching _) (by simp [Pcc.removed])
  simp only [countSilent, penRemoved]
  split
  · have told := fun r => powered.activity (powered.place r removed)
    split
    · exact powered.wake _ (told _)
    · exact told _
  · exact h

theorem runsUnder_decodeChange (c r) : Keeps (runsUnder c) (decodeChange r) := by
  intro s h
  have replied (l : Nat) : runsUnder c (if l = 100 then penFull (s.onPcc (Pcc.heard l)) else s.onPcc (Pcc.heard l)) := by
    split
    · exact (runsUnder_powered c).place _
        (runsUnder_onPcc (s := s.onPcc (Pcc.heard l)) h (Pcc.ended_settings .full .full _) (by simp))
    · exact h
  unfold decodeChange
  split
  case h_1 l state => exact ⟨h.1, by simp⟩
  case h_2 l state => exact runsUnder_penDocked c l h
  case h_3 state | h_4 state => exact ⟨h.1, by simp⟩
  case h_5 l state | h_6 l state => exact replied l
  case h_7 | h_8 => exact h
  case h_9 | h_10 | h_11 | h_12 => exact runsUnder_countSilent c h
  all_goals exact h

theorem runsUnder_decode (c) : Keeps (runsUnder c) decode := fun _ h =>
  (runsUnder_powered c).allowance (runsUnder_powered c).place (runsUnder_decodeChange c _ h)

end Sys2Proof.Machine
end

section
/-! PROOFS. The charge cycle (O48), continued: the clauses of the statement. -/

namespace Sys2Proof.Machine

/-! ## The set at every end of a cycle -/

theorem runCycle_runsUnder {c} {s : State} (h : runsUnder c s) :
    runsUnder c (runCycle s) ∧ (runCycle s).pcc.cycleTimer = some s.pcc.active.period := by
  rw [runCycle, if_neg h.2, State.onPcc, Pcc.startCycle_full]
  exact ⟨h, rfl⟩

/-- A set with ENABLE on leaves the charger running under it. -/
theorem runsUnder_applyStaged {x : PenSet} {c : Bool} {u : Supply} {a : PenSet} {s : State}
    (h : runsUnder (a, some x, c, u) s) (enabled : x.enable = true) : runsUnder (x, none, c, u) (applyStaged s) := by
  have settings := h.1
  simp only [Pcc.settings, Prod.mk.injEq] at settings
  obtain ⟨-, staged, collision, supply⟩ := settings
  have taken : runsUnder (x, none, c, u) (s.onPcc (Pcc.taking x)) :=
    ⟨by simp only [Pcc.settings, State.onPcc, collision, supply], h.2⟩
  have powered := runsUnder_powered (x, none, c, u)
  rw [applyStaged_enabled staged enabled]
  split
  · exact powered.allowance powered.place (runsUnder_checkLimit _ taken)
  · exact runsUnder_checkLimit _ (powered.allowance powered.place taken)

/-- The charger that a set with ENABLE off stops (R122, R140). -/
def Pcc.stopped (q : Pcc) : Pcc := { (q.closeSession .disabled).clearWork with state := .off }

theorem Pcc.stopped_eq (q : Pcc) : q.stopped = { q with
    state := .off, sessionOpen := false, lastEnd := if q.sessionOpen then .disabled else q.lastEnd
    millis := 0, limitDue := false, cycleTimer := none, phase := .stopped, probeTimer := none
    burstTimer := none, width := 0, probed := false, silentCycles := 0, silentProbes := 0, baseline := none
    progressTimer := none, capture := Capture.empty, penDrv := false } := by
  rw [Pcc.stopped, Pcc.closeSession_eq, Pcc.clearWork]

theorem penOff_eq (s : State) :
    penOff s = place (penRecord .off s.pcc.state .disabled (s.onPcc Pcc.stopped)) (s.onPcc Pcc.stopped) := rfl

theorem penOff_pcc (s : State) : (penOff s).pcc = s.pcc.stopped :=
  (pccIs_powered (q := s.pcc.stopped) (by simp [Pcc.stopped])).place _ rfl

/-! ## Writes of the PCC alone -/

theorem done_onPcc {f : Pcc → Pcc} {q : Pcc} (s : State) (writes : f s.pcc = q) :
    done (s.onPcc f) = .next (drivePins { s with pcc := q }) := by
  rw [State.onPcc, writes]
  rfl

/-- PEN_RX_EDGE writes the pin and the capture. -/
theorem exec_penRxEdge (high : Bool) (at_ : Nat) (s : State) {q : Pcc}
    (writes : (if s.pcc.penRx = high then s.pcc else { s.pcc with
      penRx := high
      capture := if s.pcc.phase = .listen ∧ at_ < 5000 then s.pcc.capture.edge high at_ else s.pcc.capture }) = q) :
    exec (.penRxEdge high at_) s = .next (drivePins { s with pcc := q }) := done_onPcc s writes

theorem Capture.edge_rises {c : Capture} (fresh : c.rise = none) (at_ : Nat) :
    c.edge true at_ = { c with rise := some at_ } := by
  simp [Capture.edge, fresh]

theorem exec_probeStart {s : State} (lead : s.pcc.phase = .lead) (probed : s.pcc.probed = true) :
    exec .probeStart s
      = .next (drivePins { s with pcc := { s.pcc with phase := .probe, penDrv := true, probeTimer := some 1 } }) := by
  show done (if s.pcc.phase = .lead && s.pcc.probed then _ else s) = _
  rw [if_pos (by simp [lead, probed])]
  rfl

theorem exec_probeEnd {s : State} (probe : s.pcc.phase = .probe) :
    exec .probeEnd s = .next (drivePins { s with pcc := { s.pcc with
      phase := .listen, penDrv := false, probeTimer := none, capture := Capture.empty } }) := by
  show done (if s.pcc.phase = .probe then _ else s) = _
  rw [if_pos probe]
  rfl

theorem exec_captureOverflow {s : State} (listen : s.pcc.phase = .listen) (rise : s.pcc.capture.rise.isSome = true)
    (count : s.pcc.capture.count = none) :
    exec .captureOverflow s
      = .next (drivePins { s with pcc := { s.pcc with capture := { s.pcc.capture with overflow := true } } }) := by
  show done (if s.pcc.phase = .listen && s.pcc.capture.rise.isSome && s.pcc.capture.count.isNone then _ else s) = _
  rw [if_pos (by simp [listen, rise, count])]
  rfl

/-- A falling edge after a rising one gives the count of whole steps, or the overflow mark (R127). -/
theorem Capture.edge_falls {r at_ : Nat} (after : r ≤ at_) : Capture.edge false at_ ⟨some r, none, false⟩
    = if at_ < r + 2560 then ⟨some r, some ((at_ - r) / 10), false⟩ else ⟨some r, none, true⟩ := by
  by_cases early : at_ < r + 2560
  · have short : ¬ 256 ≤ (at_ - r) / 10 := by omega
    simp [Capture.edge, early, short]
  · have long : 256 ≤ (at_ - r) / 10 := by omega
    simp [Capture.edge, early, long]

/-- A capture that has both its edges takes no more. -/
theorem Capture.edge_full {c : Capture} (count : c.count.isSome = true) (rise : c.rise.isSome = true) (high : Bool)
    (at_ : Nat) : c.edge high at_ = c := by
  obtain ⟨n, counted⟩ := Option.isSome_iff_exists.mp count
  obtain ⟨r, risen⟩ := Option.isSome_iff_exists.mp rise
  simp [Capture.edge, counted, risen]

theorem Pcc.stopBurst_running {q : Pcc} {n : Nat} (bursts : q.burstTimer = some n) :
    q.stopBurst = { q with burstTimer := none, penDrv := false } := by
  rw [Pcc.stopBurst_eq, bursts]
  simp

/-- The next cycle overwrites the burst timer and PEN_DRV. -/
theorem nextCycle_drives (s : State) (q : Pcc) (t : Timer) (d : Bool) :
    nextCycle s { q with burstTimer := t, penDrv := d } = nextCycle s q := by
  simp only [nextCycle, Pcc.startCycle_full]
  rfl

/-- With no millisecond due, a pause stops the window, the burst and PEN_DRV. -/
theorem nextCycle_pause (s : State) {q : Pcc} (undue : q.limitDue = false) :
    nextCycle s q.pause = nextCycle s { q with state := .paused, progressTimer := none } := by
  have pauses : q.pause = { ({ q with state := .paused, progressTimer := none } : Pcc) with
      burstTimer := none, penDrv := q.penDrv && q.burstTimer.isNone } := by
    rw [Pcc.pause_eq, ← undue]
  rw [pauses, nextCycle_drives]

theorem nextCycle_ended (s : State) {q : Pcc} (undue : q.limitDue = false) (e : EndCause) (st : PenState) :
    nextCycle s (q.ended e st) = nextCycle s { q with
      state := st, sessionOpen := false, progressTimer := none, lastEnd := if q.sessionOpen then e else q.lastEnd } := by
  have ends : q.ended e st = { ({ q with
      state := st, sessionOpen := false, progressTimer := none
      lastEnd := if q.sessionOpen then e else q.lastEnd } : Pcc) with
      burstTimer := none, penDrv := q.penDrv && q.burstTimer.isNone, limitDue := q.limitDue } := by
    rw [Pcc.ended_eq, undue]
  rw [ends]
  exact nextCycle_drives s _ _ _

/-! ## The end of a cycle under its staged set -/

/-- The set becomes active, and the charger stands still or runs its next cycle under it. -/
theorem cycleEnd_takes {s : State} {n : Nat} {x : PenSet} (runs : s.pcc.cycleTimer = some n)
    (staged : s.pcc.staged = some x) (on : s.pcc.state ≠ .off) :
    (cycleEnd s).pcc.settings = (x, none, s.pcc.collision, s.pcc.supply)
    ∧ if x.enable then (cycleEnd s).pcc.state ≠ .off ∧ (cycleEnd s).pcc.cycleTimer = some x.period
      else (cycleEnd s).pcc.state = .off ∧ (cycleEnd s).pcc.cycleTimer = none ∧ (cycleEnd s).pcc.penDrv = false
        ∧ (cycleEnd s).pcc.sessionOpen = false := by
  have now : runsUnder (s.pcc.active, some x, s.pcc.collision, s.pcc.supply) s := ⟨by rw [← staged], on⟩
  have decoded : runsUnder (s.pcc.active, some x, s.pcc.collision, s.pcc.supply)
      (if s.pcc.probed then decode s else s) := by
    split
    · exact runsUnder_decode _ now
    · exact now
  rw [cycleEnd_runs runs]
  generalize (if s.pcc.probed then decode s else s) = d at decoded
  by_cases enabled : x.enable = true
  · have taken := runsUnder_applyStaged decoded enabled
    obtain ⟨⟨settings, still⟩, period⟩ := runCycle_runsUnder taken
    rw [if_pos enabled]
    refine ⟨settings, still, period.trans ?_⟩
    rw [show (applyStaged d).pcc.active = x from congrArg Prod.fst taken.1]
  · obtain ⟨settings, -⟩ := decoded
    simp only [Pcc.settings, Prod.mk.injEq] at settings
    obtain ⟨-, stagedThen, collision, supply⟩ := settings
    have disabled : x.enable = false := by simpa using enabled
    rw [if_neg enabled, applyStaged_disabled stagedThen disabled, runCycle_off (by rw [penOff_pcc]; rfl), penOff_pcc,
      Pcc.stopped_eq]
    exact ⟨by simp only [Pcc.settings, State.onPcc, collision, supply], rfl, rfl, rfl, rfl⟩

theorem cycleEnd_continues {s : State} {n : Nat} (runs : s.pcc.cycleTimer = some n) (quiet : endsQuietly s)
    (unstaged : s.pcc.staged = none) (on : s.pcc.state ≠ .off) :
    cycleEnd s = { s with pcc := nextCycle s s.pcc } := by
  rw [cycleEnd_quiet runs quiet, applyStaged_none unstaged]
  exact runCycle_on (q := s.pcc) on

theorem cycleEnd_stops {s : State} {n : Nat} {x : PenSet} (runs : s.pcc.cycleTimer = some n) (quiet : endsQuietly s)
    (staged : s.pcc.staged = some x) (disabled : x.enable = false) :
    cycleEnd s = place (penRecord .off s.pcc.state .disabled (s.onPcc fun p => (Pcc.taking x p).stopped))
      (s.onPcc fun p => (Pcc.taking x p).stopped) := by
  rw [cycleEnd_quiet runs quiet, applyStaged_disabled staged disabled, runCycle_off (by rw [penOff_pcc]; rfl), penOff_eq]
  rfl

theorem limitWithin_taking (x : PenSet) (q : Pcc) :
    (Pcc.taking x q).limitWithin 0 = true ↔ x.session * 60000 ≤ q.seconds * 1000 + q.millis := by
  simp [Pcc.limitWithin]

/-- States of which allowance says nothing, and which run. -/
theorem idle_judged {s : State} (x : PenSet) (idle : s.pcc.state ∈ [.searching, .detected, .fault]) :
    allowanceRests (s.onPcc (Pcc.taking x)) ∧ s.pcc.state ≠ .off
      ∧ (s.pcc.state ≠ .charging ∨ (Pcc.taking x s.pcc).limitWithin 0 = false) := by
  simp only [List.mem_cons, List.not_mem_nil, or_false] at idle
  rcases idle with e | e | e
  · exact ⟨.inl (by simp [e]), by simp [e], .inl (by simp [e])⟩
  · exact ⟨.inl (by simp [e]), by simp [e], .inl (by simp [e])⟩
  · exact ⟨.inr (.inl e), by simp [e], .inl (by simp [e])⟩

/-- A held charge that the set does not allow. -/
theorem held_judged {s : State} {x : PenSet} (held : s.pcc.state ∈ [.paused, .full])
    (no : ¬ mayCharge s (Pcc.taking x s.pcc)) : allowanceRests (s.onPcc (Pcc.taking x)) ∧ s.pcc.state ≠ .off
      ∧ (s.pcc.state ≠ .charging ∨ (Pcc.taking x s.pcc).limitWithin 0 = false) := by
  simp only [List.mem_cons, List.not_mem_nil, or_false] at held
  rcases held with e | e
  · exact ⟨.inr (.inr (.inr (.inl ⟨e, no⟩))), by simp [e], .inl (by simp [e])⟩
  · exact ⟨.inr (.inr (.inr (.inr ⟨e, .inl no⟩))), by simp [e], .inl (by simp [e])⟩

section staged

variable {s : State} {n : Nat} {x : PenSet} (runs : s.pcc.cycleTimer = some n) (quiet : endsQuietly s)
  (staged : s.pcc.staged = some x) (enabled : x.enable = true) (undue : s.pcc.limitDue = false)

include runs quiet staged enabled undue

/-- With session time below the set's limit its allowance alone is judged. -/
theorem cycleEnd_below (unspent : (Pcc.taking x s.pcc).limitWithin 0 = false) :
    cycleEnd s = runCycle (penAllowance place (s.onPcc (Pcc.taking x))) := by
  rw [cycleEnd_quiet runs quiet, applyStaged_below staged enabled ⟨undue, unspent⟩]

/-- Outside CHARGING the limit is not judged. -/
theorem cycleEnd_held (rests : allowanceRests (s.onPcc (Pcc.taking x))) (on : s.pcc.state ≠ .off)
    (limited : s.pcc.state ≠ .charging ∨ (Pcc.taking x s.pcc).limitWithin 0 = false) :
    cycleEnd s = { s with pcc := nextCycle s (Pcc.taking x s.pcc) } := by
  have taken : applyStaged s = s.onPcc (Pcc.taking x) := by
    rcases limited with idle | unspent
    · exact applyStaged_rests staged enabled undue idle rests
    · rw [applyStaged_below staged enabled ⟨undue, unspent⟩, penAllowance_rest place rests]
  rw [cycleEnd_quiet runs quiet, taken]
  exact runCycle_on (q := Pcc.taking x s.pcc) on

/-- A charge that the set no longer allows. -/
theorem cycleEnd_pauses (charges : s.pcc.state = .charging) (no : ¬ mayCharge s (Pcc.taking x s.pcc))
    (unspent : (Pcc.taking x s.pcc).limitWithin 0 = false) :
    placesLast (penRecord .paused s.pcc.state .none (s.onPcc fun p => (Pcc.taking x p).pause))
      { s with pcc := nextCycle s (Pcc.taking x s.pcc).pause } (drivePins (cycleEnd s)) := by
  have last := placesLast_runCycle (penRecord .paused .charging .none (s.onPcc fun p => (Pcc.taking x p).pause))
    { s with pcc := (Pcc.taking x s.pcc).pause }
  rw [runCycle_on (by simp)] at last
  rw [cycleEnd_below runs quiet staged enabled undue unspent,
    penAllowance_pauses place (s := s.onPcc (Pcc.taking x)) charges no, charges]
  exact last

/-- A paused session that the set allows. -/
theorem cycleEnd_resumes (paused : s.pcc.state = .paused) (opened : s.pcc.sessionOpen = true)
    (may : mayCharge s (Pcc.taking x s.pcc)) (unspent : (Pcc.taking x s.pcc).limitWithin 0 = false) :
    placesLast (penRecord .resumed s.pcc.state .none (s.onPcc fun p => (Pcc.taking x p).resume))
      { s with pcc := nextCycle s (Pcc.taking x s.pcc).resume } (drivePins (cycleEnd s)) := by
  have last := placesLast_runCycle (penRecord .resumed .paused .none (s.onPcc fun p => (Pcc.taking x p).resume))
    { s with pcc := (Pcc.taking x s.pcc).resume }
  rw [runCycle_on (by simp)] at last
  rw [cycleEnd_below runs quiet staged enabled undue unspent,
    penAllowance_resumes place (s := s.onPcc (Pcc.taking x)) paused opened may, paused]
  exact last

/-- A charge whose time is spent under the set. -/
theorem cycleEnd_fails (charges : s.pcc.state = .charging) (may : mayCharge s (Pcc.taking x s.pcc))
    (spent : (Pcc.taking x s.pcc).limitWithin 0 = true) :
    Beyond s (drivePins (cycleEnd s)) ∧ (cycleEnd s).pcc = nextCycle s ((Pcc.taking x s.pcc).ended .sessionLimit .fault)
    ∧ (cycleEnd s).hlc.faults[4] = ⟨true, min 255 (s.hlc.faults[4].count + 1)⟩
    ∧ firstPlaced (penRecord .fault s.pcc.state .sessionLimit (s.onPcc fun p => (Pcc.taking x p).ended .sessionLimit .fault))
      s (cycleEnd s) := by
  have pcc := penFails_pcc .sessionLimit .sessionLimit (s.onPcc (Pcc.taking x))
  have beyond := penFails_beyond .sessionLimit .sessionLimit (s.onPcc (Pcc.taking x))
  have fault := penFails_fault .sessionLimit .sessionLimit (s.onPcc (Pcc.taking x))
  have first := penFails_firstPlaced .sessionLimit .sessionLimit (s.onPcc (Pcc.taking x))
  rw [cycleEnd_quiet runs quiet, applyStaged_spent staged enabled undue charges may spent]
  generalize penFails .sessionLimit .sessionLimit (s.onPcc (Pcc.taking x)) = u at pcc beyond fault first
  have cycles : runCycle u = { u with pcc := nextCycle u u.pcc } := runCycle_on (s := u) (q := u.pcc) (by simp [pcc])
  rw [cycles]
  refine ⟨⟨beyond.time, beyond.params, beyond.link, beyond.pse, beyond.dock, beyond.choices, beyond.pending⟩, ?_, fault,
    first⟩
  rw [pcc, nextCycle, show u.dlc.state = s.dlc.state from beyond.dockState]
  rfl

end staged

/-- Settles O48: the end of a cycle is its decode, the set that becomes active and the next start, of which the last two
are described in every case; the rest of a cycle writes the PCC alone. -/
theorem penCycleRuns : Obligations.PenCycleRuns := by
  intro s n r at_ x p started becomes record
  have starts (q : Pcc) : nextCycle s q = started q := by
    have full := Pcc.startCycle_full (decide (q.supply = .external ∨ s.dlc.state = .attached)) q
    rw [burstWidth_eq] at full
    exact full
  refine ⟨fun runs staged on => ⟨_, rfl, ?_⟩, fun runs quiet unstaged on => ?_,
    fun runs quiet staged disabled => ⟨_, rfl, ?_⟩,
    fun runs quiet staged enabled undue => ?_, fun bursts => done_onPcc s (Pcc.stopBurst_running bursts),
    fun lead probed => ?_, fun probe => ?_, fun low listen inside fresh => exec_penRxEdge _ _ s ?_,
    fun high listen inside capture after => exec_penRxEdge _ _ s ?_,
    fun high => ⟨fun same => exec_penRxEdge _ _ s (if_pos same), fun outside => exec_penRxEdge _ _ s ?_⟩,
    fun listen rise count => ?_⟩
  · obtain ⟨settings, outcome⟩ := cycleEnd_takes runs staged on
    simp only [Pcc.settings, Prod.mk.injEq] at settings
    obtain ⟨active, unstaged, collision, supply⟩ := settings
    exact ⟨cycleEnd_beyond s, active, unstaged, collision, supply, outcome⟩
  · show Host.Outcome.next (drivePins (cycleEnd s)) = .next (drivePins { s with pcc := started p })
    rw [cycleEnd_continues runs quiet unstaged on, starts]
  · have last := place_placesLast (penRecord .off p.state .disabled (s.onPcc fun p => (Pcc.taking x p).stopped))
      (s.onPcc fun p => (Pcc.taking x p).stopped)
    rw [cycleEnd_stops runs quiet staged disabled]
    simp only [penRecord, State.onPcc, Pcc.stopped_eq] at last ⊢
    exact last
  · intro q may spent
    have counts : (Pcc.taking x s.pcc).limitWithin 0 = true ↔ spent := limitWithin_taking x s.pcc
    have below (unspent : ¬ spent) : (Pcc.taking x s.pcc).limitWithin 0 = false :=
      Bool.eq_false_iff.mpr fun w => unspent (counts.mp w)
    refine ⟨fun holds => ?_, fun charges no unspent => ⟨_, rfl, ?_⟩, fun paused opened allows unspent => ⟨_, rfl, ?_⟩,
      fun charges allows reached => ⟨_, rfl, ?_⟩⟩
    · show Host.Outcome.next (drivePins (cycleEnd s)) = .next (drivePins { s with pcc := started q })
      obtain ⟨rests, on, limited⟩ : allowanceRests (s.onPcc (Pcc.taking x)) ∧ s.pcc.state ≠ .off
          ∧ (s.pcc.state ≠ .charging ∨ (Pcc.taking x s.pcc).limitWithin 0 = false) := by
        rcases holds with idle | ⟨charges, allows, unspent⟩ | ⟨held, no⟩
        · exact idle_judged x idle
        · exact ⟨.inr (.inr (.inl ⟨charges, allows⟩)), by simp [show s.pcc.state = .charging from charges],
            .inr (below unspent)⟩
        · exact held_judged held no
      rw [cycleEnd_held runs quiet staged enabled undue rests on limited, starts]
    · have last := cycleEnd_pauses runs quiet staged enabled undue charges no (below unspent)
      rw [nextCycle_pause s (q := q) undue, starts] at last
      simp only [penRecord, State.onPcc, Pcc.pause_eq] at last
      exact last
    · have last := cycleEnd_resumes runs quiet staged enabled undue paused opened allows (below unspent)
      rw [starts] at last
      exact last
    · obtain ⟨beyond, pcc, fault, first⟩ := cycleEnd_fails runs quiet staged enabled undue charges allows
        (counts.mpr reached)
      rw [nextCycle_ended s (q := q) undue, starts] at pcc
      simp only [penRecord, State.onPcc, Pcc.ended_eq] at first
      exact ⟨beyond, pcc, fault, first⟩
  · exact exec_probeStart lead probed
  · exact exec_probeEnd probe
  · rw [if_neg (by rw [show s.pcc.penRx = false from low]; decide), if_pos ⟨listen, inside⟩, Capture.edge_rises fresh]
  · rw [if_neg (by rw [show s.pcc.penRx = true from high]; decide), if_pos ⟨listen, inside⟩,
      show s.pcc.capture = _ from capture, Capture.edge_falls after]
  · have kept : (if s.pcc.phase = .listen ∧ at_ < 5000 then s.pcc.capture.edge high at_ else s.pcc.capture)
        = s.pcc.capture := by
      rcases outside with elsewhere | late | ⟨count, rise⟩
      · exact if_neg fun h => elsewhere h.1
      · exact if_neg fun h => absurd h.2 (Nat.not_lt.mpr late)
      · rw [Capture.edge_full count rise, ite_self]
    rw [kept]
    split
    · next same => rw [← same]
    · rfl
  · exact exec_captureOverflow listen rise count

end Sys2Proof.Machine
end

section
/-! PROOFS. What the end of a cycle reads of the mark of a probed cycle: whether it decodes, and nothing behind the decode. The
operations of the staged set commute with the mark's removal, the next start and OFF write it anew. -/

namespace Sys2Proof.Machine

/-! ## Operations that never see the mark -/

/-- The charger in a silent cycle. -/
abbrev Pcc.unprobed (q : Pcc) : Pcc := { q with probed := false }

/-- The state with the mark of a probed cycle removed. -/
abbrev unprobed (s : State) : State := s.onPcc Pcc.unprobed

/-- The operation commutes with the mark's removal. -/
abbrev ProbeBlind (f : State → State) : Prop := ∀ s, unprobed (f s) = f (unprobed s)

theorem ite_unprobed {c : Prop} [Decidable c] {x y x' y' : State} (hx : unprobed x = x') (hy : unprobed y = y') :
    unprobed (if c then x else y) = if c then x' else y' := by
  split
  · exact hx
  · exact hy

/-- A write of the PCC that commutes with the mark's removal. -/
theorem onPcc_unprobed {f : Pcc → Pcc} (hf : ∀ q, (f q).unprobed = f q.unprobed) (s : State) :
    unprobed (s.onPcc f) = (unprobed s).onPcc f := by
  simp only [unprobed, State.onPcc, hf]

theorem Pcc.pause_unprobed (q : Pcc) : q.pause.unprobed = q.unprobed.pause := by
  simp only [Pcc.pause_eq]

theorem Pcc.ended_unprobed (e : EndCause) (st : PenState) (q : Pcc) : (q.ended e st).unprobed = q.unprobed.ended e st := by
  simp only [Pcc.ended_eq]

theorem Pcc.countDue_unprobed (q : Pcc) : q.countDue.unprobed = q.unprobed.countDue := by
  simp only [Pcc.countDue, Pcc.raiseSession]
  split
  · split <;> rfl
  · rfl

section placing

variable {pl : Placer} (hp : ∀ r, ProbeBlind (pl r))

theorem loseUrgentWith_unprobed {g : State → State} (hg : ProbeBlind g) : ProbeBlind (loseUrgentWith g) := fun s =>
  ite_unprobed (hg (countUrgentLoss s)) rfl

theorem placeWith_unprobed {g : State → State} (hg : ProbeBlind g) (r : Record) : ProbeBlind (placeWith g r) := fun s =>
  ite_unprobed rfl (loseUrgentWith_unprobed hg s)

include hp

theorem raiseWith_unprobed {w : State → State} (hw : ProbeBlind w) (k : FaultKind) : ProbeBlind (raiseWith pl w k) := by
  intro s
  refine ite_unprobed rfl ?_
  have placed := hp (faultRecord k (noteFault k s)) (noteFault k s)
  simp only [State.onPcc_params]
  cases s.params.severity k with
  | log => rfl
  | notify => exact placed
  | wake => exact (hw _).trans (congrArg w placed)

/-- The record of a write that commutes with the mark's removal shows nothing of the mark. -/
theorem placed_unprobed {f : Pcc → Pcc} (hf : ∀ q, (f q).unprobed = f q.unprobed) (ev : PenEvent) (o : PenState)
    (c : PenCause) (s : State) : unprobed (pl (penRecord ev o c (s.onPcc f)) (s.onPcc f))
      = pl (penRecord ev o c ((unprobed s).onPcc f)) ((unprobed s).onPcc f) := by
  rw [hp, ← onPcc_unprobed hf]
  rfl

theorem penAllowance_unprobed : ProbeBlind (penAllowance pl) := by
  intro s
  have begins (o : PenState) : unprobed (beginSession pl o s) = beginSession pl o (unprobed s) :=
    placed_unprobed (f := Pcc.charge) hp (fun _ => rfl) .chargeStarted o .none s
  unfold penAllowance
  rw [show (unprobed s).pcc.state = s.pcc.state from rfl, show (unprobed s).pcc.level = s.pcc.level from rfl]
  cases s.pcc.state with
  | charging => exact ite_unprobed rfl (placed_unprobed hp Pcc.pause_unprobed .paused .charging .none s)
  | paused =>
    exact ite_unprobed rfl (ite_unprobed (placed_unprobed (f := Pcc.resume) hp (fun _ => rfl) .resumed .paused .none s)
      (begins _))
  | full =>
    cases s.pcc.level with
    | none => rfl
    | some l => exact ite_unprobed (begins _) rfl
  | off | searching | detected | fault => rfl

theorem gatherAtOnce_unprobed : ProbeBlind (gatherAtOnce pl) := fun _ => ite_unprobed (hp _ _) rfl

theorem wakeWith_unprobed (k : WakeKind) : ProbeBlind (wakeWith pl k) := by
  intro s
  have allowance := penAllowance_unprobed hp
  have atOnce := gatherAtOnce_unprobed hp
  unfold wakeWith
  simp only [State.onPcc_sdu, sleepHandOn_waking]
  cases s.sdu.sleep with
  | standby =>
    let woken := gatherStart k (s.onSdu fun u => { u with sleep := .waking })
    exact ite_unprobed ((allowance _).trans (congrArg (penAllowance pl) (atOnce woken)))
      ((atOnce _).trans (congrArg (gatherAtOnce pl) (allowance woken)))
  | waking => exact ite_unprobed (ite_unprobed rfl rfl) (atOnce _)
  | active | drowsy | sleepAdvised => rfl

end placing

theorem placeQuiet_unprobed (r : Record) : ProbeBlind (placeQuiet r) := 
  placeWith_unprobed (g := noteFault .urgentLoss) (fun _ => rfl) r

theorem placeSilent_unprobed (r : Record) : ProbeBlind (placeSilent r) := fun _ => ite_unprobed rfl rfl

theorem raiseUrgentLoss_unprobed : ProbeBlind raiseUrgentLoss :=
  raiseWith_unprobed placeSilent_unprobed (wakeWith_unprobed placeQuiet_unprobed .fault) _

theorem place_unprobed (r : Record) : ProbeBlind (place r) := placeWith_unprobed raiseUrgentLoss_unprobed r

theorem raiseFault_unprobed (k : FaultKind) : ProbeBlind (raiseFault k) :=
  raiseWith_unprobed place_unprobed (wakeWith_unprobed place_unprobed .fault) k

/-! ## The staged set and the next start -/

theorem penFails_unprobed (e : EndCause) (c : PenCause) : ProbeBlind (penFails e c) := by
  intro s
  have placed := placed_unprobed place_unprobed (Pcc.ended_unprobed e .fault) .fault s.pcc.state c s
  exact (raiseFault_unprobed .penFault _).trans (congrArg (raiseFault .penFault) placed)

theorem checkLimit_unprobed : ProbeBlind checkLimit := by
  intro s
  have counted := onPcc_unprobed Pcc.countDue_unprobed s
  have fails := penFails_unprobed .sessionLimit .sessionLimit (s.onPcc Pcc.countDue)
  rw [counted] at fails
  exact ite_unprobed (ite_unprobed fails rfl) counted

/-- The next start writes the mark anew. -/
theorem runCycle_unprobed {s : State} (on : s.pcc.state ≠ .off) : runCycle (unprobed s) = runCycle s := by
  have starts : nextCycle s s.pcc.unprobed = nextCycle s s.pcc := by
    simp only [nextCycle, Pcc.startCycle_full]
    rfl
  calc runCycle (unprobed s) = { s with pcc := nextCycle s s.pcc.unprobed } := runCycle_on (q := s.pcc.unprobed) on
    _ = { s with pcc := nextCycle s s.pcc } := by rw [starts]
    _ = runCycle s := (runCycle_on (q := s.pcc) on).symm

/-- Behind a decode the end of a cycle is the same with the mark and without it. -/
theorem runCycle_applyStaged_unprobed {s : State} (on : s.pcc.state ≠ .off) :
    runCycle (applyStaged (unprobed s)) = runCycle (applyStaged s) := by
  cases staged : s.pcc.staged with
  | none => rw [applyStaged_none (s := unprobed s) staged, applyStaged_none staged, runCycle_unprobed on]
  | some x =>
    by_cases enabled : x.enable = true
    · have allowance := penAllowance_unprobed place_unprobed
      have taken : unprobed (s.onPcc (Pcc.taking x)) = (unprobed s).onPcc (Pcc.taking x) := rfl
      have commutes : unprobed (applyStaged s) = applyStaged (unprobed s) := by
        rw [applyStaged_enabled staged enabled, applyStaged_enabled (s := unprobed s) staged enabled]
        refine ite_unprobed ?_ ?_
        · rw [allowance, checkLimit_unprobed, taken]
        · rw [checkLimit_unprobed, allowance, taken]
      have runs : (applyStaged s).pcc.state ≠ .off :=
        (runsUnder_applyStaged (a := s.pcc.active) (c := s.pcc.collision) (u := s.pcc.supply)
          ⟨by rw [← staged], on⟩ enabled).2
      rw [← commutes, runCycle_unprobed runs]
    · have disabled : x.enable = false := by simpa using enabled
      have stops : ((unprobed s).onPcc (Pcc.taking x)).onPcc Pcc.stopped = (s.onPcc (Pcc.taking x)).onPcc Pcc.stopped := by
        simp only [State.onPcc, Pcc.stopped_eq]
      rw [applyStaged_disabled staged disabled, applyStaged_disabled (s := unprobed s) staged disabled, penOff_eq, penOff_eq,
        stops]
      rfl

/-- The end of a probed cycle is that of a silent one at which the part stands as the decode leaves it. -/
theorem cycleEnd_decoded {s d : State} {n : Nat} (runs : s.pcc.cycleTimer = some n) (probed : s.pcc.probed = true)
    (decodes : decode s = d) (still : d.pcc.cycleTimer = some n) (on : d.pcc.state ≠ .off) :
    cycleEnd s = cycleEnd (unprobed d) := by
  have silent : (if (unprobed d).pcc.probed then decode (unprobed d) else unprobed d) = unprobed d := rfl
  rw [cycleEnd_runs runs, cycleEnd_runs (s := unprobed d) still, silent, if_pos probed, decodes,
    runCycle_applyStaged_unprobed on]

end Sys2Proof.Machine
end

section
/-! PROOFS. The decodes without docking, filling or removal (O49). -/

namespace Sys2Proof.Machine

/-! ## What a reply makes of the charger -/

theorem decode_silent {s : State} (silent : s.pcc.capture.rise = none) :
    decode s = penAllowance place (decodeChange .noReply s) := by
  rw [decode, Capture.reply_silent silent]

theorem decode_invalid {s : State} (bad : s.pcc.capture.invalid) :
    decode s = penAllowance place (decodeChange .invalid s) := by
  rw [decode, Capture.reply_invalid bad]

theorem decode_valid {s : State} {c : Nat} (good : s.pcc.capture.valid c) :
    decode s = penAllowance place (decodeChange (.valid (c - 20)) s) := by
  rw [decode, Capture.reply_valid good]

/-- A charge with the record of a valid reply: FAULT and FULL, and below 100 CHARGING and PAUSED. -/
theorem decodeChange_heard {s : State} {l : Nat} (charge : s.pcc.state ∈ [.charging, .paused, .full, .fault])
    (low : l ≠ 100 ∨ s.pcc.state = .full ∨ s.pcc.state = .fault) :
    decodeChange (.valid l) s = s.onPcc (Pcc.heard l) := by
  simp only [List.mem_cons, List.not_mem_nil, or_false] at charge
  unfold decodeChange
  rcases charge with e | e | e | e
  · have below : l ≠ 100 := by simpa [e] using low
    simp only [e, if_neg below]
  · have below : l ≠ 100 := by simpa [e] using low
    simp only [e, if_neg below]
  · simp only [e]
  · simp only [e]

theorem decodeChange_unheard {s : State} (charge : s.pcc.state ∈ [.charging, .paused, .full, .fault]) :
    decodeChange .noReply s = countSilent s := by
  simp only [List.mem_cons, List.not_mem_nil, or_false] at charge
  unfold decodeChange
  rcases charge with e | e | e | e <;> simp only [e]

theorem charge_of_rests {s : State} {q : Pcc} (rests : chargeRests s q) :
    q.state ∈ [.charging, .paused, .full, .fault] := by
  rcases rests with e | ⟨e, -⟩ | ⟨e, -⟩ | ⟨e, -⟩ <;> simp [e]

theorem running_of_charge {q : Pcc} (charge : q.state ∈ [.charging, .paused, .full, .fault]) : q.state ≠ .off := by
  intro e
  simp [e] at charge

/-- A silence below ABSENT_LIMIT is only counted. -/
theorem countSilent_counts {s : State} (few : s.pcc.silentProbes < 15)
    (below : s.pcc.silentProbes + 1 < s.pcc.active.absent) :
    countSilent s = s.onPcc fun p => { p with silentProbes := p.silentProbes + 1 } := by
  have counts : min 15 (s.pcc.silentProbes + 1) = s.pcc.silentProbes + 1 := by omega
  have stays : ¬ s.pcc.active.absent ≤ s.pcc.silentProbes + 1 := by omega
  simp only [countSilent, State.onPcc, counts, if_neg stays]

/-! ## A charge that was opened stays open -/

/-- An allowed charge stays as it is: waking lifts a restriction and brings none. -/
theorem charging_powered {q : Pcc} (charges : q.state = .charging) : Powered fun s => s.pcc = q ∧ mayCharge s q where
  sees s t pcc posture sleep h := ⟨pcc.trans h.1, (mayCharge_congr posture sleep q).mpr h.2⟩
  sleeps f s leads h := ⟨h.1, mayCharge_leads (s := s) rfl leads h.2⟩
  allowance {pl} _ s h := by
    obtain ⟨rfl, may⟩ := h
    rw [penAllowance_rest pl (.inr (.inr (.inl ⟨charges, may⟩)))]
    exact ⟨rfl, may⟩

/-- With no set staged the next cycle follows the decode. -/
theorem cycleEnd_unstaged {s : State} {n : Nat} (runs : s.pcc.cycleTimer = some n) (probed : s.pcc.probed = true)
    (unstaged : (decode s).pcc.staged = none) (on : (decode s).pcc.state ≠ .off) :
    cycleEnd s = { decode s with pcc := nextCycle (decode s) (decode s).pcc } := by
  rw [cycleEnd_runs runs, if_pos probed, applyStaged_none unstaged, runCycle_on (s := decode s) (q := (decode s).pcc) on]

/-! ## The decodes, one equation each -/

/-- A valid reply's level written. -/
abbrev hearing (c : Nat) (s : State) : State := s.onPcc (Pcc.heard (c - 20))

theorem decode_detects {s : State} {c : Nat} (searching : s.pcc.state = .searching) (good : s.pcc.capture.valid c) :
    decode s = s.onPcc fun p => { p with level := some (c - 20), state := .detected } := by
  rw [decode_valid good]
  simp only [decodeChange, searching]
  exact penAllowance_rest place (.inl (by simp))

theorem decode_loses {s : State} (detected : s.pcc.state = .detected)
    (reply : s.pcc.capture.rise = none ∨ s.pcc.capture.invalid) :
    decode s = s.onPcc fun p => { p with level := none, state := .searching } := by
  have searches : decode s = penAllowance place (s.onPcc fun p => { p with level := none, state := .searching }) := by
    rcases reply with none | bad
    · rw [decode_silent none]
      simp only [decodeChange, detected]
    · rw [decode_invalid bad]
      simp only [decodeChange, detected]
  rw [searches]
  exact penAllowance_rest place (.inl (by simp))

/-- A level without a change of state: allowance is all that can follow. -/
theorem decode_hears {s : State} {c : Nat} (good : s.pcc.capture.valid c)
    (charge : s.pcc.state ∈ [.charging, .paused, .full, .fault])
    (low : c < 120 ∨ s.pcc.state = .full ∨ s.pcc.state = .fault) : decode s = penAllowance place (hearing c s) := by
  obtain ⟨-, -, -, range, -⟩ := id good
  rw [decode_valid good, decodeChange_heard charge (low.imp_left fun h => by omega)]

theorem decode_counts {s : State} (silent : s.pcc.capture.rise = none) (rests : chargeRests s s.pcc)
    (few : s.pcc.silentProbes < 15) (below : s.pcc.silentProbes + 1 < s.pcc.active.absent) :
    decode s = s.onPcc fun p => { p with silentProbes := p.silentProbes + 1 } := by
  rw [decode_silent silent, decodeChange_unheard (charge_of_rests rests), countSilent_counts few below]
  exact penAllowance_rest place (.inr rests)

/-- Settles O49: each reply's decode is an equation, and what follows it is `cycleEnd_decoded`. -/
theorem penDecodesReply : Obligations.PenDecodesReply := by
  intro s n c runs probed p valid silent invalid goesOn goesOnWith record heard counted
  have follows {q : Pcc} (decodes : decode s = { s with pcc := q }) (still : q.cycleTimer = some n)
      (on : q.state ≠ .off) : goesOn q :=
    ⟨_, rfl, congrArg (fun t => Host.Outcome.next (drivePins t)) (cycleEnd_decoded runs probed decodes still on).symm⟩
  have followsWith {r : Record} {q : Pcc} (decodes : decode s = place r { s with pcc := q })
      (still : q.cycleTimer = some n) (on : q.state ≠ .off) : goesOnWith r q := by
    intro room
    rw [place_lodge (s := { s with pcc := q }) room] at decodes
    exact ⟨_, rfl, congrArg (fun t => Host.Outcome.next (drivePins t)) (cycleEnd_decoded runs probed decodes still on).symm⟩
  have quiet (q : endsQuietly s) : decode s = s := by
    have rests := decode_quiet q
    rwa [if_pos probed] at rests
  refine ⟨fun searching good => follows (decode_detects searching good) runs (by simp),
    fun searching reply => follows (quiet (.inr (.inl ⟨searching, reply⟩))) runs
      (by rw [show p.state = .searching from searching]; simp),
    fun detected reply => follows (decode_loses detected reply) runs (by simp),
    fun good rests low => follows (q := heard) ?_ runs (running_of_charge (charge_of_rests rests)),
    fun bad rests => follows (quiet (.inr (.inr ⟨bad, rests⟩))) runs (running_of_charge (charge_of_rests rests)),
    fun none rests few below => follows (decode_counts none rests few below) runs
      (running_of_charge (charge_of_rests rests)),
    fun charges good low no => followsWith ?_ runs (by simp),
    fun paused opened good low may => followsWith ?_ runs (by simp), fun full good may low => ?_⟩
  · rw [decode_hears good (charge_of_rests (q := heard) rests) low]
    exact penAllowance_rest place (s := hearing c s) (.inr rests)
  · have hears := decode_hears good (by rw [show s.pcc.state = .charging from charges]; simp) (.inl low)
    rw [penAllowance_pauses place (s := hearing c s) charges no] at hears
    simp only [penRecord, State.onPcc, Pcc.pause_eq] at hears
    rw [hears, ← charges]
    rfl
  · have hears := decode_hears good (by rw [show s.pcc.state = .paused from paused]; simp) (.inl low)
    rw [penAllowance_resumes place (s := hearing c s) paused opened may, ← paused] at hears
    exact hears
  · have hears := decode_hears good (by rw [show s.pcc.state = .full from full]; simp) (.inr (.inl full))
    rw [penAllowance_recharges place (s := hearing c s) full rfl low may] at hears
    refine ⟨⟨_, rfl, cycleEnd_beyond s, fun unstaged => ?_⟩,
      followsWith (q := (p.heard (c - 20)).charge) hears runs (by simp)⟩
    obtain ⟨opens, -⟩ := (charging_powered (q := (p.heard (c - 20)).charge) rfl).place _
      (s := (hearing c s).onPcc Pcc.charge) ⟨rfl, may⟩
    rw [← hears] at opens
    have next := congrArg State.pcc
      (cycleEnd_unstaged runs probed (by rw [opens]; exact unstaged) (by rw [opens]; simp))
    rw [opens, nextCycle, Pcc.startCycle_full] at next
    show (cycleEnd s).pcc.state = _ ∧ (cycleEnd s).pcc.sessions = _ ∧ (cycleEnd s).pcc.sessionOpen = _
      ∧ (cycleEnd s).pcc.level = _ ∧ (cycleEnd s).pcc.seconds = _ ∧ (cycleEnd s).pcc.millis = _
      ∧ (cycleEnd s).pcc.silentProbes = _
    rw [next]
    exact ⟨rfl, rfl, rfl, rfl, rfl, rfl, rfl⟩

end Sys2Proof.Machine
end

section
/-! PROOFS. What an activity event and the wake reason of a removal make of a part whose lane has room: the SDU and its
verdict behind the records that stand there. -/

namespace Sys2Proof.Machine

/-! ## Records behind records -/

theorem stampAll_split (now : Half) : ∀ (rs rs' : List Record) (gap : Nat), stampAll now gap (rs ++ rs')
    = stampAll now gap rs ++ stampAll now (if rs.isEmpty then gap else 0) rs'
  | [], _, _ => rfl
  | r :: rs, rs', gap => by
    have rest := stampAll_split now rs rs' 0
    rw [ite_self] at rest
    simp only [List.cons_append, stampAll, rest]
    rfl

theorem lodge_lodge (rs rs' : List Record) (s : State) : lodge rs' (lodge rs s) = lodge (rs ++ rs') s := by
  cases rs with
  | nil => rw [lodge_nil, List.nil_append]
  | cons r rs =>
    have split := stampAll_split s.time (r :: rs) rs' s.rqu.urgentGap
    simp only [List.isEmpty_cons, Bool.false_eq_true, if_false] at split
    simp only [lodge, split, show (r :: rs ++ rs').isEmpty = false from rfl, List.isEmpty_cons, List.append_assoc,
      Bool.false_eq_true, if_false, ite_self]

/-- A record behind others, with room for it. -/
theorem place_behind {r : Record} {rs : List Record} {s : State} (room : hasRoom (rs.length + 1) s) :
    place r (lodge rs s) = lodge (rs ++ [r]) s := by
  rw [place_lodge (lodge_room room), lodge_lodge]

theorem hasRoom_of_le {m n : Nat} {s : State} (le : m ≤ n) (room : hasRoom n s) : hasRoom m s := by
  unfold hasRoom at *
  omega

/-! ## Activity with room (R142) -/

/-- An activity event with room for its verdict. -/
theorem activity_room {s : State} (room : hasRoom (resumeVerdict s).length s) :
    activity s = lodge (resumeVerdict s) { s with sdu := s.sdu.stirred s.params } := by
  cases sleep : s.sdu.sleep
  case active =>
    rw [activity_active sleep, resumeVerdict, if_neg (by simp [sleep]), lodge_nil]
    rfl
  case drowsy | sleepAdvised =>
    have resting : s.sdu.sleep = .drowsy ∨ s.sdu.sleep = .sleepAdvised := by simp [sleep]
    have holds : holdCount (s.onSdu (Sdu.stirred s.params)) = holdCount s := holdCount_congr (stirred_holds _ _)
    have stirred : (s.sdu.stirred s.params).sleep = .active := by simp [Sdu.stirred, sleep]
    rw [resumeVerdict, if_pos resting] at room ⊢
    rw [activity_resumes resting, giveVerdict, place_lodge (s := s.onSdu _) room, verdictRecord, holds, State.onSdu_sdu,
      stirred]
    rfl
  case standby | waking =>
    have still : s.sdu.stirred s.params = s.sdu := by simp [Sdu.stirred, sleep]
    rw [activity_asleep (by rw [sleep]; rfl), resumeVerdict, if_neg (by simp [sleep]), lodge_nil, still]

/-! ## A wake reason with room (R153 to R156) -/

/-- A gather that starts, with room for its verdict. -/
theorem gatherAtOnce_room {k : WakeKind} {s : State} (starts : s.sdu.startsGather = true)
    (room : hasRoom (wakeVerdict k s).length s) :
    gatherAtOnce place (gatherStart k (s.onSdu fun u => { u with sleep := .waking }))
      = lodge (wakeVerdict k s) { s with sdu := s.sdu.told k s.params.wakeGather.toNat } := by
  have zero : s.params.wakeGather = 0 ↔ s.params.wakeGather.toNat = 0 := by bv_omega
  by_cases atOnce : s.params.wakeGather.toNat = 0
  · rw [wakeVerdict, if_pos ⟨zero.mpr atOnce, starts⟩] at room ⊢
    rw [gatherAtOnce, if_pos (by exact atOnce), gatherEnd, place_lodge (by exact room), Sdu.told, if_pos starts,
      if_pos atOnce, if_pos atOnce]
    rfl
  · rw [wakeVerdict, if_neg fun h => atOnce (zero.mp h.1), lodge_nil, gatherAtOnce, if_neg (by exact atOnce), Sdu.told,
      if_pos starts, if_neg atOnce, if_neg atOnce]
    rfl

/-- A wake reason with room for its verdict, where allowance says nothing of the charger. -/
theorem wake_room {k : WakeKind} {s : State} (idle : s.pcc.state ∈ [.off, .searching, .detected])
    (room : hasRoom (wakeVerdict k s).length s) :
    wake k s = lodge (wakeVerdict k s) { s with sdu := s.sdu.told k s.params.wakeGather.toNat } := by
  have rests (t : State) (pcc : t.pcc = s.pcc) : penAllowance place t = t :=
    penAllowance_rest place (.inl (pcc ▸ idle))
  cases sleep : s.sdu.sleep
  case standby =>
    have starts : s.sdu.startsGather = true := by simp [Sdu.startsGather, sleep]
    have gathered := gatherAtOnce_room starts room
    simp only [wake, wakeWith, sleep, sleepHandOn_waking]
    rw [rests (gatherStart k (s.onSdu fun u => { u with sleep := .waking })) rfl, gathered,
      rests (lodge _ { s with sdu := s.sdu.told k s.params.wakeGather.toNat }) rfl, ite_self]
  case waking =>
    cases gather : s.sdu.gatherTimer with
    | none =>
      have starts : s.sdu.startsGather = true := by simp [Sdu.startsGather, sleep, gather]
      have still : (s.onSdu fun u => { u with sleep := .waking }) = s := by
        rw [State.onSdu, ← sleep]
      have gathered := gatherAtOnce_room starts room
      rw [still] at gathered
      simp only [wake, wakeWith, sleep, gather, Option.isSome_none, Bool.false_eq_true, if_false]
      exact gathered
    | some m =>
      have joins : s.sdu.startsGather = false := by simp [Sdu.startsGather, sleep, gather]
      rw [wake_joins sleep (by rw [gather]; rfl), wakeVerdict, if_neg (by simp [joins]), lodge_nil, Sdu.told,
        if_neg (by simp [joins])]
      by_cases known : k ∈ s.sdu.wakeList
      · simp [State.onSdu, known]
      · simp [State.onSdu, known, sleep]
  case active | drowsy | sleepAdvised =>
    have awake : s.sdu.sleep.asleep = false := by rw [sleep]; rfl
    have deaf : s.sdu.startsGather = false := by simp [Sdu.startsGather, sleep]
    rw [wake, wakeWith_awake place k awake, wakeVerdict, if_neg (by simp [deaf]), lodge_nil, Sdu.told,
      if_neg (by simp [deaf]), if_neg (by simp [sleep])]

/-- Activity leaves a part that sleeps to its wake reason, and one that is awake without any. -/
theorem wakeVerdict_stirred (k : WakeKind) (s : State) :
    wakeVerdict k { s with sdu := s.sdu.stirred s.params } = wakeVerdict k s := by
  have gathers : (s.sdu.stirred s.params).startsGather = s.sdu.startsGather := by
    cases sleep : s.sdu.sleep <;> simp [Sdu.stirred, Sdu.restarted, Sdu.startsGather, sleep]
  have holds : holdCount { s with sdu := s.sdu.stirred s.params } = holdCount s := holdCount_congr (stirred_holds _ _)
  simp only [wakeVerdict, gathers, holds]

theorem stirred_standby (p : Params) (u : Sdu) : (u.stirred p).sleep = .standby ↔ u.sleep = .standby := by
  cases sleep : u.sleep <;> simp [Sdu.stirred, Sdu.restarted, sleep]

/-- Of the sleep state allowance sees whether it is STANDBY. -/
theorem mayCharge_standby {s t : State} (posture : t.posture = s.posture)
    (standby : t.sdu.sleep = .standby ↔ s.sdu.sleep = .standby) (q : Pcc) : mayCharge t q ↔ mayCharge s q := by
  rw [mayCharge, mayCharge, posture, standby]

end Sys2Proof.Machine
end

section
/-! PROOFS. The decodes that dock, fill and remove the pen (O50). -/

namespace Sys2Proof.Machine

/-! ## Docking (R131) -/

/-- The charger that a second valid reply docks. -/
abbrev Pcc.docked (c : Nat) (st : PenState) (q : Pcc) : Pcc :=
  { q with level := some (c - 20), silentProbes := 0, silentCycles := 0, state := st }

/-- The record of the docking. -/
abbrev dockedRecord (c : Nat) (st : PenState) (s : State) : Record :=
  penRecord .docked .detected .none (s.onPcc (Pcc.docked c st))

/-- The record of the session that opens at the docking. -/
abbrev startedRecord (c : Nat) (s : State) : Record :=
  penRecord .chargeStarted .detected .none (s.onPcc fun q => (q.docked c .charging).charge)

section docking

variable {s : State} {c : Nat} (detected : s.pcc.state = .detected) (good : s.pcc.capture.valid c)
include detected good

theorem decode_docks : decode s = penAllowance place (penDocked (c - 20) s) := by
  rw [decode_valid good]
  simp only [decodeChange, detected]

/-- Docked at 100, and docked where charging is not allowed: a record and the activity. -/
theorem decode_docks_held {st : PenState} (holds : st = .full ∧ c = 120
    ∨ st = .paused ∧ c < 120 ∧ ¬ mayCharge s (s.pcc.docked c .paused)) :
    decode s = penAllowance place (activity (place (dockedRecord c st s) (s.onPcc (Pcc.docked c st)))) := by
  obtain ⟨-, -, -, low, -⟩ := id good
  have next : dockedState (c - 20) (hearing c s) = st ∧ st ≠ .charging := by
    rcases holds with ⟨rfl, full⟩ | ⟨rfl, below, no⟩
    · exact ⟨if_pos (by omega), by simp⟩
    · have refused : ¬ allowed (hearing c s) = true := fun a => no ((allowed_iff (hearing c s)).mp a)
      exact ⟨by rw [dockedState, if_neg (by omega), if_neg refused], by simp⟩
  rw [decode_docks detected good, penDocked, next.1, if_neg next.2, detected]
  rfl

/-- Docked with charging allowed: two records and the activity. -/
theorem decode_docks_charging (below : c < 120) (may : mayCharge s (s.pcc.docked c .charging)) :
    decode s = penAllowance place (activity (beginSession place .detected
      (place (dockedRecord c .charging s) (s.onPcc (Pcc.docked c .charging))))) := by
  obtain ⟨-, -, -, low, -⟩ := id good
  have allows : allowed (hearing c s) = true := (allowed_iff (hearing c s)).mpr may
  have next : dockedState (c - 20) (hearing c s) = .charging := by
    rw [dockedState, if_neg (by omega), if_pos allows]
  rw [decode_docks detected good, penDocked, next, if_pos rfl, detected]
  rfl

end docking

/-! ## Filling and removal (R133, R137) -/

/-- The charger that a level of 100 fills. -/
abbrev Pcc.filled (c : Nat) (q : Pcc) : Pcc := { (q.heard (c - 20)).ended .full .full with silentCycles := 0 }

theorem Pcc.filled_eq (c : Nat) (q : Pcc) : q.filled c = { q with
    level := some (c - 20), silentProbes := 0, silentCycles := 0, state := .full, sessionOpen := false
    lastEnd := if q.sessionOpen then .full else q.lastEnd, burstTimer := none
    penDrv := q.penDrv && q.burstTimer.isNone, progressTimer := none, limitDue := false } := by
  rw [Pcc.filled, Pcc.ended_eq]
  rfl

theorem Pcc.removed_eq (q : Pcc) : q.removed = { q with
    level := none, silentProbes := 0, state := .searching, sessionOpen := false
    lastEnd := if q.sessionOpen then .removed else q.lastEnd, burstTimer := none
    penDrv := q.penDrv && q.burstTimer.isNone, progressTimer := none, limitDue := false } := by
  rw [Pcc.removed, Pcc.ended_eq]

abbrev filledRecord (c : Nat) (s : State) : Record := penRecord .full s.pcc.state .none (s.onPcc (Pcc.filled c))

theorem decode_fills {s : State} {c : Nat} (session : s.pcc.state = .charging ∨ s.pcc.state = .paused)
    (good : s.pcc.capture.valid c) (full : c = 120) :
    decode s = penAllowance place (place (filledRecord c s) (s.onPcc (Pcc.filled c))) := by
  have fills : decodeChange (.valid (c - 20)) s = penFull (hearing c s) := by
    rcases session with e | e <;> simp only [decodeChange, e, if_pos (show c - 20 = 100 by omega)]
  rw [decode_valid good, fills]
  rfl

abbrev removedRecord (s : State) : Record := penRecord .removed s.pcc.state .none (s.onPcc Pcc.removed)

/-- The removal up to its wake reason. -/
abbrev removing (s : State) : State := activity (place (removedRecord s) (s.onPcc Pcc.removed))

theorem decode_removes {s : State} (charge : s.pcc.state ∈ [.charging, .paused, .full, .fault])
    (silent : s.pcc.capture.rise = none) (few : s.pcc.silentProbes < 15)
    (enough : s.pcc.active.absent ≤ s.pcc.silentProbes + 1) :
    decode s = penAllowance place (if s.pcc.active.wake then wake .penRemoved (removing s) else removing s) := by
  have counts : min 15 (s.pcc.silentProbes + 1) = s.pcc.silentProbes + 1 := by omega
  have removed : ({ s.pcc with silentProbes := s.pcc.silentProbes + 1 } : Pcc).removed = s.pcc.removed := by
    simp only [Pcc.removed_eq]
  have goes : countSilent s = if s.pcc.active.wake then wake .penRemoved (removing s) else removing s := by
    simp only [countSilent, State.onPcc, counts, if_pos enough, penRemoved]
    simp only [removing, removedRecord, State.onPcc, ← removed]
    rfl
  rw [decode_silent silent, decodeChange_unheard charge, goes]

/-! ## With room for the records -/

/-- An activity event behind records, with room for its verdict. -/
theorem activity_behind {rs : List Record} {s : State} (room : hasRoom (rs ++ resumeVerdict s).length s) :
    activity (lodge rs s) = lodge (rs ++ resumeVerdict s) { s with sdu := s.sdu.stirred s.params } := by
  rw [List.length_append] at room
  rw [activity_room (s := lodge rs s) (lodge_room room)]
  exact lodge_lodge rs (resumeVerdict s) { s with sdu := s.sdu.stirred s.params }

theorem wake_behind {k : WakeKind} {rs : List Record} {s : State} (idle : s.pcc.state ∈ [.off, .searching, .detected])
    (room : hasRoom (rs ++ wakeVerdict k s).length s) :
    wake k (lodge rs s) = lodge (rs ++ wakeVerdict k s) { s with sdu := s.sdu.told k s.params.wakeGather.toNat } := by
  rw [List.length_append] at room
  rw [wake_room (s := lodge rs s) idle (lodge_room room)]
  exact lodge_lodge rs (wakeVerdict k s) { s with sdu := s.sdu.told k s.params.wakeGather.toNat }

theorem chargeRests_congr {s t : State} {q : Pcc} (same : mayCharge t q ↔ mayCharge s q) :
    chargeRests t q ↔ chargeRests s q := by
  simp only [chargeRests, same]

/-- Activity leaves allowance as it is. -/
theorem penAllowance_stirred {rs : List Record} {s : State} {q : Pcc} (rests : chargeRests s q) :
    penAllowance place (lodge rs { s with pcc := q, sdu := s.sdu.stirred s.params })
      = lodge rs { s with pcc := q, sdu := s.sdu.stirred s.params } := by
  have same : mayCharge (lodge rs { s with pcc := q, sdu := s.sdu.stirred s.params }) q ↔ mayCharge s q :=
    mayCharge_standby (by rfl) (stirred_standby s.params s.sdu) q
  exact penAllowance_rest place (.inr ((chargeRests_congr same).mpr rests))

theorem decode_removes_room {s : State} (charge : s.pcc.state ∈ [.charging, .paused, .full, .fault])
    (silent : s.pcc.capture.rise = none) (few : s.pcc.silentProbes < 15)
    (enough : s.pcc.active.absent ≤ s.pcc.silentProbes + 1)
    (room : hasRoom (removedRecord s :: resumeVerdict s
      ++ if s.pcc.active.wake then wakeVerdict .penRemoved s else []).length s) :
    decode s = lodge (removedRecord s :: resumeVerdict s ++ if s.pcc.active.wake then wakeVerdict .penRemoved s else [])
      { s with
        pcc := s.pcc.removed
        sdu := if s.pcc.active.wake then (s.sdu.stirred s.params).told .penRemoved s.params.wakeGather.toNat
          else s.sdu.stirred s.params } := by
  have leaves : removing s = lodge (removedRecord s :: resumeVerdict s)
      { s with pcc := s.pcc.removed, sdu := s.sdu.stirred s.params } := by
    rw [removing, place_lodge (s := s.onPcc Pcc.removed) (hasRoom_of_le (by simp) room)]
    have same : resumeVerdict (s.onPcc Pcc.removed) = resumeVerdict s := rfl
    exact activity_behind (rs := [removedRecord s]) (s := s.onPcc Pcc.removed) (hasRoom_of_le (by simp [same]) room)
  rw [decode_removes charge silent few enough, leaves]
  by_cases wakes : s.pcc.active.wake = true
  · rw [if_pos wakes] at room
    have told := wake_behind (k := .penRemoved) (rs := removedRecord s :: resumeVerdict s)
      (s := { s with pcc := s.pcc.removed, sdu := s.sdu.stirred s.params }) (by simp [Pcc.removed])
    rw [show wakeVerdict .penRemoved { s with pcc := s.pcc.removed, sdu := s.sdu.stirred s.params }
      = wakeVerdict .penRemoved s from wakeVerdict_stirred _ s] at told
    rw [if_pos wakes, if_pos wakes, if_pos wakes, told room]
    exact penAllowance_rest place (.inl (by simp [lodge, Pcc.removed]))
  · rw [if_neg wakes, if_neg wakes, if_neg wakes, List.append_nil]
    exact penAllowance_rest place (.inl (by simp [lodge, Pcc.removed]))

/-- Docked at 100 or without allowance, with room for the records. -/
theorem decode_docks_held_room {s : State} {c : Nat} {st : PenState} (detected : s.pcc.state = .detected)
    (good : s.pcc.capture.valid c) (holds : st = .full ∧ c = 120 ∧ s.pcc.active.resume < 100
      ∨ st = .paused ∧ c < 120 ∧ ¬ mayCharge s (s.pcc.docked c .paused))
    (room : hasRoom (dockedRecord c st s :: resumeVerdict s).length s) :
    decode s = lodge (dockedRecord c st s :: resumeVerdict s)
      { s with pcc := s.pcc.docked c st, sdu := s.sdu.stirred s.params } := by
  have rests : chargeRests s (s.pcc.docked c st) := by
    rcases holds with ⟨rfl, rfl, resume⟩ | ⟨rfl, -, no⟩
    · exact .inr (.inr (.inr ⟨rfl, .inr fun l e => by cases e; exact resume⟩))
    · exact .inr (.inr (.inl ⟨rfl, no⟩))
  rw [decode_docks_held detected good (holds.imp_left fun h => ⟨h.1, h.2.1⟩),
    place_lodge (s := s.onPcc (Pcc.docked c st)) (hasRoom_of_le (by simp) room),
    activity_behind (rs := [dockedRecord c st s]) (s := s.onPcc (Pcc.docked c st)) room]
  exact penAllowance_stirred rests

/-- Docked with a session opened, with room for the records. -/
theorem decode_docks_charging_room {s : State} {c : Nat} (detected : s.pcc.state = .detected)
    (good : s.pcc.capture.valid c) (below : c < 120) (may : mayCharge s (s.pcc.docked c .charging))
    (room : hasRoom (dockedRecord c .charging s :: startedRecord c s :: resumeVerdict s).length s) :
    decode s = lodge (dockedRecord c .charging s :: startedRecord c s :: resumeVerdict s)
      { s with pcc := (s.pcc.docked c .charging).charge, sdu := s.sdu.stirred s.params } := by
  let opened := s.onPcc fun q => (q.docked c .charging).charge
  have starts : beginSession place .detected (lodge [dockedRecord c .charging s] (s.onPcc (Pcc.docked c .charging)))
      = lodge [dockedRecord c .charging s, startedRecord c s] opened :=
    place_behind (r := startedRecord c s) (rs := [dockedRecord c .charging s]) (s := opened)
      (hasRoom_of_le (by simp) room)
  rw [decode_docks_charging detected good below may,
    place_lodge (s := s.onPcc (Pcc.docked c .charging)) (hasRoom_of_le (by simp) room), starts,
    activity_behind (rs := [dockedRecord c .charging s, startedRecord c s]) (s := opened) room]
  exact penAllowance_stirred (q := (s.pcc.docked c .charging).charge) (.inr (.inl ⟨rfl, may⟩))

theorem decode_fills_room {s : State} {c : Nat} (session : s.pcc.state = .charging ∨ s.pcc.state = .paused)
    (good : s.pcc.capture.valid c) (full : c = 120) (resume : s.pcc.active.resume < 100) (room : hasRoom 1 s) :
    decode s = lodge [filledRecord c s] { s with pcc := s.pcc.filled c } := by
  rw [decode_fills session good full, place_lodge (s := s.onPcc (Pcc.filled c)) room]
  subst full
  refine penAllowance_rest place (.inr (.inr (.inr (.inr ⟨rfl, .inr fun l e => ?_⟩))))
  simp only [lodge, State.onPcc, Pcc.filled_eq, Option.some.injEq] at e ⊢
  exact e ▸ resume

end Sys2Proof.Machine
end

section
/-! PROOFS. The decodes that dock, fill and remove the pen (O50), continued: with or without room for their records. -/

namespace Sys2Proof.Machine

/-! ## Chargers that a lost record does not move -/

/-- FULL above RESUME_LEVEL stays as it is. -/
theorem full_powered {q : Pcc} (full : q.state = .full) (high : ∀ l, q.level = some l → q.active.resume < l) :
    Powered fun s => s.pcc = q where
  sees _ _ pcc _ _ h := pcc.trans h
  sleeps _ _ _ h := h
  allowance {pl} _ s h := by
    show (penAllowance pl s).pcc = q
    rw [penAllowance_rest pl (.inr (by rw [h]; exact .inr (.inr (.inr ⟨full, .inr high⟩))))]
    exact h

/-- PAUSED in a posture outside the mask or at BATTERY_LOW stays as it is. -/
theorem barred_powered {q : Pcc} (paused : q.state = .paused) :
    Powered fun s => s.pcc = q ∧ ¬ (maskHas q.active.postures s.posture = true ∧ q.supply ≠ .batteryLow) where
  sees s t pcc posture _ h := ⟨pcc.trans h.1, by rw [posture]; exact h.2⟩
  sleeps _ _ _ h := h
  allowance {pl} _ s h := by
    obtain ⟨rfl, barred⟩ := h
    have no : ¬ mayCharge s s.pcc := fun may => barred ⟨may.1, may.2.1⟩
    rw [penAllowance_rest pl (.inr (.inr (.inr (.inl ⟨paused, no⟩))))]
    exact ⟨rfl, barred⟩

/-! ## The lane behind a decode -/

section ends

variable {s : State} {n : Nat} (runs : s.pcc.cycleTimer = some n) (probed : s.pcc.probed = true)
  {q : Pcc} (decodes : (decode s).pcc = q) (unstaged : q.staged = none) (on : q.state ≠ .off)

include runs probed decodes unstaged on

/-- The charger after the end of a cycle with no set staged. -/
theorem cycleEnd_pcc : (drivePins (cycleEnd s)).pcc = nextCycle (decode s) q := by
  have ends := cycleEnd_unstaged runs probed (by rw [decodes]; exact unstaged) (by rw [decodes]; exact on)
  rw [ends, decodes]
  rfl

/-- What stands at the lane's front after the decode stands there after the cycle's end. -/
theorem cycleEnd_lane {l : List Record} (behind : l <+: (decode s).rqu.urgent) :
    ∃ more, (drivePins (cycleEnd s)).rqu.urgent = l ++ more := by
  rw [cycleEnd_unstaged runs probed (by rw [decodes]; exact unstaged) (by rw [decodes]; exact on)]
  exact behind.imp fun _ e => e.symm

theorem cycleEnd_sleep : (drivePins (cycleEnd s)).sdu.sleep = (decode s).sdu.sleep := by
  rw [cycleEnd_unstaged runs probed (by rw [decodes]; exact unstaged) (by rw [decodes]; exact on)]
  rfl

end ends

/-- What allowance and activity leave at the lane's front. -/
theorem stirred_prefix {l : List Record} {t : State} (behind : l <+: t.rqu.urgent) :
    l <+: (penAllowance place (activity t)).rqu.urgent := by
  have stable := lanePrefix_stable l
  exact stable.penAllowance stable.place (stable.activity behind)

section outcomes

variable {s : State} {c : Nat}

/-- Docked at 100 or without allowance: the charger, whatever became of the record. -/
theorem docks_held_pcc {st : PenState} (detected : s.pcc.state = .detected) (good : s.pcc.capture.valid c)
    (holds : st = .full ∧ c = 120 ∧ s.pcc.active.resume < 100 ∨ st = .paused ∧ c < 120
      ∧ ¬ (maskHas s.pcc.active.postures s.posture = true ∧ s.pcc.supply ≠ .batteryLow)) :
    (decode s).pcc = s.pcc.docked c st ∧ (hasRoom 1 s →
      s.rqu.urgent ++ stampAll s.time s.rqu.urgentGap [dockedRecord c st s] <+: (decode s).rqu.urgent) := by
  have docks := decode_docks_held (st := st) detected good
    (holds.imp (fun h => ⟨h.1, h.2.1⟩) fun h => ⟨h.1, h.2.1, fun may => h.2.2 ⟨may.1, may.2.1⟩⟩)
  rw [docks]
  refine ⟨?_, fun room => stirred_prefix (place_urgent (s := s.onPcc (Pcc.docked c st)) room ▸ List.prefix_rfl)⟩
  rcases holds with ⟨rfl, rfl, resume⟩ | ⟨rfl, -, barred⟩
  · have powered := full_powered (q := s.pcc.docked 120 .full) rfl fun l e => by cases e; exact resume
    exact powered.allowance powered.place (powered.activity (powered.place _ rfl))
  · have powered := barred_powered (q := s.pcc.docked c .paused) rfl
    exact (powered.allowance powered.place 
      (powered.activity (powered.place _ (s := s.onPcc (Pcc.docked c .paused)) ⟨rfl, barred⟩))).1

/-- Docked with a session opened. -/
theorem docks_charging_pcc (detected : s.pcc.state = .detected) (good : s.pcc.capture.valid c) (below : c < 120)
    (may : mayCharge s (s.pcc.docked c .charging)) :
    (decode s).pcc = (s.pcc.docked c .charging).charge ∧ (hasRoom 2 s →
      s.rqu.urgent ++ stampAll s.time s.rqu.urgentGap [dockedRecord c .charging s, startedRecord c s]
        <+: (decode s).rqu.urgent) := by
  let opened := s.onPcc fun q => (q.docked c .charging).charge
  have arrives := charging_powered (q := s.pcc.docked c .charging) rfl
  have charges := charging_powered (q := (s.pcc.docked c .charging).charge) rfl
  obtain ⟨docked, still⟩ := arrives.place (dockedRecord c .charging s) (s := s.onPcc (Pcc.docked c .charging)) ⟨rfl, may⟩
  rw [decode_docks_charging detected good below may]
  refine ⟨?_, fun room => ?_⟩
  · generalize place (dockedRecord c .charging s) (s.onPcc (Pcc.docked c .charging)) = t at docked still
    have begun := charges.place (penRecord .chargeStarted .detected .none (t.onPcc Pcc.charge)) (s := t.onPcc Pcc.charge)
      ⟨congrArg Pcc.charge docked, still⟩
    exact (charges.allowance charges.place (charges.activity begun)).1
  · have starts : beginSession place .detected (lodge [dockedRecord c .charging s] (s.onPcc (Pcc.docked c .charging)))
        = lodge [dockedRecord c .charging s, startedRecord c s] opened :=
      place_behind (r := startedRecord c s) (rs := [dockedRecord c .charging s]) (s := opened) room
    rw [place_lodge (s := s.onPcc (Pcc.docked c .charging)) (hasRoom_of_le (by decide) room), starts]
    exact stirred_prefix List.prefix_rfl

/-- Filled. -/
theorem fills_pcc (session : s.pcc.state = .charging ∨ s.pcc.state = .paused) (good : s.pcc.capture.valid c)
    (full : c = 120) (resume : s.pcc.active.resume < 100) :
    (decode s).pcc = s.pcc.filled c ∧ (hasRoom 1 s →
      s.rqu.urgent ++ stampAll s.time s.rqu.urgentGap [filledRecord c s] <+: (decode s).rqu.urgent) := by
  have high : ∀ l, (s.pcc.filled c).level = some l → (s.pcc.filled c).active.resume < l := by
    intro l e
    rw [Pcc.filled_eq] at e ⊢
    cases e
    subst full
    exact resume
  have powered := full_powered (q := s.pcc.filled c) rfl high
  rw [decode_fills session good full]
  refine ⟨powered.allowance powered.place (powered.place _ rfl), fun room => ?_⟩
  have stable := lanePrefix_stable (s.rqu.urgent ++ stampAll s.time s.rqu.urgentGap [filledRecord c s])
  exact stable.penAllowance stable.place (place_urgent (s := s.onPcc (Pcc.filled c)) room ▸ List.prefix_rfl)

/-- Removed. -/
theorem removes_pcc (charge : s.pcc.state ∈ [.charging, .paused, .full, .fault]) (silent : s.pcc.capture.rise = none)
    (few : s.pcc.silentProbes < 15) (enough : s.pcc.active.absent ≤ s.pcc.silentProbes + 1) :
    (decode s).pcc = s.pcc.removed
    ∧ (hasRoom 1 s →
      s.rqu.urgent ++ stampAll s.time s.rqu.urgentGap [removedRecord s] <+: (decode s).rqu.urgent)
    ∧ (s.sdu.sleep = .standby → s.pcc.active.wake = true → (decode s).sdu.sleep = .waking) := by
  have powered := pccIs_powered (q := s.pcc.removed) (by simp [Pcc.removed])
  have left : (removing s).pcc = s.pcc.removed := powered.activity (powered.place _ rfl)
  have stable := lanePrefix_stable (s.rqu.urgent ++ stampAll s.time s.rqu.urgentGap [removedRecord s])
  have behind : hasRoom 1 s → s.rqu.urgent ++ stampAll s.time s.rqu.urgentGap [removedRecord s]
      <+: (removing s).rqu.urgent := fun room =>
    stable.activity (place_urgent (s := s.onPcc Pcc.removed) room ▸ List.prefix_rfl)
  rw [decode_removes charge silent few enough]
  refine ⟨powered.allowance powered.place ?_, fun room => stable.penAllowance stable.place ?_, fun standby wakes => ?_⟩
  · split
    · exact powered.wake _ left
    · exact left
  · split
    · exact stable.wake _ (behind room)
    · exact behind room
  · have calm := asleep_calm true
    have asleep : (removing s).sdu.sleep.asleep = true :=
      calm.activity (calm.place _ (s := s.onPcc Pcc.removed) (by rw [State.onPcc_sdu, standby]; rfl))
    rw [if_pos wakes]
    exact waking_calm.penAllowance (wake_waking .penRemoved asleep)

end outcomes

/-! ## The statement -/

/-- Settles O50: with room each decode is an equation, and what follows it is `cycleEnd_decoded`; without, the charger and the
lane's front come through the records that are lost. -/
theorem penDocksFillsAndLeaves : Obligations.PenDocksFillsAndLeaves := by
  intro s n c runs probed p valid record may goesOn docked left stirred level
  have follows {rs : List Record} {q : Pcc} {u : Sdu} (still : q.cycleTimer = some n) (on : q.state ≠ .off)
      (decodes : hasRoom rs.length s → decode s = lodge rs { s with pcc := q, sdu := u }) : goesOn rs q u :=
    fun room => ⟨_, rfl, congrArg (fun t => Host.Outcome.next (drivePins t))
      (cycleEnd_decoded runs probed (decodes room) still on).symm⟩
  have within (good : valid) (part : ¬ c = 120) : c < 120 := by
    obtain ⟨-, -, -, -, high⟩ := good
    omega
  refine ⟨fun detected good resume => ⟨fun full => ?_, fun below allows => ?_, fun below no => ?_⟩,
    fun session good full resume => ?_, fun charge silent few enough => ?_,
    fun unstaged detected good awake resume => ⟨_, rfl, cycleEnd_beyond s, ?_⟩,
    fun unstaged session good full resume => ⟨_, rfl, cycleEnd_beyond s, ?_⟩,
    fun unstaged charge silent few enough => ⟨_, rfl, cycleEnd_beyond s, ?_⟩⟩
  · subst full
    exact follows (q := p.docked 120 .full) runs (by simp) (decode_docks_held_room detected good (.inl ⟨rfl, rfl, resume rfl⟩))
  · exact follows (q := (p.docked c .charging).charge) runs (by simp)
      (decode_docks_charging_room detected good below allows)
  · exact follows (q := p.docked c .paused) runs (by simp) (decode_docks_held_room detected good (.inr ⟨rfl, below, no⟩))
  · subst full
    refine follows (rs := [_]) runs (by simp) fun room => ?_
    have fills := decode_fills_room session good rfl resume room
    simp only [filledRecord, penRecord, State.onPcc, Pcc.filled_eq] at fills
    exact fills
  · refine follows runs (by simp) fun room => ?_
    have removes := decode_removes_room charge silent few enough room
    simp only [removedRecord, penRecord, State.onPcc, Pcc.removed_eq] at removes
    exact removes
  · have allows : mayCharge s (s.pcc.docked c .charging) ↔ may :=
      ⟨fun h => ⟨h.1, h.2.1⟩, fun h => ⟨h.1, h.2, fun standby => absurd standby awake⟩⟩
    by_cases full : c = 120
    · obtain ⟨pcc, behind⟩ := docks_held_pcc (st := .full) detected good (.inl ⟨rfl, full, resume full⟩)
      have ends := cycleEnd_pcc runs probed pcc unstaged (by simp)
      rw [nextCycle, Pcc.startCycle_full] at ends
      rw [if_pos full, ends]
      subst full
      exact ⟨rfl, rfl, rfl, rfl, rfl, rfl, rfl, rfl,
        fun room => cycleEnd_lane runs probed pcc unstaged (by simp) (behind room)⟩
    · rw [if_neg full]
      by_cases charges : may
      · obtain ⟨pcc, behind⟩ := docks_charging_pcc detected good (within good full) (allows.mpr charges)
        have ends := cycleEnd_pcc runs probed pcc unstaged (by simp)
        rw [nextCycle, Pcc.startCycle_full] at ends
        rw [if_pos charges, ends]
        exact ⟨rfl, rfl, rfl, rfl, rfl, rfl, rfl, rfl, rfl, rfl, rfl, rfl,
          fun room => cycleEnd_lane runs probed pcc unstaged (by simp) (behind room)⟩
      · obtain ⟨pcc, behind⟩ := docks_held_pcc (st := .paused) detected good (.inr ⟨rfl, within good full, charges⟩)
        have ends := cycleEnd_pcc runs probed pcc unstaged (by simp)
        rw [nextCycle, Pcc.startCycle_full] at ends
        rw [if_neg charges, ends]
        exact ⟨rfl, rfl, rfl, rfl, rfl, rfl, rfl, rfl,
          fun room => cycleEnd_lane runs probed pcc unstaged (by simp) (behind room)⟩
  · obtain ⟨pcc, behind⟩ := fills_pcc session good full resume
    rw [Pcc.filled_eq] at pcc
    have ends := cycleEnd_pcc runs probed pcc unstaged (by simp)
    rw [nextCycle, Pcc.startCycle_full] at ends
    simp only [filledRecord, penRecord, State.onPcc, Pcc.filled_eq] at behind
    subst full
    rw [ends]
    exact ⟨rfl, rfl, rfl, rfl, rfl, rfl, rfl, rfl,
      fun room => cycleEnd_lane runs probed pcc unstaged (by simp) (behind room)⟩
  · obtain ⟨pcc, behind, wakes⟩ := removes_pcc charge silent few enough
    rw [Pcc.removed_eq] at pcc
    have ends := cycleEnd_pcc runs probed pcc unstaged (by simp)
    rw [nextCycle, Pcc.startCycle_full] at ends
    simp only [removedRecord, penRecord, State.onPcc, Pcc.removed_eq] at behind
    have sleep := cycleEnd_sleep runs probed pcc unstaged (by simp)
    rw [ends, sleep]
    exact ⟨rfl, rfl, rfl, rfl, rfl, rfl, rfl,
      fun room => cycleEnd_lane runs probed pcc unstaged (by simp) (behind room), wakes⟩

end Sys2Proof.Machine
end
